-- ==== Sys2Proof/Word.lean ====
section
/-! DEFINITION. Word types of the block and their plainest arithmetic. -/

namespace Sys2Proof

/-- One byte (R17). -/
abbrev Byte := BitVec 8
/-- A 16-bit value: a Henpen status code (R107). -/
abbrev W16 := BitVec 16
/-- A 32-bit register or free-running 32-bit index. -/
abbrev W32 := BitVec 32
/-- A 64-bit register, address or synchronisation word. -/
abbrev W64 := BitVec 64
/-- A table of entries by number, sorted by key, no key twice (canonical form). -/
abbrev Tbl (α : Type) := List (Nat × α)

end Sys2Proof
end

