-- ==== Sys2Proof/Parts.lean ====
section
/-! DEFINITION. The parts of which the block's state is made: plain data, one structure for each thing the spec names. -/

namespace Sys2Proof.Machine

open Sys2Proof

/-- Bytes of an addressed RAM of the block, in canonical form: addresses strictly rising, no listed byte zero. -/
abbrev Memory := List Host.Cell

/-! ## Build -/

/-- Build-time parameters (R2, R72 to R74, R496), and the frequency of the HCLK input in MHz (R494). -/
structure Build where
  nibs         : Nat
  splitters    : Nat
  mirrored     : Bool
  stitchers    : Nat
  engineQueues : Nat
  hclkMax      : Nat
  nclkMax      : Nat
  hubPos       : Nat
  buildId      : W32
  hclk         : Nat
  deriving DecidableEq, Repr

/-! ## Ductus -/

/-- State of the epoch logic (R37, encoding R63). -/
inductive EpochState where
  | unset | armed | locked | holdover
  deriving DecidableEq, Repr

/-- A trace record (R46 to R49). -/
structure TraceRec where
  stamp   : Nat
  typ     : Nat
  debug   : Bool
  unaligned : Bool
  ao      : Bool
  source  : Nat
  seq     : W32
  payload : BitVec 128
  deriving DecidableEq, Repr

/-- What a dropping buffer remembers until its LOSS record (R57, R49 type 0xF2). -/
structure LossInfo where
  count      : Nat
  firstStamp : Nat
  deriving DecidableEq, Repr

/-! ## Host target port -/

/-- A control-aperture access (R498). `size` is the HREQ_SIZE code. -/
structure HtpAccess where
  agent  : Nat
  write  : Bool
  offset : Nat
  size   : Nat
  data   : BitVec 512
  deriving DecidableEq, Repr

/-- A read response as driven on HRSP (R498). -/
structure HtpResponse where
  agent : Nat
  err   : Bool
  data  : BitVec 512
  deriving DecidableEq, Repr

/-- The high half latched by an agent's low-half read (R69). -/
structure ReadLatch where
  offset : Nat
  high   : W32
  deriving DecidableEq, Repr

/-- The low half an agent has staged for a 64-bit register (R69). -/
structure StagedLow where
  agent  : Nat
  offset : Nat
  low    : W32
  deriving DecidableEq, Repr

/-- A doorbell pending in the catcher (R80); `traced` where its category was enabled when it was stamped (R60). -/
structure Doorbell where
  page   : Nat
  index  : Nat
  tail   : W32
  handle : W32
  stamp  : Nat
  ao     : Bool
  traced : Bool
  deriving DecidableEq, Repr

/-- A doorbell write held on the channel, behind a full catcher or before REFCLK_OK (R80, R443); `formed` where its size,
alignment and high half are those of R77. -/
structure HeldDoorbell where
  page   : Nat
  index  : Nat
  tail   : W32
  formed : Bool
  deriving DecidableEq, Repr

/-! ## Mailboxes -/

/-- Mailbox states (R83, encoding R88). -/
inductive MbxState where
  | free | idle | posted | busy | done
  deriving DecidableEq, Repr

/-- One mailbox (R81 to R90). -/
structure Mailbox where
  owner    : Nat
  state    : MbxState
  irqEn    : Bool
  inkBase  : Nat
  inkCount : Nat
  toFw     : Nat
  toHost   : Nat
  reqLen   : Nat
  respLen  : Nat
  result   : W16
  seen     : Nat
  forced   : Bool
  deriving DecidableEq, Repr

/-! ## Muand (08) -/

/-- An address stream (R241). -/
structure Stream where
  role       : Nat
  format     : Nat
  scaleKind  : Nat
  scaleOf    : Nat
  baseReg    : Nat
  klevels    : Nat
  tileK      : Nat
  baseOffset : Int
  span       : Nat
  strides    : List Int
  deriving DecidableEq, Repr

/-- A used slot entry of a template (R247). -/
structure PaySlot where
  source   : Nat
  position : Nat
  kind     : Nat
  deriving DecidableEq, Repr

/-- A macro-op template (R246). -/
structure Template where
  payload  : List Byte
  slots    : List PaySlot
  cls      : Nat
  eq       : Nat
  activity : Nat
  level    : Nat
  exit     : Bool
  deps     : List Nat
  duration : Nat
  deriving DecidableEq, Repr

/-- One scalar operation (R251). -/
structure ScalarOp where
  op  : Nat
  dst : Nat
  a   : Nat
  b   : Nat
  imm : Int
  deriving DecidableEq, Repr

/-- A variant section (R236). -/
structure Variant where
  targetNibs : Nat
  cores      : Nat
  depth      : Nat
  dmemBytes  : Nat
  lookahead  : Nat
  perEntry   : Bool
  trigLevel  : Nat
  counts     : List Nat
  nibLevel   : Option Nat
  coreLevel  : Option Nat
  streams    : List Stream
  templates  : List Template
  ops        : List ScalarOp
  deriving DecidableEq, Repr

/-- A registered pattern (R128, R234, R235, R254). -/
structure Pattern where
  storeEntry  : Nat
  stateTag    : W32
  constMin    : Nat
  paramUsed   : W16
  paramSigned : W16
  bounds      : List (W64 × W64)
  variantNo   : Nat
  body        : Variant
  deriving DecidableEq, Repr

/-- What a pattern index of a context holds (R129, R253). -/
inductive PatContent where
  | empty
  | pattern (p : Pattern)
  | group (members : List W32)
  deriving DecidableEq, Repr

/-- A pattern index: its generation and content (R253). -/
structure PatSlot where
  gen     : Nat
  content : PatContent
  deriving DecidableEq, Repr

/-! ## Contexts, events, partitions -/

/-- Event state (R299). -/
structure EventState where
  arm    : Nat
  recd   : Nat
  last   : W16
  cached : Bool
  deriving DecidableEq, Repr

/-- Context states (R144). -/
inductive CtxState where
  | free | active | faulted | bindingOff
  deriving DecidableEq, Repr

/-- A running kill procedure (R151): its cause, its start and whether steps 1 to 3 have been done. -/
structure Kill where
  cause : W16
  since : Nat
  eventsDone : Bool
  deriving DecidableEq, Repr

/-- A context slot (R139 to R146, R120). -/
structure Ctx where
  gen       : Nat
  retired   : Bool
  state     : CtxState
  pasid     : Nat
  partition : Option Nat
  kernel    : Bool
  budget    : Nat
  pages     : List Nat
  fault     : W16
  kill      : Option Kill
  deadline  : Option Nat
  idle      : Bool
  releasing : Bool
  energyUj  : Nat
  energyRem : Nat
  events    : Tbl EventState
  patterns  : Tbl PatSlot
  deriving DecidableEq, Repr

/-- A purl phase of a partition (R385). -/
inductive PurlPhase where
  | descending | holding | draining
  deriving DecidableEq, Repr

/-- A running purl phase (R384, R385): its floor and P0 in pJ per interval, its energy in 1/4096 pJ. -/
structure Purl where
  phase    : PurlPhase
  p0       : Nat
  floor    : Nat
  energy   : Nat
  barriers : List Nat
  deriving DecidableEq, Repr

/-- A phase hint of a partition (R224, R383). -/
structure Hint where
  t0      : Nat
  leadUs  : Nat
  load    : Nat
  durUs   : Nat
  cls     : Nat
  level   : Nat
  ramping : Bool
  deriving DecidableEq, Repr

/-- A partition (R156 to R162) with Feed's state of it (R365, R371 to R373, R380 to R389): `bare` is the last interval's estimate
without purl, `reclaimed` says that its borrowed share has shrunk under a reclaim and it is over a limit still (R382). -/
structure Part where
  nibs         : List Nat
  power        : Nat
  bandwidth    : Nat
  effective    : Nat
  hold         : Bool
  target       : Nat
  lent         : Nat
  borrowed     : Nat
  waitingSince : Option Nat
  intervals    : List Nat
  buckets      : List Nat
  bucketAcc    : List Nat
  estimate     : Nat
  bare         : Nat
  reclaimed    : Bool
  purl         : Option Purl
  hint         : Option Hint
  pace         : List Nat
  reasonNs     : List Nat
  maskSince    : Tbl Nat
  energyUj     : Nat
  energyRem    : Nat
  purlUj       : Nat
  purlRem      : Nat
  deriving DecidableEq, Repr

/-! ## Queues, submissions, commands -/

/-- An entry read ahead (R172): its read is outstanding, it has returned, or its read drew an error. -/
inductive RaEntry where
  | reading
  | got (bytes : List Byte) (stamp : Nat)
  | error (stamp : Nat)
  deriving DecidableEq, Repr

/-- The tail procedure of R175: the doorbell tail, the reads made, whether a read is outstanding and when the last
one returned. -/
structure TailProc where
  d        : W32
  reads    : Nat
  reading  : Bool
  returned : Nat
  deriving DecidableEq, Repr

/-- A constant-buffer reference (R212, R214): address and length in bytes; none names no buffer. -/
abbrev ConstRef := Option (W64 × Nat)

/-- A declared wait of a command (R207, R301 to R305). -/
inductive WaitState where
  | unregistered
  | reading
  | waiting (target : Nat)
  | satisfied (status : W16)
  deriving DecidableEq, Repr

/-- A wait entry of a command and how it stands. -/
structure CmdWait where
  handle : W32
  event  : Nat
  accept : Bool
  state  : WaitState
  deriving DecidableEq, Repr

/-- A patch entry (R208). -/
structure Patch where
  reg    : Nat
  member : Nat
  value  : W64
  deriving DecidableEq, Repr

/-- A parsed command that stays in the window (R206 to R231). -/
inductive CmdOp where
  | launch (pattern : W32) (const : ConstRef) (event : Option Nat) (params : List W64)
  | replay (group : W32) (const : ConstRef) (event : Option Nat) (params : List W64) (patches : List Patch) (member : Nat)
  | eventRecord (event : Nat)
  | eventWait
  | syncOp (op : Nat) (inMemory : Bool) (index : Nat) (addr value : W64)
  | syncWait (op : Nat) (inMemory : Bool) (index : Nat) (addr value mask : W64) (timeoutUs pollUs : Nat)
  | barrier (ident timeoutUs : Nat)
  | writeImm (size64 : Bool) (addr value : W64)
  | fenceFetch
  | partControl (partition : Nat) (release : Bool)
  | feedSet (watts : W32)
  | traceSet (maskValid mopValid : Bool) (mask mop : W32)
  | privWrite (size64 : Bool) (offset : Nat) (value : W64)
  | syncConfig (taskLocal : Bool) (first count : Nat) (value : W64)
  deriving DecidableEq, Repr

/-- Where a window command stands: parsed; begun (arrived, issued or dispatched, its end outstanding); complete. -/
inductive CmdState where
  | parsed | begun | complete
  deriving DecidableEq, Repr

/-- A command of a window (R202) with its parse order, the throttle reason that withholds it, whether Feed has granted
its allowance (R204, R374), and for a replay under way the members still to be dispatched (R216). -/
structure Cmd where
  off      : Nat
  parseNo  : Nat
  stamp    : Nat
  op       : CmdOp
  waits    : List CmdWait
  state    : CmdState
  withheld : Option Nat
  granted  : Bool
  rest     : List (Nat × Pattern)
  deriving DecidableEq, Repr

/-- A chain at FETCH (R171, R172): its entries, the code of a failed check, its cost (R178), its segments and the stamp
of its last entry. -/
structure Chain where
  entries : Nat
  code    : Option W16
  cost    : Nat
  segs    : List (W64 × Nat)
  stamp   : Nat
  deriving DecidableEq, Repr

/-- A fetched submission (R171, R192, R193, R212). `segs` is the stream from the parse point on, `held` the bytes read
from its start (none for a byte whose read drew an error), `asked` the length of the read outstanding after them, `pos`
the stream offset of the parse point; `params`, `const` and `version` are the launch state. -/
structure Sub where
  first    : W32
  entries  : Nat
  seq      : W64
  fetched  : Nat
  segs     : List (W64 × Nat)
  held     : List (Option Byte)
  asked    : Nat
  pos      : Nat
  header   : Bool
  explicit : Bool
  chains   : Nat
  params   : List W64
  const    : ConstRef
  version  : Nat
  cmds     : List Cmd
  parsed   : Bool
  failed   : Option W16
  retired  : Option W16
  deriving DecidableEq, Repr

/-- The rest of a failed submission's stream, read only for the events its unparsed commands would have recorded
(R192, R306). -/
structure Scan where
  segs   : List (W64 × Nat)
  held   : List (Option Byte)
  asked  : Nat
  chains : Nat
  header : Bool
  code   : W16
  deriving DecidableEq, Repr

/-- A device-side enqueue waiting for, or holding, a ring slot (R181, R287). -/
structure Reservation where
  nib    : Nat
  core   : Nat
  eq     : Nat
  mopSeq : Nat
  reqTag : Nat
  addr   : W64
  len    : Nat
  since  : Nat
  index  : Option W32
  written : Bool
  deriving DecidableEq, Repr

/-- A queue record (R163) with the Queue Engine's and Completion Unit's running state of it. -/
structure Queue where
  handle    : W32
  cls       : Nat
  kernel    : Bool
  device    : Bool
  weight    : Nat
  timeoutUs : Nat
  ringBase  : W64
  ringLog2  : Nat
  tailAddr  : W64
  wbAddr    : W64
  irqSource : Nat
  irqEn     : Bool
  dbPage    : Nat
  dbIndex   : Nat
  head      : W32
  fetch     : W32
  tail      : W32
  seq       : W64
  deficit   : Int
  error     : Option (W64 × W16)
  enabled   : Bool
  resident  : Bool
  parked    : Bool
  faulted   : Bool
  dme       : Nat
  lastBell  : Nat
  loading   : Bool
  ra        : List RaEntry
  raDrop    : Nat
  tailProc  : Option TailProc
  tailDrop  : Nat
  subs      : List Sub
  scans     : List Scan
  cbDrop    : Nat
  wbPending : Bool
  wbFlight  : Bool
  advStamp  : Nat
  irqPending : Bool
  resetting : Bool
  adminCode : W16
  resv      : List Reservation
  resvTail  : W32
  energyUj  : Nat
  energyRem : Nat
  deriving DecidableEq, Repr

/-- The arbiter's place in one class (R178): the queue it last visited and whether that visit is open. -/
structure ArbVisit where
  queue : Nat
  visiting : Bool
  deriving DecidableEq, Repr

/-! ## Tasks in flight -/

/-- One position of a task at the Hub (R290, R293, R314). -/
structure Pos where
  nib     : Nat
  epoch   : W32
  migrated : Bool
  counted : Bool
  drain   : Option Nat
  deriving DecidableEq, Repr

/-- A NONFINITE report: its stamp and engine address (R278, R280). -/
structure NonFinite where
  stamp  : Nat
  engine : Nat
  deriving DecidableEq, Repr

/-- A task in flight (R260, R314, R315). -/
structure Task where
  queue     : Nat
  sub       : W64
  off       : Nat
  slot      : Nat
  pasid     : Nat
  partition : Nat
  patIndex  : Nat
  storeEntry : Nat
  stateTag  : W32
  const     : ConstRef
  params    : List W64
  paramUsed : W16
  positions : List Pos
  status    : W16
  rank      : Nat
  nf        : Option NonFinite
  deriving DecidableEq, Repr

/-! ## Synchronisation (11) -/

/-- Who waits or operates on a word (R329, R340): a command of a queue, an engine through its Nib, the host window,
the debugger, or nobody. -/
inductive SyncParty where
  | queue (q : Nat) (sub : W64) (off : Nat)
  | engine (nib core eq mopSeq reqTag : Nat) (tag : Nat)
  | host
  | debugger
  deriving DecidableEq, Repr

/-- What a wait is on: a word (R323, R324), or a barrier's release (R353). -/
inductive WordRef where
  | sram (index : Nat)
  | mem (pasid : Nat) (addr : W64)
  | barrier (ident : Nat)
  deriving DecidableEq, Repr

/-- A wait on a word (R326, R332, R333, R336). -/
structure SyncWait where
  ident     : Nat
  handle    : W32
  partition : Option Nat
  word      : WordRef
  op        : Nat
  value     : W64
  mask      : W64
  party     : SyncParty
  since     : Nat
  timeoutUs : Nat
  pollUs    : Nat
  registered : Bool
  held      : Bool
  deriving DecidableEq, Repr

/-- A watch slot (R333, R334). -/
structure Watch where
  pasid     : Nat
  partition : Option Nat
  addr      : W64
  periodUs  : Nat
  lastPoll  : Option Nat
  polling   : Bool
  deriving DecidableEq, Repr

/-- Progress of a memory-word operation (R328); `resolving` after a takeover (R482). -/
inductive MemOpPhase where
  | queued | setting | reading | swapping (old new : W64) | resolving (old new : W64)
  deriving DecidableEq, Repr

/-- A SET or ADD on a memory word (R328). -/
structure MemOp where
  ident     : Nat
  add       : Bool
  pasid     : Nat
  partition : Option Nat
  addr      : W64
  value     : W64
  handle    : W32
  party     : SyncParty
  phase     : MemOpPhase
  deriving DecidableEq, Repr

/-- A counter pair of a SKEIN entry (R356). -/
structure AlignPair where
  p     : Nat
  c     : Nat
  k     : Nat
  slack : Nat
  deriving DecidableEq, Repr

/-- An entry of the SKEIN table (R343). -/
structure SkeinEntry where
  barrier       : Nat
  partition     : Nat
  children      : Nat
  nibCores      : Nat
  queueArrivals : Nat
  parent        : Option Nat
  timeoutUs     : Nat
  startGen      : W32
  pasid         : Nat
  upAddr        : W64
  releaseAddr   : W64
  arriveBase    : W64
  pairs         : List AlignPair
  childDevice   : List Nat
  childRelease  : List W64
  deriving DecidableEq, Repr

/-- A running barrier instance at this device (R347 to R351). -/
structure BarrierRun where
  entry     : SkeinEntry
  gen       : W32
  since     : Nat
  upWait    : Bool
  nibsWanted : List Nat
  nibsHere  : List Nat
  arrivedQueues : Nat
  childDone : List (Option (Nat × Nat))
  late      : Nat × Nat
  lastPoll  : Option Nat
  resealed  : Bool
  deriving DecidableEq, Repr

/-- An arrival that waits because 16 instances run (R347). -/
structure LateArrival where
  barrier : Nat
  nibs    : List Nat
  party   : Option SyncParty
  deriving DecidableEq, Repr

/-! ## Yarn messages -/

/-- A task message (R260, R261). -/
structure TaskMsg where
  migrated   : Bool
  position   : Nat
  pasid      : Nat
  partition  : Nat
  tag        : Nat
  patIndex   : Nat
  epoch      : W32
  storeEntry : Nat
  stateTag   : W32
  const      : ConstRef
  placement  : List Nat
  paramUsed  : W16
  params     : List W64
  deriving DecidableEq, Repr

/-- A reply to an engine SYNC request (R331, R513). -/
structure SyncReply where
  nib : Nat
  core : Nat
  eq : Nat
  mopSeq : Nat
  reqTag : Nat
  result : Nat
  value  : W64
  code   : W16
  deriving DecidableEq, Repr

/-- A message down Yarn (R22, R260, R285, R287, R292, R338, R351). -/
inductive DownMsg where
  | task (m : TaskMsg)
  | withdraw (nib tag : Nat) (epoch : W32) (position : Nat)
  | syncReply (r : SyncReply)
  | enqueueReply (nib core eq mopSeq reqTag result : Nat) (queue : Nat) (entryAddr : W64) (segAddr : W64) (len : Nat) (pasid : Nat)
  | residue (nib tag : Nat) (epoch : W32) (values : List W64)
  | release (nibs : List Nat) (partition barrier : Nat) (gen : W32) (code : W16)
  | invalidate (nib itag : Nat) (pasid : Option Nat) (page size : Nat)
  | abort (nibs : List Nat) (pasid : Option Nat) (cause : W16)
  deriving DecidableEq, Repr

/-- A completion message (R278, R313). -/
structure DoneMsg where
  migrated : Bool
  folded   : Bool
  splitter : Nat
  position : Nat
  tag      : Nat
  status   : W16
  epoch    : W32
  arrived  : List Nat
  nf       : Option NonFinite
  deriving DecidableEq, Repr

/-- An engine SYNC request as it travels to the Sync Unit (R330). -/
structure SyncReq where
  nib : Nat
  core : Nat
  eq : Nat
  mopSeq : Nat
  reqTag : Nat
  tag : Nat
  op : Nat
  inMemory : Bool
  index : Nat
  addr : W64
  value : W64
  mask : W64
  timeoutUs : Nat
  pollUs : Nat
  since : Nat
  deriving DecidableEq, Repr

/-- A message up Yarn (R22, R278, R287, R292, R330, R338, R349). -/
inductive UpMsg where
  | done (m : DoneMsg)
  | withdrawn (nib tag : Nat) (epoch : W32) (position : Nat)
  | started (nib tag : Nat) (epoch : W32) (position : Nat)
  | unknown (nib tag : Nat) (epoch : W32) (position : Nat)
  | sync (r : SyncReq)
  | residue (nib tag : Nat) (epoch : W32) (words : List Nat)
  | barrier (nibs : List Nat) (ident : Nat) (partition : Nat)
  | enqueue (nib core eq mopSeq reqTag : Nat) (pasid queue : Nat) (addr : W64) (len : Nat)
  | entryWritten (queue : Nat) (nib core eq mopSeq reqTag : Nat)
  | invalidated (nib itag : Nat)
  deriving DecidableEq, Repr

/-- A fan-in counter of a splitter (R310). -/
structure FanIn where
  tag      : Nat
  epoch    : W32
  expected : List Nat
  arrived  : List Nat
  status   : W16
  rank     : Nat
  nf       : Option NonFinite
  deriving DecidableEq, Repr

/-- Barrier arrivals folded at a splitter (R349). -/
structure BarrierFold where
  ident     : Nat
  partition : Nat
  here      : List Nat
  deriving DecidableEq, Repr

/-- How a link stands in training (R444, R445). -/
inductive LinkState where
  | inReset | waiting | training (attempts : Nat) | up | absent
  deriving DecidableEq, Repr

/-- A Yarn Splitter (R310, R444, R479, R41). -/
structure Splitter where
  link      : LinkState
  down      : List DownMsg
  up        : List UpMsg
  counters  : List FanIn
  barriers  : List BarrierFold
  replay    : List UpMsg
  forwarded : Nat
  primaryPeer : Bool
  released  : Bool
  heard     : Nat
  offset    : Option Int
  slew      : Int
  unaligned : Bool
  alignedAt : Option Nat
  testMode  : Bool
  deriving DecidableEq, Repr

/-! ## Nibs (09) -/

/-- Power states of a Nib (R462). -/
inductive NibPower where
  | off | idle | run
  deriving DecidableEq, Repr

/-- A macro-op packet with what the Nib knows of it (R249, R271, R273). `uid` numbers packets of a Nib as formed. -/
structure Packet where
  uid      : Nat
  tag      : Nat
  epoch    : W32
  pasid    : Nat
  partition : Nat
  template : Nat
  activity : Nat
  payload  : List Byte
  iter     : Nat
  deps     : List Nat
  purl     : Bool
  deriving DecidableEq, Repr

/-- An unanswered engine request (R281). -/
structure OpenReq where
  reqTag  : Nat
  kind    : Nat
  syncWait : Bool
  barrier : Option Nat
  word    : Option Nat
  addr    : W64
  len     : Nat
  write   : Bool
  deriving DecidableEq, Repr

/-- An outstanding macro-op (R274, R275). `returned` marks one whose token has returned while requests of it are still
unanswered (R278). -/
structure OutMop where
  mopSeq : Nat
  packet : Packet
  reqs   : List OpenReq
  returned : Bool
  deriving DecidableEq, Repr

/-- The abort a port carries (R511): every macro-op, or those of one PASID. -/
inductive AbortCover where
  | all
  | pasid (p : Nat)
  deriving DecidableEq, Repr

/-- An engine queue and its port (R271 to R274, R511). `mop` is the packet driven last (R273), `reply` the replies driven last
(R513). -/
structure EngineQueue where
  credits : Nat
  cls     : Nat
  opened  : Bool
  buf     : List Packet
  out     : List OutMop
  nextSeq : Nat
  abort   : Option AbortCover
  abortSince : Nat
  abortWaiting : List Nat
  mop     : List Byte
  reply   : List (List Byte)
  deriving DecidableEq, Repr

/-- A Stitcher on a task (R239, R248, R252, R269, R289). `todo` is what is left to emit at the current point; none
where the point has not begun. -/
structure Stitcher where
  core    : Nat
  tag     : Nat
  epoch   : W32
  index   : List Nat
  flat    : Nat
  todo    : Option (List Nat)
  ended   : Bool
  dmem    : List W64
  lastUid : Tbl Nat
  parked  : Bool
  ahead   : Nat
  ranOnce : Bool
  deriving DecidableEq, Repr

/-- A task held by a Nib (R263 to R268, R278, R337). `fatal` is its first context-fatal or abort status (R279), `doneAt` when its
last token was accepted (R45), `energy` what its tokens have cost since the last report, in 1/4096 pJ (R390). -/
structure NibTask where
  msg      : TaskMsg
  position : Nat
  slot     : Nat
  constant : Option (List Byte)
  started  : Bool
  arrivedAt : Nat
  abort    : Option W16
  fatal    : Option W16
  waiter   : Option W16
  residue  : List (Nat × W64 × Nat)
  residuePending : List (Nat × Nat)
  residueAsked : Bool
  doneAt   : Option Nat
  energy   : Nat
  nf       : Option NonFinite
  deriving DecidableEq, Repr

/-- A state slot of a Nib (R264). -/
structure StateSlot where
  tag      : Option W32
  entry    : Nat
  body     : Option Variant
  lastUsed : Nat
  deriving DecidableEq, Repr

/-- A cached translation (R282). `page` and `size` in bytes; `reserved` the Stitcher in whose part of the reserved pool it
lies. -/
structure Tlb where
  pasid    : Nat
  page     : Nat
  size     : Nat
  target   : W64
  readable : Bool
  writable : Bool
  reserved : Option Nat
  deriving DecidableEq, Repr

/-- A Nib (09). `openedAt` is when its last core opened (R378), `lastBusy` when a macro-op other than purl was last issued or
returned its token (R381); `meter` and `purlMeter` hold the pJ of the active cycles of this interval, and of purl's among them, and
`cycleFrac` the thousandths of an NCLK cycle left over (R366). -/
structure Nib where
  link      : LinkState
  via       : Nat
  die       : Nat
  ports     : List (List Nat × List Nat)
  firstReport : Option (Nat × List (List Nat × List Nat))
  power     : NibPower
  waking    : Bool
  idleSince : Nat
  level     : Nat
  increment : Nat
  down      : List DownMsg
  up        : List UpMsg
  tasks     : List NibTask
  slots     : List StateSlot
  stitchers : List Stitcher
  cores     : List (List EngineQueue)
  openCores : Nat
  openedAt  : Nat
  lastBusy  : Nat
  meter     : Nat
  purlMeter : Nat
  cycleFrac : Nat
  lastCore  : Nat
  nextUid   : Nat
  cache     : List Tlb
  enqueues  : List DownMsg
  barrierCores : Tbl (List Nat)
  invalidations : List (Nat × Option Nat × List Nat)
  purl      : Nat
  offset    : Option Int
  slew      : Int
  unaligned : Bool
  alignedAt : Option Nat
  traceBuf  : List TraceRec
  traceLoss : Option LossInfo
  sampled   : Tbl Nat
  trainFrom : Nat
  testMode  : Bool
  deriving DecidableEq, Repr

/-! ## Memory and translation ports -/

/-- An operation of a Memory Initiator Port (R501). -/
inductive MemOpKind where
  | read | write | cas
  deriving DecidableEq, Repr

/-! ## Feed -/

/-- A rail group (R362 to R365, R369, R391 to R393, R517); `zeroed` says that the halt has requested level 0 (R394). -/
structure Rail where
  level       : Nat
  trim        : Nat
  trimWanted  : Nat
  thermalCeil : Nat
  flowCeil    : Nat
  request     : Option (Nat × Nat × Nat)
  lastStep    : Option Nat
  corr        : Nat
  corrCount   : Nat
  clampRun    : Nat
  charge      : Nat
  debt        : Nat
  temp        : Option Int
  tempMissing : Nat
  lastTemp    : Int
  marginLow   : Bool
  drooped     : Bool
  powerMw     : Option Nat
  powerSum    : Nat
  powerCount  : Nat
  rawWindow   : Nat
  zeroed      : Bool
  lastRelease : Option Nat
  deriving DecidableEq, Repr

/-- An entry of the wake scheduler (R377, R378). -/
structure WakeEntry where
  nib       : Nat
  partition : Option Nat
  deriving DecidableEq, Repr

/-! ## Microengines -/

/-- A microcode address (R418). -/
structure McodeAddr where
  space : Nat
  addr  : Nat
  deriving DecidableEq, Repr

/-- A Dispatch Microengine's sequencer (R420, R423 to R426): `next` is the word it fetches next, `sinceSafe` counts words since
the last one with SAFE, and freeze, kill, stopCount and wake are its latched events. -/
structure Dme where
  stopped   : Bool
  next      : McodeAddr
  stack     : List McodeAddr
  resume    : McodeAddr
  inHandler : Bool
  sinceSafe : Nat
  freeze    : Bool
  kill      : Bool
  stopCount : Bool
  wake      : Bool
  deriving DecidableEq, Repr

/-- A match register (R427). -/
structure MatchReg where
  copybook : Nat
  margin   : Nat
  deriving DecidableEq, Repr

/-! ## Faults -/

/-- A Blotter record (R467). -/
structure BlotRec where
  stamp  : Nat
  seq    : W32
  code   : W16
  kind   : Nat
  fromFollower : Bool
  hubPos : Nat
  source : Nat
  object : BitVec 320
  deriving DecidableEq, Repr

/-! ## Henpen commands in progress -/

/-- Where a Henpen command came from (R100). -/
inductive Origin where
  | mailbox (n : Nat)
  | admin (sub : W64)
  deriving DecidableEq, Repr

/-- A Henpen command in progress (R110, R111). `bulk` is the bulk data taken so far, `slots` the Inkwell slots moved,
`handed` the bytes handed to the host. -/
structure Prog where
  ident    : Nat
  origin   : Origin
  request  : List Byte
  bulk     : List Byte
  slots    : Nat
  handed   : Nat
  waitFrom : Nat
  pendingAnswer : Bool
  deriving DecidableEq, Repr

/-- The response of an admin submission on its way to RESP_ADDR (R106): the submission, the status it retires with when the
response is visible, and what is written. -/
structure AdminAnswer where
  sub    : W64
  status : W16
  addr   : W64
  data   : List Byte
  deriving DecidableEq, Repr

/-- A Henpen response for a mailbox (R103). -/
structure Response where
  box     : Nat
  command : Nat
  status  : W16
  bytes   : List Byte
  deriving DecidableEq, Repr

/-- A staged or running Henpen image (R135, R434, R435). -/
structure Image where
  version  : W16
  rollback : W32
  bytes    : List Byte
  deriving DecidableEq, Repr

/-- States of an online exchange (R136). -/
inductive Exchange where
  | none | draining | switching
  deriving DecidableEq, Repr

/-! ## Configuration -/

/-- States of the configuration (R456). -/
inductive CfgState where
  | training | ready | incomplete | sealed | sealBroken | halted
  deriving DecidableEq, Repr

/-- Roles of a Hub (R475, encoding R490). -/
inductive Role where
  | single | syncing | following | claiming | primaryMirrored | primaryAlone | yielded | detached
  deriving DecidableEq, Repr

/-- States of the boot load (R437). -/
inductive BootState where
  | waitKeys | opened | checking | running | failed
  deriving DecidableEq, Repr

/-- Power states of the Hub (R461). -/
inductive HubState where
  | active | doze | sleep
  deriving DecidableEq, Repr

/-- The live Feed limits (R397). -/
structure FeedLimits where
  peakCapW : Nat
  sustainedCapW : Nat
  baseW : Nat
  peakWindowUs : Nat
  rampBudget : Nat
  staggerNs : Nat
  eqOpenNs : Nat
  stepMinUs : Nat
  thermalLimit : Int
  thermalHyst : Nat
  flowMin : Nat
  flowCapLevel : Nat
  bootLevel : Nat
  maxLevel : Nat
  fillClass : Nat
  fillPrewarm : Nat
  lendRetain : Nat
  downSlopeW : Nat
  fillBudgetUj : Nat
  fillDuration : Nat
  marginLow : Nat
  nclkMhz : List Nat
  fillPayload : List Byte
  railGroup : List Nat
  deriving DecidableEq, Repr

/-- Everything of the configuration that a seal makes live (R454). -/
structure LiveConfig where
  useNibs     : List Nat
  deliverable : Nat
  energy      : List Byte
  limits      : Option FeedLimits
  skein       : List SkeinEntry
  deviceId    : Nat
  partCrc     : Option W32
  sealCrc     : W32
  sealed      : Bool
  deriving DecidableEq, Repr

/-! ## The Sync Unit and what the mirror carries -/

/-- The Sync Unit's state (11). `words` lists the Sync SRAM words that are not 0 and `taskLocal` the words whose
TASK_LOCAL attribute is 1 (R323); `waits` the wait entries and the waits not registered yet (R332); `watches` the watch
slots (R333); `memOps` the memory-word SETs and ADDs in progress (R328); `barriers` the running instances (R347);
`gens` the barrier generations by identifier (R347). -/
structure SyncUnit where
  words     : Tbl W64
  taskLocal : List Nat
  waits     : List SyncWait
  nextWait  : Nat
  watches   : Tbl Watch
  memOps    : List MemOp
  nextOp    : Nat
  barriers  : List BarrierRun
  gens      : Tbl W32
  late      : List LateArrival
  deriving DecidableEq, Repr

/-- A downward message with the sequence of its flit header (R479). -/
structure DownSent where
  splitter : Nat
  seq      : Nat
  msg      : DownMsg
  deriving DecidableEq, Repr

/-- Ductus state that the mirror carries (R35, R476): the master count with its interpolation, the loads made, the epoch
state and its last edge. -/
structure MirrorTime where
  count  : Nat
  phase  : Nat
  loads  : Nat
  epoch  : EpochState
  lastEdge : Nat
  traceWr : W32
  blotWr : W32
  blotRd : W32
  deriving DecidableEq, Repr

/-- The firmware images and their exchange, which a follower makes with its primary (R136, R486; log 131): what runs, what is staged,
the exchange, IDN_FW_VERSION, LAST_EXCHANGE, CPB_HENPEN_ROLLBACK and the latch of source 0x3C9. -/
structure MirrorImages where
  image    : Option Image
  staged   : Option Image
  exchange : Exchange
  version  : W16
  last     : W16
  rollback : W32
  latch    : Bool
  deriving DecidableEq, Repr

/-- What the follower knows of the primary's firmware (R112; log 131): the mailboxes with their buffers and slots, the commands in
progress, the responses that the primary holds back, and those on their way to RESP_ADDR. -/
structure MirrorFirmware where
  boxes     : List Mailbox
  data      : Memory
  ink       : Memory
  progs     : List Prog
  nextProg  : Nat
  answers   : List AdminAnswer
  responses : List Response
  images    : MirrorImages
  deriving DecidableEq, Repr

/-- The mirrored state (R476): what a follower holds of the primary. -/
structure Mirrored where
  ctxs     : Tbl Ctx
  binds    : Tbl W32
  parts    : Tbl Part
  live     : LiveConfig
  cfg      : CfgState
  queues   : Tbl Queue
  tasks    : Tbl Task
  epoch    : W32
  parseNo  : Nat
  sync     : SyncUnit
  store    : Tbl (W32 × Variant)
  firmware : MirrorFirmware
  time     : MirrorTime
  downLog  : List DownSent
  deriving DecidableEq, Repr

/-- A mirror record (R476, R481): the mirrored state after the primary's change, the doorbells the primary took, and by splitter
how many upward messages it has confirmed since the record before (R479). -/
structure MirrorRecord where
  after : Mirrored
  took  : List (Nat × Nat × W32)
  confirmed : List (Nat × Nat)
  deriving DecidableEq, Repr

end Sys2Proof.Machine
end

