-- ==== Sys2Proof/Syntax.lean ====
section
/-! DEFINITION. The commands of the block: one constructor per row of spec/opcode_table.json, in the table's order.
The table gives its rows no operands; each constructor carries what its step takes from outside the block
(the agent and data of a host access, the answer of a port, the queue, Nib, splitter or port the event is of). -/

namespace Sys2Proof

/-- What one engine queue port shows when NIB_RESET_N is released (R511). -/
structure EqPort where
  credits : Nat
  cls     : Nat
  deriving DecidableEq, Repr

/-- A child on Yarn: a splitter below the Hub, or a Nib below its active splitter (R497). -/
inductive YarnChild where
  | splitter (sp : Nat)
  | nib (n : Nat)
  deriving DecidableEq, Repr

/-- A block of SJ4 (R1). -/
inductive BlockId where
  | hub
  | splitter (sp : Nat)
  | nib (n : Nat)
  deriving DecidableEq, Repr

/-- One probe exchange of an alignment round (R39): the parent's t1 and t4, the child's t2 and t3. -/
structure Probe where
  t1 : Int
  t2 : Int
  t3 : Int
  t4 : Int
  deriving DecidableEq, Repr

/-- The four stop-count registers of the DBG block (R297). -/
inductive StopReg where
  | qCtrl | qCount | nCtrl | nCount
  deriving DecidableEq, Repr

/-- Causes of a microcode fault (R423). -/
inductive McodeCause where
  | safe | ecc | stack | form
  deriving DecidableEq, Repr

/-- An outstanding memory request, named by what it serves (R503). -/
inductive MemWait where
  | tailWord (q : Nat)
  | ringEntry (q : Nat)
  | commandBytes (q : Nat)
  | writeBack (q : Nat)
  | writeImm (q : Nat)
  | syncOp (opId : Nat)
  | watchPoll (slot : Nat)
  | barrierPoll (barrier : Nat) (word : Option Nat)
  | queueRecord (q : Nat)
  | nibConstants (nib tag : Nat)
  | nibSlot (nib slot : Nat)
  | nibEntry (nib : Nat)
  | traceWrite
  | blotWrite
  | tailStore (q : Nat)
  | relay (barrier : Nat)
  | adminAnswer (submission : Nat)
  | eventState (slot event : Nat)
  | privateWrite
  deriving DecidableEq, Repr

/-- The comparison of one 4 KiB region of mirrored state (R477). -/
structure RegionDigest where
  region    : Nat
  fullEqual : Bool
  liveEqual : Bool
  eccError  : Bool
  deriving DecidableEq, Repr

/-- The commands of SJ4 (spec/opcode_table.json). -/
inductive Instr where
  /-- DEVICE_RESET (R494): AO_RESET_N resets every domain of the Hub and, through Yarn, every splitter and Nib. -/
  | deviceReset
  /-- HUB_RESET (R494): HUB_RESET_N resets the Hub outside the always-on domain; start-up proceeds once it is released. -/
  | hubReset
  /-- SPLITTER_RESET (R494): SPL_RESET_N resets a Yarn Splitter. -/
  | splitterReset (sp : Nat)
  /-- NIB_RESET (R511): Release of NIB_RESET_N samples EQ_CREDITS and EQ_CLASS, and the Nib link stays in reset until training. -/
  | nibReset (nib : Nat) (die : Nat) (cores : List (List EqPort))
  /-- REFCLK_OK (R443): After 64 good REFCLK_25M periods the always-on domain stops holding HTP requests, starts the Ductus count and requests keys. -/
  | refclkOk
  /-- EPOCH_P_EDGE (R37): A sampled EPOCH_P edge loads, counts or slews the master count, or moves it to HOLDOVER, according to the epoch state. -/
  | epochPEdge
  /-- EPOCH_MISSED (R37): No EPOCH_P edge for 2 s while LOCKED sets EPOCH_MISSED, writes a Blotter record and enters HOLDOVER. -/
  | epochMissed
  /-- COOLANT_FAULT (R394): Two low samples of COOLANT_FAULT_N start the unstoppable halt: allowances are withheld, Nibs abort, rails step to level 0 and tasks retire with COOLANT_FAULT. -/
  | coolantFault
  /-- YLINK_DOWN (R510): A fall of YLINK_UP is link loss, and flits in flight are lost. -/
  | ylinkDown (link : YarnChild)
  /-- TEST_MODE (R524): A rise of TEST_MODE forces a block's outputs to rest, erases keys and loses functional state. -/
  | testMode (block : BlockId) (result : Option Bool)
  /-- KEY_DELIVERY (R519): The Key Port delivers the verification key, image key and rollback counter; the CPB state moves from WAIT_KEYS to OPEN, or to CHECKING if START is pending. -/
  | keyDelivery (kind : Nat) (words : List W32)
  /-- D_NOW_REPORT (R162): The fabric reports D_now on the Allowance Port; effective guarantees are rescaled, new rates are sent and a Blotter record is written. -/
  | dNowReport (gbs : Nat)
  /-- POWER_STEP_ACK (R517): A regulator acknowledgement sets the rail group's level and trim in effect, and Feed may send its next step. -/
  | powerStepAck (group : Nat) (level : Nat) (trim : Nat)
  /-- POWER_STEP_RETRY (R517): A step request unacknowledged for 100 µs is sent again with a POWER_STEP record. -/
  | powerStepRetry (group : Nat)
  /-- SENSE_SAMPLE (R518): A Sense Port sample of power, temperature, margin, droop or flow is taken into the current period. -/
  | senseSample (kind : Nat) (group : Nat) (value : W32)
  /-- SENSE_TICK (R391): Every 100 µs Feed updates each rail group's thermal and flow ceilings and flags missing samples. -/
  | senseTick
  /-- MIRROR_LINK_DOWN (R520): A fall of MRP_LINK_UP stops mirror records and heartbeats. -/
  | mirrorLinkDown
  /-- NCLK_CHANGE (R42): On NCLK_CHG the Nib reloads its Ductus interpolation increment. -/
  | nclkChange (nib : Nat) (level : Nat)
  /-- CONTROL_REGISTER_WRITE (R15): A host write to a register field that has no behaviour of its own, applied under its access code. -/
  | controlRegisterWrite (agent : Nat) (offset : Nat) (size : Nat) (data : BitVec 512)
  /-- HTP_REFUSED_ACCESS (R68): A control access outside R67 is discarded, or answered 0 with an error response, and is counted and recorded. -/
  | htpRefusedAccess (agent : Nat) (write : Bool) (offset : Nat) (size : Nat) (data : BitVec 512)
  /-- LOW_HALF_READ (R69): A 32-bit read of the low half of a 64-bit register latches the high half for the agent. -/
  | lowHalfRead (agent : Nat) (offset : Nat)
  /-- DUC_TIME_LO_READ (R66): A read of DUC_TIME_LO returns time [31:0] and latches [63:32] for the reading agent. -/
  | ducTimeLoRead (agent : Nat)
  /-- READ_CLEAR_REGISTER (R15): A read of an RC counter returns its value and clears it. -/
  | readClearRegister (agent : Nat) (offset : Nat)
  /-- DOORBELL_WRITE (R80): The catcher checks a doorbell write and latches or replaces the pending entry for its page and index, holding the channel not-ready when full. -/
  | doorbellWrite (offset : Nat) (size : Nat) (data : W64)
  /-- MBX_ACQUIRE (R81): A write to MBX_ACQUIRE of a FREE mailbox makes the writer owner and enters IDLE. -/
  | mbxAcquire (agent : Nat) (n : Nat) (value : W32)
  /-- MBX_RELEASE (R83): The owner's MBX_RELEASE frees an IDLE or DONE mailbox. -/
  | mbxRelease (agent : Nat) (n : Nat) (value : W32)
  /-- MBX_DOORBELL (R83): The owner's MBX_DOORBELL with a valid LENGTH posts the request and writes a MAILBOX seen record. -/
  | mbxDoorbell (agent : Nat) (n : Nat) (value : W32)
  /-- MBX_ACK (R83): The owner's MBX_ACK returns a DONE mailbox to IDLE and lowers its source. -/
  | mbxAck (agent : Nat) (n : Nat) (value : W32)
  /-- MBX_FORCE_FREE (R83): MBX_FORCE_FREE frees a mailbox, or marks a POSTED or BUSY one so that it frees on reaching DONE. -/
  | mbxForceFree (agent : Nat) (value : W32)
  /-- MBX_INK_WRITE (R90): The owner's write to MBX_INK while IDLE sets the Inkwell slot range if it fits and overlaps no other range. -/
  | mbxInkWrite (agent : Nat) (n : Nat) (value : W32)
  /-- MBX_DATA_WRITE (R82): The owner's write to the mailbox buffer in IDLE. -/
  | mbxDataWrite (agent : Nat) (offset : Nat) (size : Nat) (data : BitVec 512)
  /-- INKWELL_HOST_WRITE (R94): A host write to an Inkwell slot's payload or ownership word is checked against OWNER and the mailbox owner, or discarded and counted. -/
  | inkwellHostWrite (agent : Nat) (offset : Nat) (size : Nat) (data : BitVec 512)
  /-- INKWELL_SLOT_CONSUME (R96): Firmware reads a handed-over slot, consumes it, advances TO_FW and frees it. -/
  | inkwellSlotConsume (id : Nat) (eccError : Bool)
  /-- INKWELL_SLOT_TO_HOST (R97): Firmware writes a FREE slot with payload and OWNER HOST and advances TO_HOST. -/
  | inkwellSlotToHost (id : Nat) (payload : List Byte)
  /-- INK_TIMEOUT (R99): Firmware waiting 10 ms for its next slot ends the command with INK_TIMEOUT. -/
  | inkTimeout (id : Nat)
  /-- SYN_WINDOW_WRITE (R329): A host 8-byte write to the SYN window SETs a Sync SRAM word. -/
  | synWindowWrite (agent : Nat) (index : Nat) (value : W64)
  /-- DUC_ARM_WRITE (R36): Setting DUC_CTRL.ARM arms a whole-second load, or clears ARM and sets LOAD_REFUSED. -/
  | ducArmWrite (agent : Nat) (value : W32)
  /-- DUC_TRACE_ENABLE (R50): Setting TRACE_EN starts the trace writer with a TIME_SYNC record. -/
  | ducTraceEnable (agent : Nat) (value : W32)
  /-- DUC_TRACE_DISABLE (R60): Clearing TRACE_EN stops new records and starts the flush. -/
  | ducTraceDisable (agent : Nat) (value : W32)
  /-- TRACE_FLUSH_DONE (R60): When the writer holds no records after disable, TRACE_IDLE sets. -/
  | traceFlushDone
  /-- TIME_SYNC_RECORD (R50): Each crossing of a whole second of Hub time writes a TIME_SYNC record while trace is enabled. -/
  | timeSyncRecord
  /-- TRACE_RECORD_ARRIVAL (R51): A record reaching the trace writer is buffered, or dropped and counted if stale or without room. -/
  | traceRecordArrival (source : Option Nat)
  /-- TRACE_WRITE_VISIBLE (R55): Trace writes that have become visible advance DUC_TRACE_WR. -/
  | traceWriteVisible
  /-- ALIGNMENT_ROUND (R39): Every 1 ms the Hub, and then each splitter, runs four probe exchanges on each port and sends the child its offset. -/
  | alignmentRound (child : YarnChild) (probes : List Probe)
  /-- ALIGN_OFFSET_RECEIVED (R41): A child slews by the offset it receives, or sets its alignment fault if the offset exceeds 1,000 ns. -/
  | alignOffsetReceived (child : YarnChild)
  /-- CFG_SEAL_WRITE (R452): A CFG_SEAL write snapshots the tables and runs the seal checks. -/
  | cfgSealWrite (agent : Nat) (value : W32)
  /-- SEAL_CHECK_DONE (R454): The seal checks end; the tables commit and the state becomes SEALED, or the seal fails under R455. -/
  | sealCheckDone
  /-- CFG_LAUNCH_EN_WRITE (R459): Clearing CFG_CTRL.LAUNCH_EN holds launches, and setting it releases them. -/
  | cfgLaunchEnWrite (agent : Nat) (value : W32)
  /-- CPB_START (R437): Setting CPB_BOOT_CTRL.START begins the boot load, or records NOT_READY when no Henpen package is given. -/
  | cpbStart (agent : Nat) (value : W32)
  /-- BOOT_CHECK_DONE (R437): The patch and Henpen packages are checked and applied, and the image starts (RUNNING) or the load FAILS. -/
  | bootCheckDone
  /-- FLT_RESET_WRITE (R474): A write of KEY 0x5752 with WARM 1 to FLT_RESET starts a warm reset. -/
  | fltResetWrite (agent : Nat) (value : W32)
  /-- WARM_RESET (R474): Fetch, dispatch and Henpen stop and every Nib aborts; once tokens return, submissions retire with DEVICE_RESET and state outside the always-on domain resets. -/
  | warmReset
  /-- MIR_FAILOVER_ACK (R490): MIR_CTRL.FAILOVER_ACK lowers source 0x3C2. -/
  | mirFailoverAck (agent : Nat) (value : W32)
  /-- MIR_REJOIN (R490): MIR_CTRL.REJOIN starts SYNCING and the bulk copy from DETACHED. -/
  | mirRejoin (agent : Nat) (value : W32)
  /-- MIR_HUB_RESET (R490): MIR_CTRL.HUB_RESET with its key resets a YIELDED or DETACHED Hub and requests keys again. -/
  | mirHubReset (agent : Nat) (value : W32)
  /-- DBG_STOP_ARM (R295): Setting a stop's ENABLE, or writing its COUNT while ENABLE is 1, starts the count from K. -/
  | dbgStopArm (agent : Nat) (reg : StopReg) (value : W32)
  /-- DBG_RESUME (R295): DBG_RESUME clears a stop and re-arms its count while ENABLE is 1. -/
  | dbgResume (agent : Nat) (value : W32)
  /-- STOP_COUNT_REACHED (R295): A stop-count reaches K; the queue or Nib stops and sets its bit in DBG_STOP_STATUS. -/
  | stopCountReached (nibStop : Bool)
  /-- DBG_SYNC_GO (R359): Writing DBG_SYNC_CTRL.GO performs one debugger SET or ADD on a word and records the outcome. -/
  | dbgSyncGo (agent : Nat) (value : W32)
  /-- DBG_NF_COUNT_READ (R298): A read of DBG_NF_COUNT clears it and lets the next non-finite report replace the latched one. -/
  | dbgNfCountRead (agent : Nat)
  /-- DBG_SYNC_FAULT_COUNT_READ (R360): A read of DBG_SYNC_FAULT_COUNT clears it and lets the next sync fault record replace the latched payload. -/
  | dbgSyncFaultCountRead (agent : Nat)
  /-- IGA_CLAIM (R407): A claim read returns the highest-priority eligible source, puts it IN_SERVICE and clears the bound queues' IRQ_PENDING, or returns 0x3FF or 0x3FE. -/
  | igaClaim (agent : Nat) (target : Nat)
  /-- IGA_COMPLETE (R408): A complete from the owner returns the source to PENDING or IDLE; any other complete is a counted stray. -/
  | igaComplete (agent : Nat) (target : Nat) (value : W32)
  /-- IGA_SW_SET (R402): Writing 1s to IGA_SW_SET raises the software sources. -/
  | igaSwSet (agent : Nat) (value : W32)
  /-- IGA_SW_CLR (R402): Writing 1s to IGA_SW_CLR lowers the software sources. -/
  | igaSwClr (agent : Nat) (value : W32)
  /-- FEED_QE_SEL_WRITE (R401): A write to FEED_QE_SEL clears READY and fetches the selected queue's energy counter. -/
  | feedQeSelWrite (agent : Nat) (value : W32)
  /-- QUEUE_ENERGY_READY (R401): FEED_QE_UJ holds the selected counter and READY sets. -/
  | queueEnergyReady
  /-- FEED_TRIM_WRITE (R393): A write to FEED_TRIM sets a group's trim, applied with its next step or within 100 µs. -/
  | feedTrimWrite (agent : Nat) (group : Nat) (value : W32)
  /-- MANAGEMENT_CORE_TAKE (R110): The Management Core takes the next POSTED mailbox or admin request, in stamp order, up to 8 in progress. -/
  | managementCoreTake (request : List Byte) (bulk : List Byte)
  /-- BOOT_HELLO (R116): Returns the firmware version, configuration state, release and counts. -/
  | bootHello (id : Nat)
  /-- ADMIN_QUEUE_SETUP (R117): Casts on the admin context, binds its page and creates admin queue 0. -/
  | adminQueueSetup (id : Nat)
  /-- CFG_LOAD_TABLE (R118): Loads a configuration table through Inkwell and returns its CRC; a load while sealed breaks the seal. -/
  | cfgLoadTable (id : Nat)
  /-- CFG_QUERY (R119): Returns the configuration state, the first failing check and the table CRCs. -/
  | cfgQuery (id : Nat)
  /-- CTX_CAST_ON (R120): Takes a context slot, increments its generation and binds PASID, partition and doorbell pages. -/
  | ctxCastOn (id : Nat)
  /-- CTX_BIND_OFF (R121): Moves the context to BINDING_OFF, disables its queues and starts a deadline if FORCE is set. -/
  | ctxBindOff (id : Nat)
  /-- CTX_QUERY (R123): Returns a context's state, partition, flags, queues, fault and energy. -/
  | ctxQuery (id : Nat)
  /-- EVENT_ALLOC (R124): Allocates the lowest free run of COUNT event indices and resets their state. -/
  | eventAlloc (id : Nat)
  /-- EVENT_FREE (R124): Frees a range of allocated event indices with no pending wait. -/
  | eventFree (id : Nat)
  /-- QUEUE_CREATE (R125): Creates an enabled, empty queue with a new queue ID and doorbell index. -/
  | queueCreate (id : Nat)
  /-- QUEUE_DISABLE (R126): Disables a queue, which drains to IDLE under R185. -/
  | queueDisable (id : Nat)
  /-- QUEUE_ENABLE (R126): Enables a queue and schedules a tail-word read. -/
  | queueEnable (id : Nat)
  /-- QUEUE_DESTROY (R126): Frees the queue ID and local index of a disabled, IDLE queue. -/
  | queueDestroy (id : Nat)
  /-- QUEUE_QUERY (R127): Returns a queue's flags, head, tail and SEQ. -/
  | queueQuery (id : Nat)
  /-- PATTERN_REGISTER (R128): Verifies a Muand descriptor, translates the chosen variant and returns a pattern handle. -/
  | patternRegister (id : Nat)
  /-- PATTERN_GROUP_REGISTER (R129): Registers a group of live pattern handles and returns a group handle. -/
  | patternGroupRegister (id : Nat)
  /-- PATTERN_UNREGISTER (R129): Makes a pattern or group handle stop resolving. -/
  | patternUnregister (id : Nat)
  /-- PART_CREATE (R131): Creates a partition, granting Nibs, power fraction and bandwidth guarantee. -/
  | partCreate (id : Nat)
  /-- PART_DESTROY (R132): Destroys a partition that no live context names. -/
  | partDestroy (id : Nat)
  /-- PART_QUERY (R132): Returns a partition's granted Nibs, power fraction and effective guarantee. -/
  | partQuery (id : Nat)
  /-- QUERY_CLOCKS (R133): Returns HCLK, REFCLK status and the rail levels and NCLKs. -/
  | queryClocks (id : Nat)
  /-- QUERY_TEMPS (R133): Returns the rail group temperatures. -/
  | queryTemps (id : Nat)
  /-- QUERY_LIMITS (R133): Returns resource counts, the throttle mask and the caps. -/
  | queryLimits (id : Nat)
  /-- TRACE_CONTROL_CONFIGURE (R134): Writes the trace buffer, rate, PASID, mode, mask and selection unless trace is enabled. -/
  | traceControlConfigure (id : Nat)
  /-- TRACE_CONTROL_ENABLE (R134): Writes mask and selection and sets TRACE_EN. -/
  | traceControlEnable (id : Nat)
  /-- TRACE_CONTROL_DISABLE (R134): Clears TRACE_EN and answers once TRACE_IDLE is 1. -/
  | traceControlDisable (id : Nat)
  /-- FW_STAGE (R135): Authenticates and decrypts a Henpen package into the staging region. -/
  | fwStage (id : Nat)
  /-- FW_ACTIVATE (R136): Starts an online exchange: admin fetch pauses and no further command is taken. -/
  | fwActivate (id : Nat)
  /-- EXCHANGE_DRAINED (R136): With no command in progress, IDN_FW_VERSION reads 0 and mailboxes answer RETRY. -/
  | exchangeDrained
  /-- EXCHANGE_SWITCHED (R136): The new image passes self-test and runs, or the old image is restored; fetch resumes. -/
  | exchangeSwitched
  /-- RECOVER_QUEUE_RESET (R472): Starts a queue reset that waits for fetched submissions to retire. -/
  | recoverQueueReset (id : Nat)
  /-- QUEUE_RESET_DONE (R472): Clears FAULTED and the error state and schedules a tail-word read. -/
  | queueResetDone (q : Nat)
  /-- RECOVER_NIB_REINIT (R473): Loses a present Nib, holds its link in reset and retrains it. -/
  | recoverNibReinit (id : Nat)
  /-- NIB_REINIT_DONE (R473): The retrained Nib returns free in OFF if its report matches, or stays absent; a RECOVERY record is written. -/
  | nibReinitDone (nib : Nat) (trained : Bool) (die : Nat) (cores : List (List EqPort))
  /-- RECOVER_WARM_RESET (R138): Answers OK and then begins a warm reset. -/
  | recoverWarmReset (id : Nat)
  /-- RECOVER_FAILOVER (R480): The primary answers OK, sends FAILOVER_REQ and yields to its follower. -/
  | recoverFailover (id : Nat)
  /-- MC_WATCHDOG (R470): The Management Core watchdog expires; POSTED and BUSY mailboxes complete with MC_WATCHDOG and admin fetch stops. -/
  | mcWatchdog
  /-- DEVICE_FAULT (R470): A device fault sets its FLT_DEVICE bit, writes a record, raises 0x3C1 and, if fatal with a follower, starts failover. -/
  | deviceFault (bit : Nat) (detail : Nat)
  /-- MICROCODE_FAULT (R423): A DME meets a SAFE, ECC, STACK or FORM fault and stops, recorded in CPB_MCODE_FAULT. -/
  | microcodeFault (dme : Nat) (cause : McodeCause) (space : Nat) (address : Nat)
  /-- DME_EVENT_SERVICE (R424): At a safe point the DME enters the event vector and serves the highest-order pending event. -/
  | dmeEventService (dme : Nat) (upset : BitVec 192) (sel : Nat)
  /-- BIND_OFF_DEADLINE (R154): A forced bind-off's deadline expires and the kill procedure starts with KILLED_AT_DEADLINE. -/
  | bindOffDeadline (slot : Nat)
  /-- CONTEXT_RELEASE (R154): With invalidation acknowledged and IDLE set, pages, queues, events and patterns are freed and the slot becomes FREE or retired. -/
  | contextRelease (slot : Nat)
  /-- DOORBELL_TAKE (R175): The Queue Engine takes the oldest catcher entry, checks STALE, NO_QUEUE and DISABLED, and reads the tail word. -/
  | doorbellTake
  /-- QUEUE_RECORD_LOADED (R168): A queue-table read returns and the record becomes resident, assigned to a DME. -/
  | queueRecordLoaded (q : Nat)
  /-- QUEUE_EVICTION (R167): With more than 8176 states in use, the oldest evictable record is written back. -/
  | queueEviction
  /-- TAIL_WORD_RETURN (R174): The tail word returns and is accepted, starting read-ahead, or faults the queue with TAIL_INVALID. -/
  | tailWordReturn (q : Nat) (word : Option W64)
  /-- TAIL_REREAD (R175): 1 µs after a tail word short of the doorbell tail, the word is read again. -/
  | tailReread (q : Nat)
  /-- RING_ENTRY_RETURN (R172): Read-ahead ring entries return and are checked, and a complete chain is stamped FETCH. -/
  | ringEntryReturn (q : Nat) (entries : List (Option (List Byte)))
  /-- ARBITER_GRANT (R178): Each HCLK cycle the arbiter grants one chain of a ready queue by strict class and deficit round robin. -/
  | arbiterGrant
  /-- QUEUE_TIMEOUT (R182): The oldest fetched submission exceeds TIMEOUT_US and QUEUE_TIMEOUT is raised. -/
  | queueTimeout (q : Nat)
  /-- ENQUEUE_REQUEST (R287): The Hub accepts or refuses a device-side enqueue and reserves a ring slot. -/
  | enqueueRequest (sp : Nat)
  /-- SLOT_RESERVATION_GRANT (R181): A waiting reservation is granted once HEAD has advanced enough. -/
  | slotReservationGrant (q : Nat)
  /-- ENQUEUE_ENTRY_WRITTEN (R181): A written-entry report advances TAIL, writes the tail word and makes the chain fetchable. -/
  | enqueueEntryWritten (sp : Nat)
  /-- ENQUEUE_REFUSED_FULL (R288): No slot freed within 100 µs, so the request is answered REFUSED_FULL. -/
  | enqueueRefusedFull (q : Nat)
  /-- CB_READ_RETURN (R225): Command-buffer or CHAIN-target bytes return to the DME ahead of the parse point. -/
  | cbReadReturn (q : Nat) (bytes : Option (List Byte))
  /-- BUFFER_HEADER (R194): The DME parses a buffer header and sets the mode, or fails the submission. -/
  | bufferHeader (q : Nat)
  /-- NOP (R229): Parsed and complete. -/
  | nop (q : Nat)
  /-- CHAIN (R228): Continues the stream at ADDR for SIZE bytes, or fails with CHAIN_LIMIT at the 256th. -/
  | chain (q : Nat)
  /-- LAUNCH (R206): Parsed: checked, its event armed, its waits registered and a launch-state version taken. -/
  | launch (q : Nat)
  /-- LAUNCH_DISPATCH (R209): An eligible launch is checked, requests Feed allowance, is placed, and its task message is sent down Yarn. -/
  | launchDispatch (dme : Nat)
  /-- LAUNCH_REPLAY (R216): Parsed: a group replay is checked, armed and registered. -/
  | launchReplay (q : Nat)
  /-- REPLAY_MEMBER_DISPATCH (R216): The next member of a replay is dispatched when the previous one completes. -/
  | replayMemberDispatch (dme : Nat)
  /-- PATCH_PARAMS (R213): Sets parameter registers, starting a new launch-state version. -/
  | patchParams (q : Nat)
  /-- SET_CONSTANTS (R213): Sets the constant-buffer reference, starting a new launch-state version. -/
  | setConstants (q : Nat)
  /-- EVENT_RECORD (R217): Parsed and arms its event; records it once all earlier commands of its buffer are complete. -/
  | eventRecord (q : Nat)
  /-- EVENT_WAIT (R218): Registers up to 4 waits and holds later commands until all named events record. -/
  | eventWait (q : Nat)
  /-- SYNC_OP (R220): Applies SET or ADD to a Sync SRAM or memory word when eligible. -/
  | syncOp (q : Nat)
  /-- SYNC_WAIT (R221): Parks the queue until the word condition holds or the timeout expires. -/
  | syncWait (q : Nat)
  /-- BARRIER (R222): Arrives at a barrier when eligible and parks the queue until release. -/
  | barrier (q : Nat)
  /-- WRITE_IMM (R223): Issues a single-copy atomic write to ADDR when eligible. -/
  | writeImm (q : Nat)
  /-- WRITE_IMM_VISIBLE (R223): The write's response returns; the command completes or raises MEMORY_ERROR. -/
  | writeImmVisible (write : MemWait) (ok : Bool)
  /-- HINT_PHASE (R224): Hands a phase hint to Feed at parse. -/
  | hintPhase (q : Nat)
  /-- FENCE_FETCH (R226): Stops parsing until every earlier command is complete. -/
  | fenceFetch (q : Nat)
  /-- FENCE_FETCH_COMPLETE (R226): The fence completes; held bytes after it are discarded and read afresh. -/
  | fenceFetchComplete (q : Nat)
  /-- PART_CONTROL (R230): Holds or releases task placement on a partition when it takes effect. -/
  | partControl (q : Nat)
  /-- FEED_SET (R230): Sets Feed's host power limit. -/
  | feedSet (q : Nat)
  /-- TRACE_SET (R230): Writes DUC_TRACE_MASK and DUC_MOP_SEL. -/
  | traceSet (q : Nat)
  /-- PRIV_WRITE (R231): Writes one IGA, DUC, FEED, FLT or DBG register, or fails with PRIV_RANGE. -/
  | privWrite (q : Nat)
  /-- SYNC_CONFIG (R230): Sets a range of Sync SRAM words and their TASK_LOCAL attribute. -/
  | syncConfig (q : Nat)
  /-- SCOREBOARD_LATE_REGISTRATION (R305): Scoreboard entries free and a waiting command registers all its waits. -/
  | scoreboardLateRegistration
  /-- TASK_DONE_AT_HUB (R314): A completion message reaches the Hub and each reported position is counted or discarded as STALE_EPOCH. -/
  | taskDoneAtHub (sp : Nat)
  /-- WRITE_BACK_RESPONSE (R320): The write-back's response returns; IRQ_PENDING is set, or MEMORY_ERROR is raised. -/
  | writeBackResponse (q : Nat) (ok : Bool)
  /-- SPLITTER_TASK_PASS (R310): A splitter replicates a task message to its target Nibs and takes a fan-in counter. -/
  | splitterTaskPass (sp : Nat)
  /-- SPLITTER_COMPLETION (R311): A splitter counts a Nib completion and sends one folded message when all have arrived, or passes it unfolded. -/
  | splitterCompletion (nib : Nat)
  /-- SPLITTER_WITHDRAWN (R294): A splitter forwards WITHDRAWN and reduces the task's expected arrivals. -/
  | splitterWithdrawn (nib : Nat)
  /-- SPLITTER_BARRIER_ARRIVAL (R349): A splitter folds Nib barrier arrivals and sends one upward. -/
  | splitterBarrierArrival (nib : Nat)
  /-- NIB_TASK_RECEIVE (R264): A Nib takes a task message, finds or fills a state slot and stages its constants. -/
  | nibTaskReceive (nib : Nat)
  /-- STATE_SLOT_FILLED (R266): The state-slot fill from the pattern store completes. -/
  | stateSlotFilled (nib : Nat) (slot : Nat)
  /-- CONSTANTS_STAGED (R265): The constant-buffer read completes into its staging buffer. -/
  | constantsStaged (nib : Nat) (tag : Nat) (bytes : Option (List Byte))
  /-- NIB_SWAP_IN (R267): The front task swaps in: parameters, constants and counters are loaded, NIB_START is stamped and Stitchers start. -/
  | nibSwapIn (nib : Nat)
  /-- STITCHER_EMIT (R269): A Stitcher forms the packets of the templates whose triggers hold at a point, after any scalar run. -/
  | stitcherEmit (nib : Nat) (core : Nat)
  /-- NIB_ISSUE (R272): Each NCLK the Nib issues up to 4 ready buffer heads whose DEPs and credits are met. -/
  | nibIssue (nib : Nat)
  /-- COMPLETION_TOKEN (R275): An engine token returns a credit and records status and activity for its macro-op. -/
  | completionToken (nib : Nat) (core : Nat) (eq : Nat) (token : List Byte)
  /-- RESIDUE_READ_ANSWER (R338): The residue values return; the share stamps NIB_DONE and sends its completion message. -/
  | residueReadAnswer (nib : Nat)
  /-- NIB_WITHDRAW (R292): A Nib answers WITHDRAW with WITHDRAWN, STARTED or UNKNOWN. -/
  | nibWithdraw (nib : Nat)
  /-- ENGINE_TRANSLATE_REQUEST (R284): An engine TRANSLATE is answered from the cache or sent to the Translation Agent. -/
  | engineTranslateRequest (nib : Nat) (core : Nat) (eq : Nat) (request : List Byte)
  /-- ENGINE_SYNC_REQUEST (R330): An engine SYNC request is sent to the Sync Unit, tracked for residue, or refused. -/
  | engineSyncRequest (nib : Nat) (core : Nat) (eq : Nat) (request : List Byte)
  /-- ENGINE_ENQUEUE_REQUEST (R287): An engine ENQUEUE request is sent to the Hub, and the Nib writes the entry on acceptance. -/
  | engineEnqueueRequest (nib : Nat) (core : Nat) (eq : Nat) (request : List Byte)
  /-- TRANSLATION_COMPLETION (R286): A translation completion is cached and answered, or dropped or resent if invalidated. -/
  | translationCompletion (tag : Nat) (status : Nat) (address : W64) (sizeBit : Bool) (readable : Bool) (writable : Bool)
  /-- TRANSLATION_TIMEOUT (R508): A translation request without completion after 1 ms is answered as denied. -/
  | translationTimeout (tag : Nat)
  /-- INVALIDATE_REQUEST (R285): An invalidation is accepted and forwarded to every Nib concerned. -/
  | invalidateRequest (itag : Nat) (pasid : Nat) (allPasids : Bool) (address : W64) (sizeBit : Bool)
  /-- NIB_INVALIDATION (R285): A Nib removes matching entries and answers once earlier packets under the PASID have returned tokens. -/
  | nibInvalidation (nib : Nat)
  /-- INVALIDATE_COMPLETE (R285): When every Nib has answered, the completion is sent on the Translation Port. -/
  | invalidateComplete (itag : Nat)
  /-- ABORT_TOKEN_TIMEOUT (R152): Tokens still missing 100 µs after an abort make the Nib lost. -/
  | abortTokenTimeout (nib : Nat)
  /-- MEMORY_RESPONSE_TIMEOUT (R503): A memory request without response after 1 ms is treated as an error response. -/
  | memoryResponseTimeout (request : MemWait)
  /-- NIB_IDLE_TO_OFF (R462): After CFG_NIB_OFF_US in IDLE, Feed power-gates the Nib to OFF. -/
  | nibIdleToOff (nib : Nat)
  /-- MIGRATION_TIMER (R291): A position unstarted for 64 µs with a free Nib available is sent a WITHDRAW. -/
  | migrationTimer (tag : Nat) (position : Nat)
  /-- WITHDRAW_ANSWER (R293): The Hub acts on WITHDRAWN, STARTED or UNKNOWN, re-placing the position under a new epoch when withdrawn. -/
  | withdrawAnswer (sp : Nat)
  /-- WITHDRAW_DRAIN_TIMEOUT (R293): No answer after 100 µs closes the drain and treats the holding Nib as lost. -/
  | withdrawDrainTimeout (tag : Nat) (position : Nat)
  /-- MEMORY_SYNC_RESPONSE (R328): A read or CAS response for a memory-word SET or ADD completes the operation or retries the CAS. -/
  | memorySyncResponse (opId : Nat) (answer : Option W64)
  /-- WATCH_POLL (R334): The oldest due watch slot is polled with an 8-byte read. -/
  | watchPoll
  /-- WATCH_POLL_RETURN (R334): The polled value is evaluated against the slot's waits. -/
  | watchPollReturn (slot : Nat) (answer : Option W64)
  /-- SYNC_WAIT_LATE_REGISTER (R332): A wait entry or watch slot frees and an unregistered wait registers. -/
  | syncWaitLateRegister
  /-- SYNC_WAIT_EXPIRY (R336): A wait expires, fails with SYNC_TIMEOUT and writes a sync fault record. -/
  | syncWaitExpiry (waitId : Nat)
  /-- BARRIER_ARRIVAL_HUB (R348): A local barrier arrival is counted at the Hub, starting or advancing an instance. -/
  | barrierArrivalHub (sp : Nat)
  /-- BARRIER_POLL (R348): Every 200 ns child arrival slots or the release word are polled. -/
  | barrierPoll (barrier : Nat)
  /-- BARRIER_POLL_RETURN (R348): A polled slot or release word is judged; the instance may complete, go up, or release. -/
  | barrierPollReturn (barrier : Nat) (word : Option Nat) (answer : Option W64)
  /-- BARRIER_INSTANCE_TIMEOUT (R348): An instance's timer expires; it writes FAIL upward and releases with failure. -/
  | barrierInstanceTimeout (barrier : Nat)
  /-- BARRIER_RELEASE_AT_NIB (R351): The release multicast reaches a Nib, which answers its waiting OP 6 requests and stops purl. -/
  | barrierReleaseAtNib (nib : Nat)
  /-- FEED_INTERVAL_CLOSE (R372): Every 1,024 ns Feed forms estimates from Nib reports, updates averages, targets, lending and purl floors. -/
  | feedIntervalClose (reports : List Nat)
  /-- RAMP_WINDOW_START (R376): A new 2,048 ns ramp window resets each group's charge. -/
  | rampWindowStart
  /-- CALIBRATION_TICK (R369): Every 10 ms each group's correction is updated from measured rail power. -/
  | calibrationTick
  /-- TRIM_CHECK (R393): Every 100 ms a group with low margin or droop has its trim raised 5 mV. -/
  | trimCheck
  /-- WAKE_RELEASE (R378): The wake scheduler releases the next entry of a rail group after STAGGER_NS. -/
  | wakeRelease (group : Nat)
  /-- NIB_WAKE_DONE (R378): A released Nib is awake, aligned, and begins opening its cores' queues. -/
  | nibWakeDone (nib : Nat) (probes : List Probe)
  /-- EQ_OPEN (R378): After EQ_OPEN_NS the next core's engine queues open. -/
  | eqOpen (nib : Nat)
  /-- HINT_RAMP_START (R383): At the hinted start time Feed begins raising T toward the hinted level. -/
  | hintRampStart (partition : Nat)
  /-- HUB_DOZE_ENTRY (R461): After CFG_DOZE_US idle, the Hub gates HCLK. -/
  | hubDozeEntry
  /-- HUB_SLEEP_ENTRY (R461): After CFG_SLEEP_US in DOZE with all Nibs OFF, the PLL stops. -/
  | hubSleepEntry
  /-- HUB_WAKE (R461): A waking event returns the Hub to ACTIVE and serves held accesses. -/
  | hubWake
  /-- BLOTTER_WRITE_VISIBLE (R468): Blotter writes become visible and FLT_BLOT_WR advances. -/
  | blotterWriteVisible
  /-- MIRROR_RECORD_RECEIVED (R476): The follower applies a mirror record and acknowledges it. -/
  | mirrorRecordReceived (record : Machine.MirrorRecord)
  /-- MIRROR_ACK_RECEIVED (R478): An acknowledgement releases the primary's held effects. -/
  | mirrorAckReceived
  /-- MIRROR_ACK_TIMEOUT (R475): No acknowledgement for 50 µs raises MIRROR_LOST and the primary continues alone. -/
  | mirrorAckTimeout
  /-- PRIMARY_HEARTBEAT (R480): Every 5 µs without a record the primary sends a heartbeat. -/
  | primaryHeartbeat
  /-- PRIMARY_CONFIRM (R479): Every 2 µs the primary sends confirmations and keepalives to splitters. -/
  | primaryConfirm
  /-- HEARTBEAT_TIMEOUT (R475): A follower without record or heartbeat for 50 µs sends TAKEOVER and enters CLAIMING. -/
  | heartbeatTimeout
  /-- FAILOVER_REQ_RECEIVED (R475): A follower receiving FAILOVER_REQ sends TAKEOVER and enters CLAIMING. -/
  | failoverReqReceived (cause : Nat) (detected : Nat)
  /-- SPLITTER_TAKEOVER_REQUEST (R479): A splitter grants TAKEOVER if its primary is silent or released it, and refuses otherwise. -/
  | splitterTakeoverRequest (sp : Nat) (silentNs : Nat) (released : Bool)
  /-- SPLITTER_GRANT_TIMEOUT (R484): A splitter silent for 10 µs during a claim is lost with its Nibs. -/
  | splitterGrantTimeout (sp : Nat)
  /-- TAKEOVER (R482): With every grant, the new primary replays, resends, reissues held effects, resolves in-doubt ADDs and raises 0x3C2. -/
  | takeover
  /-- PARTNER_TAKEOVER_SEEN (R475): A YIELDED Hub sees its partner's takeover and becomes DETACHED. -/
  | partnerTakeoverSeen
  /-- BULK_COPY_DONE (R475): The bulk copy ends; the follower enters FOLLOWING or flags an image mismatch. -/
  | bulkCopyDone (partnerDigest : BitVec 384) (partnerVersion : W16) (sweepPassed : Bool)
  /-- DIVERGENCE_SWEEP (R477): Every 10 ms the comparator compares digests per region and re-copies, counts or yields. -/
  | divergenceSweep (regions : List RegionDigest)
  /-- SPLITTER_PHASE_DONE (R444): Every splitter link is trained or marked absent and the Nib phase starts. -/
  | splitterPhaseDone
  /-- NIB_TRAINING_ATTEMPT_END (R444): A 200 µs training attempt ends with the link up, a retry, or the Nib marked absent. -/
  | nibTrainingAttemptEnd (nib : Nat) (up : Bool) (splitter : Nat)
  /-- SYNC_REQUEST_AT_SYNC_UNIT (R330): A Nib's SYNC request, carried up Yarn, reaches the Sync Unit, which applies the SET or ADD, registers the wait or counts the barrier arrival. -/
  | syncRequestAtSyncUnit (sp : Nat)
  /-- SYNC_REPLY_AT_NIB (R331): A Sync Unit reply reaches the Nib, which records residue state, answers the engine and lets a parked Stitcher unpark. -/
  | syncReplyAtNib (nib : Nat)
  /-- ENQUEUE_REPLY_AT_NIB (R287): The Hub's acceptance or refusal of a device-side enqueue reaches the Nib, which writes the ring entry or answers the engine with the refusal. -/
  | enqueueReplyAtNib (nib : Nat)
  /-- ENQUEUE_ENTRY_WRITE_RESPONSE (R287): The Nib Memory Port write of an enqueued ring entry completes, and the Nib reports the entry written to the Hub. -/
  | enqueueEntryWriteResponse (nib : Nat) (ok : Bool)
  /-- EVENT_STORE_READ_RETURN (R307): An event-state read from the event store returns, and the pending wait registration captures its target. -/
  | eventStoreReadReturn (slot : Nat) (event : Nat)
  /-- NIB_UNCORRECTABLE_ERROR (R469): A Nib reports an uncorrectable error in its own state, and the Hub treats the Nib as lost (cause 4). -/
  | nibUncorrectableError (nib : Nat)
  /-- ABORT_AT_NIB (R151): A kill, halt or warm-reset abort reaches a Nib, which stops the task's emission, discards its buffered packets and raises EQ_ABORT on its queues. -/
  | abortAtNib (nib : Nat)
  /-- NIB_POWER_UP (R444): k × 256 ns after its batch starts, Nib 16b + k is powered up and its first 200 µs training attempt begins. -/
  | nibPowerUp (nib : Nat)
  /-- SPLITTER_TRAINING_ATTEMPT_END (R444): A 200 µs splitter link attempt ends with the link up, a retry, or the splitter marked absent with a Blotter record. -/
  | splitterTrainingAttemptEnd (sp : Nat) (up : Bool)
  /-- TAKEOVER_REFUSED (R475): A splitter's refusal reaches a CLAIMING Hub, which writes a MIRROR record and becomes DETACHED. -/
  | takeoverRefused (sp : Nat)
  deriving DecidableEq, Repr

end Sys2Proof
end

