-- ==== Sys2Proof/Config.lean ====
section
/-! DEFINITION. What the manual leaves to an implementation: opaque constants, of which no proof can see a value (log 12). -/

namespace Sys2Proof.Config

/-- The words of the Copybook ROM, whose content is private (R418; log 31). -/
opaque copybook : Nat → BitVec 192

/-- The version that a Henpen image carries in its own, private layout (R434; log 12). -/
opaque imageVersion : List Byte → W16

/-- Whether the self-test of a Henpen image passes (R137, R437; log 12). -/
opaque selfTestPasses : List Byte → Bool

/-- The status that a failed self-test of a Henpen image gives LAST_STATUS and LAST_EXCHANGE, for which the manual names no
code (R136, R437): a free value (log 12). -/
opaque selfTestStatus : List Byte → W16

/-- The SECDED code over bits [182:0] of a microword, whose matrix is private (R421, R432; log 12). -/
opaque microwordEcc : BitVec 183 → BitVec 9

/-- The value of a memory word before a SET, which is a write alone and reads nothing (R328, R331): a free value, by the
number of the operation (log 19). -/
opaque wordBeforeSet : Nat → W64

/-- Whether the nearest whole second of a count exactly half-way is the one above (R37 names no tie rule): a free value
(log 20). -/
opaque tieUp : Nat → Bool

/-- The purl level, in cores, that Feed gives a Nib to fill a gap of some pJ (R385 states no formula): a free value
(log 13). -/
opaque purlLevel : Nat → Nat → Nat

/-- PASID that a purl macro-op's packet carries, which the manual does not state (R273, R385): a free value (log 13). -/
opaque purlPasid : BitVec 20

/-- TEMPLATE that a purl macro-op's packet carries, which the manual does not state (R273, R385): a free value (log 13). -/
opaque purlTemplate : BitVec 6

/-- ITER that a purl macro-op's packet carries, which the manual does not state (R273, R385): a free value (log 13). -/
opaque purlIter : BitVec 48

/-- Base of the queue table, which boot firmware delivers with the Henpen image (R164; log 14). -/
opaque queueTableBase : List Byte → W64

/-- Base of the event store, delivered with the image too (R299; log 14). -/
opaque eventStoreBase : List Byte → W64

/-- Base of the pattern store, delivered with the image too (R254; log 14). -/
opaque patternStoreBase : List Byte → W64

/-- The bytes of a variant's translated form with its STATE_TAG, in its private encoding (R254; log 14). -/
opaque patternForm : Machine.Variant → W32 → List Byte

/-- Bytes of a queue record (R163; log 14). -/
opaque queueRecordBytes : Nat

/-- The bytes of a queue record in its private encoding, by the fields of R163: a free value (log 14). -/
opaque queueRecord : List Nat → List Byte

/-- What the RECOVERY record of a completed CTX_BIND_OFF carries as action and target: R467 gives RECOVER's actions only. FREE VALUE
(log 141), by handle. -/
opaque bindOffRecord : BitVec 32 → BitVec 24

end Sys2Proof.Config
end

