-- ==== Sys2Proof/Machine/Codes.lean ====
section
/-! DEFINITION. The status codes of SJ4 (R107, R108, R257). -/

namespace Sys2Proof.Machine.Code

open Sys2Proof

/-- OK. -/
def ok : W16 := 0
/-- PENDING. -/
def pending : W16 := 1
/-- RETRY. -/
def retry : W16 := 2
/-- TAIL_LAG. -/
def tailLag : W16 := 3
/-- UNKNOWN_COMMAND. -/
def unknownCommand : W16 := 0x101
/-- BAD_LENGTH. -/
def badLength : W16 := 0x102
/-- RESERVED_SET. -/
def reservedSet : W16 := 0x103
/-- BAD_HANDLE. -/
def badHandle : W16 := 0x104
/-- BAD_VALUE. -/
def badValue : W16 := 0x105
/-- WRONG_TRANSPORT. -/
def wrongTransport : W16 := 0x106
/-- BAD_ALIGNMENT. -/
def badAlignment : W16 := 0x107
/-- INK_CRC_BAD. -/
def inkCrcBad : W16 := 0x111
/-- INK_SEQUENCE. -/
def inkSequence : W16 := 0x112
/-- INK_FORMAT. -/
def inkFormat : W16 := 0x113
/-- INK_SLOT_RANGE. -/
def inkSlotRange : W16 := 0x114
/-- INK_TIMEOUT. -/
def inkTimeout : W16 := 0x115
/-- CHAIN_BAD. -/
def chainBad : W16 := 0x120
/-- SEGMENT_BAD. -/
def segmentBad : W16 := 0x121
/-- TAIL_INVALID. -/
def tailInvalid : W16 := 0x122
/-- CB_HEADER_BAD. -/
def cbHeaderBad : W16 := 0x123
/-- CMD_LENGTH. -/
def cmdLength : W16 := 0x124
/-- OPCODE_UNKNOWN. -/
def opcodeUnknown : W16 := 0x125
/-- PRIVILEGED. -/
def privileged : W16 := 0x126
/-- PATCH_BOUND. -/
def patchBound : W16 := 0x127
/-- NO_PLACEMENT. -/
def noPlacement : W16 := 0x128
/-- CONST_BAD. -/
def constBad : W16 := 0x129
/-- EVENT_RANGE. -/
def eventRange : W16 := 0x12A
/-- CHAIN_LIMIT. -/
def chainLimit : W16 := 0x12B
/-- PRIV_RANGE. -/
def privRange : W16 := 0x12C
/-- CFG_TABLE_MISSING. -/
def cfgTableMissing : W16 := 0x130
/-- CFG_SEAL_CRC. -/
def cfgSealCrc : W16 := 0x131
/-- CFG_NIB_MAP. -/
def cfgNibMap : W16 := 0x132
/-- CFG_NIB_ABSENT. -/
def cfgNibAbsent : W16 := 0x133
/-- CFG_PARTITION. -/
def cfgPartition : W16 := 0x134
/-- CFG_PARTITION_LIVE. -/
def cfgPartitionLive : W16 := 0x135
/-- CFG_FEED. -/
def cfgFeed : W16 := 0x136
/-- CFG_SKEIN. -/
def cfgSkein : W16 := 0x137
/-- CFG_CHANGED. -/
def cfgChanged : W16 := 0x138
/-- NO_CONTEXT_SLOT. -/
def noContextSlot : W16 := 0x201
/-- NO_QUEUE_ID. -/
def noQueueId : W16 := 0x202
/-- NO_EVENT. -/
def noEvent : W16 := 0x203
/-- NO_PATTERN. -/
def noPattern : W16 := 0x204
/-- NO_PARTITION. -/
def noPartition : W16 := 0x205
/-- NO_DOORBELL. -/
def noDoorbell : W16 := 0x206
/-- NO_BANDWIDTH. -/
def noBandwidth : W16 := 0x207
/-- NO_POWER_SHARE. -/
def noPowerShare : W16 := 0x208
/-- CONTEXT_BUSY. -/
def contextBusy : W16 := 0x301
/-- CONFIG_INCOMPLETE. -/
def configIncomplete : W16 := 0x302
/-- SEAL_INVALID. -/
def sealInvalid : W16 := 0x303
/-- HALTED. -/
def halted : W16 := 0x304
/-- QUEUE_NOT_IDLE. -/
def queueNotIdle : W16 := 0x305
/-- PARTITION_BUSY. -/
def partitionBusy : W16 := 0x306
/-- EXCHANGE_BUSY. -/
def exchangeBusy : W16 := 0x307
/-- NOT_READY. -/
def notReady : W16 := 0x308
/-- ADMIN_EXISTS. -/
def adminExists : W16 := 0x309
/-- TRACE_ACTIVE. -/
def traceActive : W16 := 0x30A
/-- MUAND_VERSION. -/
def muandVersion : W16 := 0x401
/-- DESC_LENGTH. -/
def descLength : W16 := 0x402
/-- VARIANT_COUNT. -/
def variantCount : W16 := 0x403
/-- DESC_RESERVED. -/
def descReserved : W16 := 0x404
/-- CONST_MIN. -/
def constMin : W16 := 0x405
/-- PARAM_BOUNDS. -/
def paramBounds : W16 := 0x406
/-- LOOP_DEPTH. -/
def loopDepth : W16 := 0x407
/-- LOOP_COUNT. -/
def loopCount : W16 := 0x408
/-- DISTRIBUTION. -/
def distribution : W16 := 0x409
/-- ITERATION_RANGE. -/
def iterationRange : W16 := 0x40A
/-- STREAM_COUNT. -/
def streamCount : W16 := 0x40B
/-- STREAM_ROLE. -/
def streamRole : W16 := 0x40C
/-- STRIDE_RANGE. -/
def strideRange : W16 := 0x40D
/-- EXTENT. -/
def extent : W16 := 0x40E
/-- FORMAT. -/
def format : W16 := 0x40F
/-- SCALE_KIND. -/
def scaleKind : W16 := 0x410
/-- SCALE_PAIRING. -/
def scalePairing : W16 := 0x411
/-- SCALE_LOCKSTEP. -/
def scaleLockstep : W16 := 0x412
/-- TEMPLATE_COUNT. -/
def templateCount : W16 := 0x413
/-- SLOT_POSITION. -/
def slotPosition : W16 := 0x414
/-- TEMPLATE_TRIGGER. -/
def templateTrigger : W16 := 0x415
/-- TEMPLATE_DEPENDENCY. -/
def templateDependency : W16 := 0x416
/-- TEMPLATE_FIELD. -/
def templateField : W16 := 0x417
/-- SCALAR_ENCODING. -/
def scalarEncoding : W16 := 0x418
/-- SCALAR_BRANCH. -/
def scalarBranch : W16 := 0x419
/-- SCALAR_DMEM. -/
def scalarDmem : W16 := 0x41A
/-- FIT_NIBS. -/
def fitNibs : W16 := 0x420
/-- FIT_CORES. -/
def fitCores : W16 := 0x421
/-- FIT_QUEUES. -/
def fitQueues : W16 := 0x422
/-- FIT_ENGINE_CLASS. -/
def fitEngineClass : W16 := 0x423
/-- FIT_DMEM. -/
def fitDmem : W16 := 0x424
/-- FIT_STATE. -/
def fitState : W16 := 0x425
/-- FIT_TRANSLATION. -/
def fitTranslation : W16 := 0x426
/-- SIGNATURE_BAD. -/
def signatureBad : W16 := 0x501
/-- ROLLBACK. -/
def rollback : W16 := 0x502
/-- PATCH_MATCH_DUPLICATE. -/
def patchMatchDuplicate : W16 := 0x504
/-- PATCH_FORMAT. -/
def patchFormat : W16 := 0x505
/-- PATCH_TARGET. -/
def patchTarget : W16 := 0x506
/-- SYNC_TIMEOUT. -/
def syncTimeout : W16 := 0x601
/-- SYNC_UNDERFLOW. -/
def syncUnderflow : W16 := 0x602
/-- SYNC_RESIDUE. -/
def syncResidue : W16 := 0x603
/-- STALE_EPOCH. -/
def staleEpoch : W16 := 0x604
/-- BENIGN_DIVERGENCE. -/
def benignDivergence : W16 := 0x605
/-- NONFINITE. -/
def nonfinite : W16 := 0x606
/-- QUEUE_TIMEOUT. -/
def queueTimeout : W16 := 0x607
/-- INKWELL_ECC. -/
def inkwellEcc : W16 := 0x608
/-- TRANSLATION_FAULT. -/
def translationFault : W16 := 0x609
/-- NIB_LOST. -/
def nibLost : W16 := 0x60A
/-- KILLED_AT_DEADLINE. -/
def killedAtDeadline : W16 := 0x60B
/-- OWNER_GONE. -/
def ownerGone : W16 := 0x60C
/-- MEMORY_ERROR. -/
def memoryError : W16 := 0x60D
/-- ENGINE_FAULT. -/
def engineFault : W16 := 0x60E
/-- ALIGN_MISMATCH. -/
def alignMismatch : W16 := 0x60F
/-- COOLANT_FAULT. -/
def coolantFault : W16 := 0x610
/-- MICROCODE_FAULT. -/
def microcodeFault : W16 := 0x611
/-- MC_WATCHDOG. -/
def mcWatchdog : W16 := 0x612
/-- DEVICE_RESET. -/
def deviceReset : W16 := 0x613
/-- SRAM_UNCORRECTABLE. -/
def sramUncorrectable : W16 := 0x614
/-- MIRROR_LOST. -/
def mirrorLost : W16 := 0x615
/-- IN_DOUBT. -/
def inDoubt : W16 := 0x616

end Sys2Proof.Machine.Code
end

