-- ==== Sys2Proof/Machine/State.lean ====
section
/-! DEFINITION. The state of the block, as plain data, and its state after a device reset. Each field's docstring ends in
a bracket: the rule that names it, its width, its reset value (DC: the spec gives none, the log entry named chose it). -/

namespace Sys2Proof.Machine

open Sys2Proof

/-- Faults of the model. No effect of a command of the block is one: every fault of the hardware is an effect on the
state (R465). -/
inductive Fault where
  /-- Raised by no meaning; kept because an outcome needs a fault type. Safe. -/
  | none
  deriving DecidableEq, Repr

/-- Refusals of the model. -/
inductive Refusal where
  /-- Raised by the arm of a command that has no meaning yet. Safe: the run stops there. -/
  | notModelled (mnemonic : String)
  deriving DecidableEq, Repr

/-- The time base in the always-on domain (02) and the alignment of the dies. -/
structure Ductus where
  /-- Master count in ns. [R34, R37; 64; 0] -/
  count : Nat
  /-- ns since the last REFCLK_25M edge; interpolates the count to 1 ns. [R34; 6; DC 0 log 2] -/
  phase : Nat
  /-- REFCLK_OK seen; until then the always-on domain holds HTP requests. [R443; 1; 0] -/
  refOk : Bool
  /-- Epoch state; ARM reads 1 exactly in ARMED. [R37, R62, R63; 2; UNSET] -/
  epoch : EpochState
  /-- The epoch state that ARM left, to which a refused ARM returns. [R36; 2; DC UNSET log 4] -/
  prior : EpochState
  /-- DUC_LOAD_HI and DUC_LOAD_LO. [R61; 64; 0] -/
  load : W64
  /-- DUC_STATUS.LOAD_REFUSED. [R63; 1; 0] -/
  loadRefused : Bool
  /-- DUC_STATUS.EPOCH_MISSED. [R63; 1; 0] -/
  epochMissed : Bool
  /-- DUC_STATUS.OFFSET_BAD. [R63; 1; 0] -/
  offsetBad : Bool
  /-- Offset still to be slewed away; positive where the count is ahead. SLEWING reads 1 while it is not 0. [R38; 11; 0] -/
  slew : Int
  /-- DUC_EPOCH_OFFSET. [R61; 32; 0] -/
  offset : W32
  /-- DUC_EPOCH_COUNT. [R61; 32; 0] -/
  edges : W32
  /-- The count at the last EPOCH_P edge. [R37; 64; DC 0 log 4] -/
  lastEdge : Nat
  /-- Loads of the master count so far, the model's own number for the steps that R33 allows. [R33, R35; DC 0 log 4] -/
  loads : Nat
  /-- This Hub has taken its time from a primary before. [R33, R35; 1; DC 0 log 4] -/
  followed : Bool
  /-- DUC_ALIGN_WORST. [R61; 32; 0] -/
  alignWorst : W32
  /-- Largest magnitude of the round under way. [R39, R61; 32; DC 0 log 4] -/
  alignMax : W32
  /-- Children whose exchange of the round under way is done. [R39; DC none log 4] -/
  alignDone : List YarnChild
  /-- DUC_ALIGN_FAULTS. [R61; 32; 0] -/
  alignFaults : W32
  /-- Offsets sent down that a child has not received yet. [R39; DC none log 4] -/
  sentOffsets : List (YarnChild × Int)
  /-- The DUC_TIME_HI latch of each agent that has read DUC_TIME_LO. [R66; 32 each; none, reads 0] -/
  hiLatch : Tbl W32
  deriving DecidableEq, Repr

/-- The trace writer (02). -/
structure Trace where
  /-- DUC_CTRL.TRACE_EN. [R62; 1; 0] -/
  en : Bool
  /-- DUC_CTRL.TRACE_MODE, 1 WRAP. [R62; 1; 0] -/
  wrap : Bool
  /-- DUC_STATUS.TRACE_IDLE. [R63; 1; 1] -/
  idle : Bool
  /-- DUC_TRACE_BASE. [R61; 64; 0] -/
  base : W64
  /-- DUC_TRACE_SIZE. [R61; 5; 0x10] -/
  log2 : Nat
  /-- DUC_TRACE_WR. [R61; 32; 0] -/
  wr : W32
  /-- DUC_TRACE_RD. [R61; 32; 0] -/
  rd : W32
  /-- DUC_TRACE_MASK. [R61, R64; 11; 0] -/
  mask : W32
  /-- DUC_TRACE_RATE. [R61; 9; 0x10] -/
  rate : W32
  /-- DUC_TRACE_DROP. [R61; 32; 0] -/
  drop : W32
  /-- DUC_TRACE_PASID. [R61; 20; 0] -/
  pasid : W32
  /-- DUC_MOP_SEL. [R65; 20; 0] -/
  mopSel : W32
  /-- Records of Hub units on their way to the writer. [R22, R51; DC none log 4] -/
  inbound : List TraceRec
  /-- The 4 KiB writer buffer, oldest first. [R56; 4 KiB; DC none log 4] -/
  buf : List TraceRec
  /-- How many of its oldest records have their writes on the ports, not yet visible. [R55; DC 0 log 4] -/
  issued : Nat
  /-- The span of 64 HCLK cycles that `spent` is of. [R61; DC 0 log 4] -/
  span : Nat
  /-- Bytes written that DUC_TRACE_RATE has not made up for yet. [R56, R61; DC 0 log 4] -/
  spent : Nat
  /-- What the writer has dropped since its last LOSS record. [R57; DC none log 4] -/
  loss : Option LossInfo
  /-- What the full memory ring has dropped in STOP mode since its last LOSS record. [R57; DC none log 4] -/
  ringLoss : Option LossInfo
  /-- Record counts by SOURCE. [R48; 32 each; DC none (0) log 4] -/
  seqs : Tbl W32
  /-- The whole second of Hub time last marked by a TIME_SYNC record. [R50; DC 0 log 4] -/
  second : Nat
  deriving DecidableEq, Repr

/-- The Host Target Port (03, 17). -/
structure Htp where
  /-- IDN_HTP_DISCARDS. [R72; 32; 0] -/
  discards : W32
  /-- IDN_HTP_LAST_BAD. [R75; 32; 0] -/
  lastBad : W32
  /-- Read latches by agent. [R69; 32 each; none] -/
  latches : Tbl ReadLatch
  /-- Staged low halves. [R69; 32 each; none] -/
  staged : List StagedLow
  /-- Accesses held while the Hub wakes. [R71; DC none log 4] -/
  held : List HtpAccess
  /-- Requests held not-ready before REFCLK_OK. [R443; DC none log 4] -/
  waiting : List HtpAccess
  /-- Last response driven on the read-response channel. [R498; DC none log 4] -/
  resp : Option HtpResponse
  /-- Writes to RW fields applied and held by a Hub that is not primary. [R481; DC none log 4] -/
  mirrorHeld : List HtpAccess
  deriving DecidableEq, Repr

/-- Doorbells in the always-on domain (03). -/
structure Bells where
  /-- The catcher, in the order first latched. [R80; 4096 entries; DC none log 4] -/
  catcher : List Doorbell
  /-- Doorbell writes held not-ready while the catcher is full. [R80; DC none log 4] -/
  held : List HeldDoorbell
  /-- Page bindings: page to context handle. [R76; 32 each; DC none log 4] -/
  binds : Tbl W32
  /-- IDN_DB_DROPS. [R72; 32; 0] -/
  drops : W32
  /-- IDN_DB_LAST_DROP. [R79; 27; 0] -/
  lastDrop : W32
  deriving DecidableEq, Repr

/-- The mailboxes and Inkwell (03). -/
structure Mbx where
  /-- Mailboxes 0 to 15. [R87; FREE] -/
  boxes : List Mailbox
  /-- MBX_DATA of mailbox n at n × 0x100. [R87; 4 KiB; 0 in every byte] -/
  data : Memory
  /-- Inkwell, slot s at s × 0x1000. [R91, R436; 1 MiB; DC 0 log 4] -/
  ink : Memory
  /-- MBX_DISCARDS. [R87; 32; 0] -/
  discards : W32
  /-- MBX_INK_DISCARDS. [R87; 32; 0] -/
  inkDiscards : W32
  deriving DecidableEq, Repr

/-- States of an interrupt source (R405); IN_SERVICE names the owner. -/
inductive SrcState where
  | idle
  | pending
  | inService (owner : Nat)
  deriving DecidableEq, Repr

/-- Configuration of a source (R416, R417). -/
structure SrcCfg where
  priority : Nat
  targets  : W32
  deriving DecidableEq, Repr

/-- The Interrupt Gatherer (13). -/
structure Iga where
  /-- IGA_CTRL.COMPAT. [R416; 1; 0] -/
  compat : Bool
  /-- IGA_STRAY. [R416; 32; 0] -/
  stray : W32
  /-- IGA_STRAY_LAST. [R417; 16; 0] -/
  strayLast : W32
  /-- IGA_SW_SET. [R416; 16; 0] -/
  sw : W16
  /-- Sources whose sampled level is high, ascending; IGA_LEVEL. [R413, R416; 1024; 0] -/
  levels : List Nat
  /-- Sources that are not IDLE. [R405; 1024; every source IDLE] -/
  states : Tbl SrcState
  /-- Source configuration; an unlisted source has PRIORITY 0 and no target. [R416; 36 each; 0] -/
  cfg : Tbl SrcCfg
  /-- IGA_THRESHOLD by target; unlisted 0. [R416; 4 each; 0] -/
  thresholds : Tbl Nat
  /-- Targets whose WITHDRAWN flag is 1. [R410; 32; 0] -/
  withdrawn : List Nat
  /-- Latch of source 0x3C8. [R404; 1; 0] -/
  configLatch : Bool
  /-- Latch of source 0x3C9. [R404; 1; 0] -/
  exchangeLatch : Bool
  deriving DecidableEq, Repr

/-- A stored table with its CRC (R118, R448). -/
structure TableImage where
  bytes : List Byte
  crc   : W32
  deriving DecidableEq, Repr

/-- The snapshot of a CFG_SEAL write (R453): the value written, the stored tables, and the table that changed since. -/
structure SealCheck where
  value   : W32
  tables  : Tbl TableImage
  changed : Option Nat
  deriving DecidableEq, Repr

/-- Where Yarn training stands (R444, R447). -/
inductive TrainPhase where
  | waiting
  | splitters
  | batch (b : Nat) (since : Nat)
  | done
  deriving DecidableEq, Repr

/-- The configuration block (15). -/
structure Cfg where
  /-- CFG_STATUS.STATE. [R464; 3; TRAINING] -/
  state : CfgState
  /-- CFG_STATUS.READY. [R464; 1; 0] -/
  ready : Bool
  /-- The seal check in progress; CHECKING reads 1 while there is one. [R453, R464; 0] -/
  check : Option SealCheck
  /-- CFG_STATUS.FIRST_FAIL. [R464; 16; 0] -/
  firstFail : W16
  /-- CFG_DETAIL. [R463; 32; 0] -/
  detail : W32
  /-- CFG_BREAKS. [R463; 32; 0] -/
  breaks : W32
  /-- CFG_HOLD_NS. [R463; 64; 0] -/
  holdNs : W64
  /-- CFG_CTRL.LAUNCH_EN. [R463; 1; 1] -/
  launchEn : Bool
  /-- CFG_DOZE_US. [R463; 20; 0x0A] -/
  dozeUs : W32
  /-- CFG_SLEEP_US. [R463; 20; 0x3E8] -/
  sleepUs : W32
  /-- CFG_NIB_OFF_US. [R463; 20; 0x64] -/
  nibOffUs : W32
  /-- CFG_CAP_SEL. [R464; 12; 0] -/
  capSel : W32
  /-- Stored tables by TABLE_ID. [R448; none loaded] -/
  tables : Tbl TableImage
  /-- A FEED_ENERGY table has been loaded since the last accepted seal. [R369, R454; 1; DC 0 log 4] -/
  energyNew : Bool
  /-- Training. [R444; DC waiting log 4] -/
  train : TrainPhase
  deriving DecidableEq, Repr

/-- Copybook, Margin and the boot load (14). -/
structure Cpb where
  /-- CPB_BOOT_STATUS.STATE. [R441; 3; WAIT_KEYS] -/
  state : BootState
  /-- CPB_BOOT_CTRL.START. [R440; 1; 0] -/
  start : Bool
  /-- CPB_BOOT_STATUS.PATCH_LOADED. [R441; 1; 0] -/
  patchLoaded : Bool
  /-- CPB_BOOT_STATUS.LAST_STATUS. [R441; 16; 0] -/
  lastStatus : W16
  /-- CPB_HENPEN_OFFSET. [R440; 20; 0] -/
  henpenOffset : W32
  /-- CPB_HENPEN_LEN. [R440; 32; 0] -/
  henpenLen : W32
  /-- CPB_PATCH_OFFSET. [R440; 20; 0] -/
  patchOffset : W32
  /-- CPB_PATCH_LEN. [R440; 32; 0] -/
  patchLen : W32
  /-- CPB_DETAIL. [R440; 32; 0] -/
  detail : W32
  /-- CPB_KEY_COUNTER. [R440; 32; 0] -/
  keyCounter : W32
  /-- CPB_PATCH_INFO. [R441; 23; 0] -/
  patchInfo : W32
  /-- CPB_PATCH_ROLLBACK. [R440; 32; 0] -/
  patchRollback : W32
  /-- CPB_HENPEN_ROLLBACK. [R440; 32; 0] -/
  henpenRollback : W32
  /-- CPB_ECC_CORRECTED. [R440; 32; 0] -/
  eccCorrected : W32
  /-- CPB_MCODE_FAULT but for DMES, which the engines' stopped bits give. [R441; 32; 0] -/
  mcodeFault : W32
  /-- CPB_PATCH_DIGEST. [R440; 384; 0] -/
  patchDigest : BitVec 384
  /-- VALID match registers by number. [R427, R428; 64 of 27; every one not VALID] -/
  matchRegs : Tbl MatchReg
  /-- Margin words that are not 0. [R418, R428; 2048 of 192; 0] -/
  margin : Tbl (BitVec 192)
  /-- KYP_REQ. [R519; 1; DC 0 log 4] -/
  keyReq : Bool
  /-- Verification key, not readable. [R519; 97 B; erased] -/
  verifyKey : Option (List W32)
  /-- Image key, not readable. [R519; 32 B; erased] -/
  imageKey : Option (List W32)
  /-- Rollback counter as delivered. [R519; 32; erased] -/
  counter : Option W32
  deriving DecidableEq, Repr

/-- The Management Core and the Henpen firmware (04). -/
structure Mgmt where
  /-- IDN_FW_VERSION. [R72; 16; 0] -/
  fwVersion : W16
  /-- The running region. [R435; 192 KiB; DC none log 4] -/
  image : Option Image
  /-- The staging region. [R135, R435; 192 KiB; DC none log 4] -/
  staged : Option Image
  /-- The online exchange. [R136; DC none log 4] -/
  exchange : Exchange
  /-- LAST_EXCHANGE of BOOT_HELLO. [R116; 16; 0xFFFF] -/
  lastExchange : W16
  /-- Commands in progress, at most 8. [R110; DC none log 4] -/
  progs : List Prog
  /-- Admin submissions whose response write is not visible yet. [R106; DC none log 4] -/
  answers : List AdminAnswer
  /-- Base of the queue table in device memory. [R164; 64; DC 0 log 14] -/
  queueBase : W64
  /-- Base of the event store in device memory. [R299; 64; DC 0 log 14] -/
  eventBase : W64
  /-- Base of the pattern store in device memory. [R254; 64; DC 0 log 14] -/
  patternBase : W64
  /-- The pattern store: STATE_TAG and translated form by STORE_ENTRY. [R254, R260; 8192 B each; DC none log 4] -/
  store : Tbl (W32 × Variant)
  /-- The last STATE_TAG given. [R260; 32; DC 0 log 4] -/
  lastTag : W32
  /-- Names the next command in progress. [R110; model's own; DC 0 log 4] -/
  nextProg : Nat
  /-- Admin fetch stopped by the watchdog. [R470; 1; DC 0 log 4] -/
  adminStopped : Bool
  /-- QUEUE_RESET, NIB_REINIT and failover procedures that outlive their command: action, target. [R138, R486; DC none log 4] -/
  recoveries : List (Nat × Nat)
  /-- A warm reset has been requested. [R474; DC 0 log 4] -/
  warmReset : Bool
  /-- Its abort has gone out to the Nibs. [R474; DC 0 log 4] -/
  warmAborted : Bool
  deriving DecidableEq, Repr

/-- The Queue Engine's own state beside the queues (06). -/
structure QueueEngine where
  /-- The arbiter's last visit in each class. [R178; DC none log 4] -/
  visits : Tbl ArbVisit
  /-- Queues in the order their records became resident, for DME assignment and eviction. [R167, R179; DC none log 4] -/
  resident : List Nat
  /-- The DME the next resident queue takes when several serve as few. [R179; 3; DC 0 log 4] -/
  nextDme : Nat
  /-- Queue-table reads under way, with the tail of the doorbell that asked. [R168; DC none log 4] -/
  loads : Tbl (Option W32)
  /-- The paging list, oldest first. [R168; DC none log 4] -/
  paging : List (Nat × W32)
  deriving DecidableEq, Repr

/-- An outstanding request of a Memory Initiator Port or a Nib Memory Port (R501). `wait` names the event its response
is, none where no event follows; `pages` are the pages whose translations a Hub's request still waits for (R22, R506), none
once it is on its port. -/
structure MemReq where
  wait   : Option MemWait
  op     : MemOpKind
  pasid  : Nat
  part   : Option Nat
  addr   : W64
  len    : Nat
  data   : List Byte
  atomic : Bool
  phys   : Bool
  since  : Nat
  dead   : Bool
  pages  : List Nat
  deriving DecidableEq, Repr

/-- An outstanding translation request (R282, R286, R507) of a Nib, or of the Hub where `nib` is none. `core` is the Stitcher
whose lookahead made it, `dirty` lists the ranges invalidated since it was sent, `asks` the engine requests it answers (core,
engine queue, MOP_SEQ, REQ_TAG, address). -/
structure XReq where
  tag    : Nat
  nib    : Option Nat
  pasid  : Nat
  page   : Nat
  write  : Bool
  since  : Nat
  core   : Option Nat
  dirty  : List (Nat × Nat)
  dead   : Bool
  asks   : List (Nat × Nat × Nat × Nat × W64)
  deriving DecidableEq, Repr

/-- An invalidation in progress (R285): what it covers and the Nibs that have not answered. -/
structure Inv where
  itag  : Nat
  pasid : Option Nat
  page  : Nat
  size  : Nat
  nibs  : List Nat
  deriving DecidableEq, Repr

/-- The Translation Agent (09, 17). -/
structure Xlat where
  /-- Outstanding translation requests, dead tags included. [R507, R508; 256; DC none log 4] -/
  reqs : List XReq
  /-- The Hub's own copies of translations. [R22, R154, R285; DC none log 4] -/
  cache : List Tlb
  /-- Outstanding invalidations. [R285, R507; 32; DC none log 4] -/
  invs : List Inv
  /-- Nibs that have asked for a translation of each PASID. [R285; DC none log 4] -/
  users : Tbl (List Nat)
  /-- Invalidations completed on the Translation Port, newest first, as XIC drove them. [R507; DC none log 4] -/
  done : List Nat
  deriving DecidableEq, Repr

/-- Feed (12). -/
structure Feed where
  /-- FEED_CTRL. [R401; 4; 0xF] -/
  ctrl : W32
  /-- FEED_STATUS.HALT. [R401; 1; 0] -/
  halt : Bool
  /-- FEED_STATUS.CAP_EXCEEDED. [R401; 1; 0] -/
  capExceeded : Bool
  /-- FEED_STATUS.TRIM_EXHAUSTED. [R401; 1; 0] -/
  trimExhausted : Bool
  /-- FEED_STATUS.CAL_CLAMPED. [R401; 1; 0] -/
  calClamped : Bool
  /-- FEED_STATUS.SENSE_MISSED. [R401; 1; 0] -/
  senseMissed : Bool
  /-- FEED_HOST_LIMIT. [R400; 32; 0] -/
  hostLimit : W32
  /-- Rail groups 0 to 15. [R362, R400; ceilings 15, CORR 4096, level 0, trim 0] -/
  rails : List Rail
  /-- The wake scheduler, in order of entry. [R377; 256; DC none log 4] -/
  wakes : List WakeEntry
  /-- Package estimates of the peak window, newest first. [R371; DC none log 4] -/
  window : List Nat
  /-- Estimates of the bucket being filled. [R371; DC none log 4] -/
  bucket : List Nat
  /-- Sums of completed buckets, newest first. [R371; 954; DC none log 4] -/
  buckets : List Nat
  /-- Intervals in a row over the peak cap at level 0. [R373; DC 0 log 4] -/
  overRun : Nat
  /-- The CAP_EXCEEDED record is armed. [R373; DC 1 log 4] -/
  overArmed : Bool
  /-- Device counters of the reasons. [R389; 8 of 64; 0] -/
  reasonNs : List W64
  /-- The device mask as last recorded. [R388; 8; 0] -/
  mask : Nat
  /-- Coolant flow last sampled and the samples missed in a row. [R392, R518; DC none log 4] -/
  flow : Option Nat
  /-- FEED_PART_SEL. [R400; 6; 0] -/
  partSel : W32
  /-- FEED_QE_SEL.QUEUE. [R401; 20; 0] -/
  qeSel : W32
  /-- FEED_QE_SEL.READY. [R401; 1; 0] -/
  qeReady : Bool
  /-- FEED_QE_UJ. [R400; 64; 0] -/
  qeUj : W64
  /-- Whole intervals, ramp windows, 10 ms calibrations, 100 µs sense periods and 100 ms trim periods of Ductus time already served. [R367, R376, R369, R391, R393; DC 0 log 4] -/
  served : List Nat
  /-- D_now as the fabric last reported it; none before any report. [R162; 20; DC none log 4] -/
  dNow : Option Nat
  /-- Rates last sent on the Allowance Port by partition; unlisted 0. [R515; 20 each; DC none log 4] -/
  rates : Tbl Nat
  deriving DecidableEq, Repr

/-- The DBG block (09, 11). -/
structure Dbg where
  /-- DBG_QSTOP_CTRL. [R297; 32; 0] -/
  qCtrl : W32
  /-- DBG_QSTOP_COUNT. [R297; 32; 0] -/
  qCount : W32
  /-- DBG_QSTOP_LEFT. [R297; 32; 0] -/
  qLeft : W32
  /-- DBG_NSTOP_CTRL. [R297; 32; 0] -/
  nCtrl : W32
  /-- DBG_NSTOP_COUNT. [R297; 32; 0] -/
  nCount : W32
  /-- DBG_NSTOP_LEFT. [R297; 32; 0] -/
  nLeft : W32
  /-- DBG_STOP_STATUS. [R297; 2; 0] -/
  stops : W32
  /-- The queue that QSTOPPED holds. [R295; 20; DC 0 log 4] -/
  stopQueue : Nat
  /-- The Nib that NSTOPPED holds. [R295; 8; DC 0 log 4] -/
  stopNib : Nat
  /-- DBG_NF_STAMP. [R297; 64; 0] -/
  nfStamp : W64
  /-- DBG_NF_SOURCE. [R297; 32; 0] -/
  nfSource : W32
  /-- DBG_NF_COUNT. [R297; 32; 0] -/
  nfCount : W32
  /-- DBG_SYNC_CTRL. [R359; 32; 0] -/
  syncCtrl : W32
  /-- DBG_SYNC_INDEX. [R359; 15; 0] -/
  syncIndex : W32
  /-- DBG_SYNC_PASID. [R359; 20; 0] -/
  syncPasid : W32
  /-- DBG_SYNC_ADDR. [R359; 64; 0] -/
  syncAddr : W64
  /-- DBG_SYNC_VALUE. [R359; 64; 0] -/
  syncValue : W64
  /-- DBG_SYNC_RESULT. [R359; 32; 0] -/
  syncResult : W32
  /-- DBG_SYNC_OLD. [R359; 64; 0] -/
  syncOld : W64
  /-- DBG_SYNC_FAULT_HI and _LO. [R360; 128; 0] -/
  syncFault : BitVec 128
  /-- DBG_SYNC_FAULT_STAMP. [R360; 64; 0] -/
  syncFaultStamp : W64
  /-- DBG_SYNC_FAULT_COUNT. [R360; 32; 0] -/
  syncFaults : W32
  deriving DecidableEq, Repr

/-- The Fault Manager (16). -/
structure Flt where
  /-- FLT_CTRL.BLOT_EN. [R488; 1; 0] -/
  en : Bool
  /-- FLT_DEVICE. [R488; 5; 0] -/
  device : W32
  /-- FLT_BLOT_BASE. [R487; 64; 0] -/
  base : W64
  /-- FLT_BLOT_SIZE. [R487; 5; 0x0C] -/
  log2 : Nat
  /-- FLT_BLOT_PASID. [R487; 20; 0] -/
  pasid : W32
  /-- FLT_BLOT_WR. [R487; 32; 0] -/
  wr : W32
  /-- FLT_BLOT_RD. [R487; 32; 0] -/
  rd : W32
  /-- FLT_BLOT_LOST. [R487; 32; 0] -/
  lost : W32
  /-- FLT_STALE_EPOCH. [R487; 32; 0] -/
  stale : W32
  /-- Records held on chip, oldest first; FLT_BLOT_HELD counts them. [R468, R487; 256; none] -/
  held : List BlotRec
  /-- The record whose write to the ring is not visible yet; unless a LOSS record, it is still held. [R468; DC none log 4] -/
  flight : Option BlotRec
  /-- Records made so far. [R467; 32; DC 0 log 4] -/
  seq : W32
  /-- Records dropped since the last LOSS record. [R468; DC none log 4] -/
  loss : Option LossInfo
  deriving DecidableEq, Repr

/-- What leaves the Hub (R478). -/
inductive Effect where
  /-- A message down Yarn. -/
  | down (sp : Nat) (msg : DownMsg)
  /-- A request of a Memory Initiator Port. -/
  | mem (req : MemReq)
  /-- A Henpen response in a mailbox. -/
  | respond (n command : Nat) (status : W16) (bytes : List Byte)
  /-- A Blotter record. -/
  | blot (r : BlotRec)
  /-- The stamp of the effect before it, by a unit of the Hub: the type and payload of a trace record (R45). -/
  | stamp (unit typ payload : Nat)
  /-- The completion of an invalidation on the Translation Port. -/
  | xic (itag : Nat)
  /-- The levels the interrupt sources show to the Gatherer. -/
  | levels (high : List Nat)
  deriving DecidableEq, Repr

/-- A held effect and the number of the mirror record that must be acknowledged before it leaves (R478). -/
structure HeldEffect where
  after : Nat
  what  : Effect
  deriving DecidableEq, Repr

/-- The mirror controller (16). -/
structure Mir where
  /-- MIR_STATUS.ROLE. [R490; 3; SINGLE, PRIMARY_ALONE on Hub A and SYNCING on Hub B of a pair] -/
  role : Role
  /-- MIR_STATUS.PARTNER_OK. [R490; 1; 0] -/
  partnerOk : Bool
  /-- MIR_STATUS.IMAGE_MISMATCH. [R490; 1; 0] -/
  mismatch : Bool
  /-- MIR_STATUS.CAUSE. [R490; 4; 0] -/
  cause : Nat
  /-- MIR_FAILOVERS. [R489; 32; 0] -/
  failovers : W32
  /-- MIR_BENIGN. [R489; 32; 0] -/
  benign : W32
  /-- MIR_LAST_FAILOVER. [R489; 64; 0] -/
  lastFailover : W64
  /-- MIR_INTERRUPT_NS. [R489; 32; 0] -/
  interruptNs : W32
  /-- MIR_IN_DOUBT. [R489; 32; 0] -/
  inDoubt : W32
  /-- Mirror records made by this Hub as primary. [R476, R489; DC 0 log 4] -/
  sent : Nat
  /-- Of them, those acknowledged; MIR_LAG is the difference. [R478, R489; DC 0 log 4] -/
  acked : Nat
  /-- Effects held back. [R478; DC none log 4] -/
  held : List HeldEffect
  /-- Stamp of the last record or heartbeat sent, or received while following. [R480, R484; DC 0 log 4] -/
  lastBeat : Nat
  /-- Stamp of the oldest unacknowledged record. [R475; DC 0 log 4] -/
  waitSince : Nat
  /-- MRP_LINK_UP. [R520; 1; DC 0 log 4] -/
  linkUp : Bool
  /-- A takeover not acknowledged by the driver: source 0x3C2. [R482; 1; 0] -/
  failoverSource : Bool
  /-- Splitters that have granted this Hub's TAKEOVER. [R475; DC none log 4] -/
  granted : List Nat
  /-- Splitters to which this Hub has sent TAKEOVER and that have not answered. [R475; DC none log 4] -/
  asked : List Nat
  /-- Splitters whose refusal is on its way to this Hub. [R475, R479; DC none log 4] -/
  refused : List Nat
  /-- When this Hub entered CLAIMING. [R484; DC 0 log 4] -/
  claimedAt : Nat
  /-- Downward messages kept until the splitter reports them forwarded. [R479, R482; DC none log 4] -/
  downLog : List DownSent
  /-- Next sequence down each port. [R479; 16 each; DC 0 log 4] -/
  downSeq : Tbl Nat
  /-- FAILOVER_REQ or the heartbeat sent last, as the Mirror Port drove it. [R480; DC 0 log 4] -/
  failoverReq : Bool
  /-- Responses that the primary holds back, as this follower knows them. [R112; DC none log 4] -/
  responses : List Response
  /-- Regions re-copied to the follower. [R477; DC none log 4] -/
  recopied : List Nat
  /-- Stamp of the last sweep. [R477; DC 0 log 4] -/
  lastSweep : Nat
  deriving DecidableEq, Repr

/-- Clock and power state of the Hub (R461) and its pins. -/
structure Power where
  /-- Hub power state. [R461; ACTIVE (any wake); DC ACTIVE log 4] -/
  hub : HubState
  /-- Since when the Hub has been idle, and in DOZE since when. [R461; DC 0 log 4] -/
  since : Nat
  /-- The Hub has been woken only for a watch-slot poll or an alignment round. [R461; 1; DC 0 log 4] -/
  brief : Bool
  /-- HCLK has been started by a boot load. [R437; 1; DC 0 log 4] -/
  hclk : Bool
  /-- HUB_RESET_N is released. [R495; 1; DC 0 log 4] -/
  hubReleased : Bool
  /-- TEST_MODE of the Hub. [R524; 1; DC 0 log 4] -/
  testMode : Bool
  /-- Self-test results that the blocks' wrappers hold: block class, index, PASS. [R523, R524; 17 each; DC none log 4] -/
  selfTests : List (Nat × Nat × Bool)
  deriving DecidableEq, Repr

/-- The state of SJ4: the Hub, its splitters and its Nibs, and the queue of the commands that are waiting. -/
structure State where
  /-- Commands waiting, first in first out (the block form's queue). [model; empty] -/
  pending : List Instr
  /-- Build-time parameters. [R496; DC reference package log 3] -/
  build : Build
  /-- Ductus. [02] -/
  ductus : Ductus
  /-- Trace writer. [02] -/
  trace : Trace
  /-- Host Target Port. [03] -/
  htp : Htp
  /-- Doorbells. [03] -/
  bells : Bells
  /-- Mailboxes and Inkwell. [03] -/
  mbx : Mbx
  /-- Interrupt Gatherer. [13] -/
  iga : Iga
  /-- Configuration. [15] -/
  cfg : Cfg
  /-- What the last accepted seal made live. [R454; none] -/
  live : LiveConfig
  /-- Copybook block and boot load. [14] -/
  cpb : Cpb
  /-- Management Core. [04] -/
  mgmt : Mgmt
  /-- DME0 to DME7. [R420; running] -/
  dmes : List Dme
  /-- Context slots; an unlisted slot is FREE with generation 0. [R139, R415; 1024; FREE, generation 0] -/
  ctxs : Tbl Ctx
  /-- Partitions. [R156; 64; none] -/
  parts : Tbl Part
  /-- Queues by queue ID. [R163; 2^20; none] -/
  queues : Tbl Queue
  /-- Queue Engine. [06] -/
  qe : QueueEngine
  /-- Tasks in flight by tag. [R260, R315; 16 bit; none] -/
  tasks : Tbl Task
  /-- Placement epoch counter. [R290; 32; DC 0 log 4] -/
  epoch : W32
  /-- Parse order of commands. [R204; DC 0 log 4] -/
  parseNo : Nat
  /-- Sync Unit. [11] -/
  sync : SyncUnit
  /-- DBG block. [09, 11] -/
  dbg : Dbg
  /-- Splitters by index. [R310; in reset] -/
  splitters : List Splitter
  /-- Nibs by Nib ID. [09; in reset] -/
  nibs : List Nib
  /-- Translation Agent. [09] -/
  xlat : Xlat
  /-- Outstanding memory requests. [R501; none] -/
  mip : List MemReq
  /-- Feed. [12] -/
  feed : Feed
  /-- Fault Manager. [16] -/
  flt : Flt
  /-- Mirror controller. [16] -/
  mir : Mir
  /-- Clock and power state, pins. [15, 17] -/
  power : Power
  deriving DecidableEq, Repr

/-- The build of the model's reset state: the reference package with a single Hub (R496; log 3). -/
def Build.reference : Build :=
  { nibs := 256, splitters := 16, mirrored := false, stitchers := 16, engineQueues := 16, hclkMax := 2000,
    nclkMax := 2400, hubPos := 0, buildId := 0, hclk := 2000 }

/-- A mailbox after reset (R87). -/
def Mailbox.reset : Mailbox :=
  { owner := 0, state := .free, irqEn := false, inkBase := 0, inkCount := 0, toFw := 0, toHost := 0, reqLen := 0,
    respLen := 0, result := 0, seen := 0, forced := false }

/-- A Dispatch Microengine after reset (R420; log 4). -/
def Dme.reset : Dme :=
  { stopped := false, next := ⟨0, 0⟩, stack := [], resume := ⟨0, 0⟩, inHandler := false, sinceSafe := 0, freeze := false, kill := false,
    stopCount := false, wake := false }

/-- A rail group after reset (R400, R401). -/
def Rail.reset : Rail :=
  { level := 0, trim := 0, trimWanted := 0, thermalCeil := 15, flowCeil := 15, request := none, lastStep := none,
    corr := 4096, corrCount := 0, clampRun := 0, charge := 0, debt := 0, temp := none, tempMissing := 0, lastTemp := 0,
    marginLow := false, drooped := false, powerMw := none, powerSum := 0, powerCount := 0, rawWindow := 0,
    zeroed := false, lastRelease := none }

/-- A splitter in reset (R494). -/
def Splitter.reset : Splitter :=
  { link := .inReset, down := [], up := [], counters := [], barriers := [], replay := [], forwarded := 0,
    primaryPeer := true, released := false, heard := 0, offset := none, slew := 0, unaligned := false, alignedAt := none,
    testMode := false }

/-- A Nib in reset (R494, R511). -/
def Nib.reset : Nib :=
  { link := .inReset, via := 0, die := 0, ports := [], firstReport := none, power := .off, waking := false,
    idleSince := 0, level := 0, increment := 0, down := [], up := [], tasks := [], slots := [], stitchers := [],
    cores := [], openCores := 0, openedAt := 0, lastBusy := 0, meter := 0, purlMeter := 0, cycleFrac := 0,
    lastCore := 0, nextUid := 0, cache := [], enqueues := [], barrierCores := [], invalidations := [], purl := 0,
    offset := none, slew := 0, unaligned := false, alignedAt := none, traceBuf := [], traceLoss := none, sampled := [],
    trainFrom := 0, testMode := false }

/-- Nothing live before the first accepted seal (R454). -/
def LiveConfig.none : LiveConfig :=
  { useNibs := [], deliverable := 0, energy := [], limits := Option.none, skein := [], deviceId := 0,
    partCrc := Option.none, sealCrc := 0, sealed := false }

/-- The role a Hub takes at device reset (R475, R489). -/
def Role.atReset (b : Build) : Role :=
  if b.mirrored then (if b.hubPos = 0 then .primaryAlone else .syncing) else .single

/-- The state right after a device reset of a Hub of build `b`. -/
def State.resetOf (b : Build) : State :=
  { pending := []
    build := b
    ductus := { count := 0, phase := 0, refOk := false, epoch := .unset, prior := .unset, load := 0, loadRefused := false,
                epochMissed := false, offsetBad := false, slew := 0, offset := 0, edges := 0, lastEdge := 0,
                loads := 0, followed := false,
                alignWorst := 0, alignMax := 0, alignDone := [], alignFaults := 0, sentOffsets := [], hiLatch := [] }
    trace := { en := false, wrap := false, idle := true, base := 0, log2 := 16, wr := 0, rd := 0, mask := 0, rate := 16,
               drop := 0, pasid := 0, mopSel := 0, inbound := [], buf := [], issued := 0, span := 0, spent := 0, loss := none,
               ringLoss := none, seqs := [], second := 0 }
    htp := { discards := 0, lastBad := 0, latches := [], staged := [], held := [], waiting := [], resp := none,
             mirrorHeld := [] }
    bells := { catcher := [], held := [], binds := [], drops := 0, lastDrop := 0 }
    mbx := { boxes := List.replicate 16 Mailbox.reset, data := [], ink := [], discards := 0, inkDiscards := 0 }
    iga := { compat := false, stray := 0, strayLast := 0, sw := 0, levels := [], states := [], cfg := [],
             thresholds := [], withdrawn := [], configLatch := false, exchangeLatch := false }
    cfg := { state := .training, ready := false, check := none, firstFail := 0, detail := 0, breaks := 0, holdNs := 0,
             launchEn := true, dozeUs := 0x0A, sleepUs := 0x3E8, nibOffUs := 0x64, capSel := 0, tables := [],
             energyNew := false, train := .waiting }
    live := LiveConfig.none
    cpb := { state := .waitKeys, start := false, patchLoaded := false, lastStatus := 0, henpenOffset := 0,
             henpenLen := 0, patchOffset := 0, patchLen := 0, detail := 0, keyCounter := 0, patchInfo := 0,
             patchRollback := 0, henpenRollback := 0, eccCorrected := 0, mcodeFault := 0, patchDigest := 0,
             matchRegs := [], margin := [], keyReq := false, verifyKey := none, imageKey := none, counter := none }
    mgmt := { fwVersion := 0, image := none, staged := none, exchange := .none, lastExchange := 0xFFFF, progs := [],
              answers := [], queueBase := 0, eventBase := 0, patternBase := 0, store := [], lastTag := 0, nextProg := 0,
              adminStopped := false, recoveries := [], warmReset := false, warmAborted := false }
    dmes := List.replicate 8 Dme.reset
    ctxs := [], parts := [], queues := []
    qe := { visits := [], resident := [], nextDme := 0, loads := [], paging := [] }
    tasks := [], epoch := 0, parseNo := 0
    sync := { words := [], taskLocal := [], waits := [], nextWait := 0, watches := [], memOps := [], nextOp := 0,
              barriers := [], gens := [], late := [] }
    dbg := { qCtrl := 0, qCount := 0, qLeft := 0, nCtrl := 0, nCount := 0, nLeft := 0, stops := 0, stopQueue := 0, stopNib := 0, nfStamp := 0,
             nfSource := 0, nfCount := 0, syncCtrl := 0, syncIndex := 0, syncPasid := 0, syncAddr := 0, syncValue := 0,
             syncResult := 0, syncOld := 0, syncFault := 0, syncFaultStamp := 0, syncFaults := 0 }
    splitters := List.replicate b.splitters Splitter.reset
    nibs := List.replicate b.nibs Nib.reset
    xlat := { reqs := [], cache := [], invs := [], users := [], done := [] }
    mip := []
    feed := { ctrl := 0xF, halt := false, capExceeded := false, trimExhausted := false, calClamped := false,
              senseMissed := false, hostLimit := 0, rails := List.replicate 16 Rail.reset, wakes := [], window := [],
              bucket := [], buckets := [], overRun := 0, overArmed := true, reasonNs := List.replicate 8 0, mask := 0,
              flow := none, partSel := 0, qeSel := 0, qeReady := false, qeUj := 0, served := [0, 0, 0, 0, 0],
              dNow := none, rates := [] }
    flt := { en := false, device := 0, base := 0, log2 := 12, pasid := 0, wr := 0, rd := 0, lost := 0, stale := 0,
             held := [], flight := none, seq := 0, loss := none }
    mir := { role := Role.atReset b, partnerOk := false, mismatch := false, cause := 0, failovers := 0, benign := 0,
             lastFailover := 0, interruptNs := 0, inDoubt := 0, sent := 0, acked := 0, held := [], lastBeat := 0,
             waitSince := 0, linkUp := false, failoverSource := false, granted := [], asked := [], refused := [],
             claimedAt := 0, downLog := [], downSeq := [], failoverReq := false, responses := [], recopied := [], lastSweep := 0 }
    power := { hub := .active, since := 0, brief := false, hclk := false, hubReleased := false, testMode := false, selfTests := [] } }

/-- The machine right after a device reset: the reference build (log 3). -/
def State.reset : State := State.resetOf Build.reference

end Sys2Proof.Machine
end

