-- ==== Sys2Proof/Machine/Ops.lean ====
section
/-! DEFINITION. The operations that the commands share: tables, bytes and memory, the time and the trace, the Blotter,
interrupt source levels, and what leaves the Hub. -/

namespace Sys2Proof.Machine

open Sys2Proof

/-! ## Tables (sorted by key, no key twice) -/

/-- The entry of a key. -/
def tget {α : Type} : Tbl α → Nat → Option α
  | [], _ => none
  | (k, v) :: r, n => if k = n then some v else tget r n

/-- The entry of a key, or a default. -/
def tgetD {α : Type} (t : Tbl α) (n : Nat) (d : α) : α := (tget t n).getD d

/-- The table with an entry set. -/
def tset {α : Type} : Tbl α → Nat → α → Tbl α
  | [], n, v => [(n, v)]
  | (k, w) :: r, n, v =>
    if n < k then (n, v) :: (k, w) :: r
    else if k = n then (n, v) :: r
    else (k, w) :: tset r n v

/-- The table without a key. -/
def tdel {α : Type} : Tbl α → Nat → Tbl α
  | [], _ => []
  | (k, w) :: r, n => if k = n then r else (k, w) :: tdel r n

/-- The table with the entry of a key changed where there is one. -/
def tmod {α : Type} : Tbl α → Nat → (α → α) → Tbl α
  | [], _, _ => []
  | (k, w) :: r, n, f => if k = n then (k, f w) :: r else (k, w) :: tmod r n f

/-- Every entry changed. -/
def tmap {α : Type} (t : Tbl α) (f : Nat → α → α) : Tbl α := t.map fun e => (e.1, f e.1 e.2)

/-- A table of words of which an unlisted one reads 0: writing 0 removes the entry. -/
def wset {w : Nat} (t : Tbl (BitVec w)) (n : Nat) (v : BitVec w) : Tbl (BitVec w) :=
  if v = 0 then tdel t n else tset t n v

/-- The lowest number in `List.range n` that a test accepts. -/
def lowest (n : Nat) (ok : Nat → Bool) : Option Nat := (List.range n).find? ok

/-- A number added to an ascending list without repeats. -/
def insertNat : List Nat → Nat → List Nat
  | [], n => [n]
  | k :: r, n => if n < k then n :: k :: r else if n = k then k :: r else k :: insertNat r n

/-- The ascending list without repeats of the members of a list. -/
def sortNats (l : List Nat) : List Nat := l.foldl insertNat []

/-- A list with one position changed. -/
def lmod {α : Type} (l : List α) (i : Nat) (f : α → α) : List α := l.modify i f

/-- The first element a test accepts, and the rest. -/
def takeFirst {α : Type} (ok : α → Bool) : List α → Option (α × List α)
  | [] => none
  | a :: r => if ok a then some (a, r) else (takeFirst ok r).map fun p => (p.1, a :: p.2)

/-! ## Numbers and bytes -/

/-- Bits [hi:lo] of a number. -/
def bits (x hi lo : Nat) : Nat := x / 2 ^ lo % 2 ^ (hi + 1 - lo)

/-- One bit of a number. -/
def bit (x i : Nat) : Bool := bits x i i = 1

/-- A Bool as a number. -/
def b2n (b : Bool) : Nat := if b then 1 else 0

/-- A saturating 32-bit count (R72 and the other counters). -/
def sat32 (c : W32) (n : Nat) : W32 := BitVec.ofNat 32 (min (c.toNat + n) 0xFFFFFFFF)

/-- A saturating 64-bit count (R389, R463). -/
def sat64 (c : W64) (n : Nat) : W64 := BitVec.ofNat 64 (min (c.toNat + n) 0xFFFFFFFFFFFFFFFF)

/-- A number as a signed one of `w` bits. -/
def signed (w x : Nat) : Int := if x % 2 ^ w < 2 ^ (w - 1) then (x % 2 ^ w : Nat) else (x % 2 ^ w : Nat) - (2 ^ w : Nat)

/-- An integer in two's complement of `w` bits. -/
def unsignedOf (w : Nat) (i : Int) : Nat := (i % (2 ^ w : Nat)).toNat

/-- Little-endian value of bytes (R17). -/
def leNat : List Byte → Nat
  | [] => 0
  | b :: r => b.toNat + 256 * leNat r

/-- `n` little-endian bytes of a number (R17). -/
def leBytes : Nat → Nat → List Byte
  | 0, _ => []
  | n + 1, x => BitVec.ofNat 8 x :: leBytes n (x / 256)

/-- `n` bytes from an offset. -/
def slice (l : List Byte) (off n : Nat) : List Byte := (l.drop off).take n

/-- The little-endian field of `n` bytes at an offset. -/
def le (l : List Byte) (off n : Nat) : Nat := leNat (slice l off n)

/-- The little-endian 64-bit field at an offset. -/
def le64 (l : List Byte) (off : Nat) : W64 := BitVec.ofNat 64 (le l off 8)

/-- The little-endian 32-bit field at an offset. -/
def le32 (l : List Byte) (off : Nat) : W32 := BitVec.ofNat 32 (le l off 4)

/-- Whether bytes are all zero. -/
def zeros (l : List Byte) : Bool := l.all (· == 0)

/-- Bytes filled with zeros to a length. -/
def padTo (n : Nat) (l : List Byte) : List Byte := l.take n ++ List.replicate (n - l.length) 0

/-- One bit of the CRC-32C register (R92), reflected. -/
def crcBit (c : W32) : W32 := if c.getLsbD 0 then (c >>> 1) ^^^ 0x82F63B78 else c >>> 1

/-- One byte of the CRC-32C (R92). -/
def crcByte (c : W32) (b : Byte) : W32 :=
  let x := c ^^^ b.setWidth 32
  crcBit (crcBit (crcBit (crcBit (crcBit (crcBit (crcBit (crcBit x)))))))

/-- CRC-32C of bytes (R92). -/
def crc32c (l : List Byte) : W32 := l.foldl crcByte 0xFFFFFFFF ^^^ 0xFFFFFFFF

/-! ## The addressed RAMs: Inkwell and the mailbox buffers -/

/-- Canonical form: addresses strictly rising, no listed byte equal to what an unlisted address reads as (0). -/
def Memory.wf : Memory → Bool
  | [] => true
  | [c] => c.2 != 0
  | c :: d :: r => c.2 != 0 && decide (c.1 < d.1) && Memory.wf (d :: r)

/-- The byte at an address; an unlisted address reads 0 (R87; log 4). -/
def Memory.byte : Memory → Nat → Byte
  | [], _ => 0
  | (k, v) :: r, a => if k = a then v else Memory.byte r a

/-- The memory with one byte written. -/
def Memory.put : Memory → Nat → Byte → Memory
  | [], a, b => if b = 0 then [] else [(a, b)]
  | (k, v) :: r, a, b =>
    if a < k then (if b = 0 then (k, v) :: r else (a, b) :: (k, v) :: r)
    else if k = a then (if b = 0 then r else (a, b) :: r)
    else (k, v) :: Memory.put r a b

/-- `n` bytes from an address. -/
def Memory.read (m : Memory) (a : Nat) : Nat → List Byte
  | 0 => []
  | n + 1 => Memory.byte m a :: Memory.read m (a + 1) n

/-- Bytes written from an address on. -/
def Memory.write (m : Memory) (a : Nat) : List Byte → Memory
  | [] => m
  | b :: r => Memory.write (Memory.put m a b) (a + 1) r

/-! ## Time -/

/-- What the next REFCLK_25M edge adds to the master count: 40 ns, or 39 or 41 while a slew runs (R34, R38). -/
def Ductus.stride (d : Ductus) : Nat := if d.slew > 0 then 39 else if d.slew < 0 then 41 else 40

/-- The count interpolated between master steps (R34). -/
def Ductus.time (d : Ductus) : Nat := d.count + min d.phase (d.stride - 1)

/-- Ductus time at the Hub (R34). -/
def State.now (s : State) : Nat := s.ductus.time

/-- Whether HCLK runs (R461). -/
def State.awake (s : State) : Bool := s.power.hub == .active

/-- Ductus time as the always-on domain stamps it: a multiple of the master step while HCLK is not running (R34). -/
def State.aoNow (s : State) : Nat := if s.awake then s.now else s.ductus.count

/-- CFG_STATUS.LAUNCH_HELD: no launch may request allowance (R457, R459, R464). -/
def State.launchHeld (s : State) : Bool := s.cfg.state != .sealed || !s.cfg.launchEn

/-- Whether this Hub is primary or single: whether it serves and dispatches (R475, R481). -/
def State.primary (s : State) : Bool :=
  s.mir.role == .single || s.mir.role == .primaryMirrored || s.mir.role == .primaryAlone

/-! ## Trace records -/

/-- Units of the Hub in SOURCE (R48). -/
def unitHtp : Nat := 0x00
/-- Management Core (R48). -/
def unitMc : Nat := 0x01
/-- A Dispatch Microengine (R48). -/
def unitDme (d : Nat) : Nat := 0x02 + d
/-- Queue Engine (R48). -/
def unitQe : Nat := 0x0A
/-- Event Scoreboard and Completion (R48). -/
def unitCu : Nat := 0x0B
/-- Sync Unit (R48). -/
def unitSync : Nat := 0x0C
/-- Ductus (R48). -/
def unitDuc : Nat := 0x0D
/-- Feed (R48). -/
def unitFeed : Nat := 0x0E
/-- Interrupt Gatherer (R48). -/
def unitIga : Nat := 0x0F
/-- Fault Manager (R48). -/
def unitFm : Nat := 0x10
/-- Translation Agent (R48). -/
def unitTa : Nat := 0x11

/-- SOURCE of a Hub unit (R48). -/
def State.source (s : State) (unit : Nat) : Nat := s.build.hubPos * 32 + unit

/-- SOURCE of a splitter, a Nib and a Stitcher (R48). -/
def splitterSource (sp : Nat) : Nat := 0x1000 + sp
/-- SOURCE of a Nib (R48). -/
def nibSource (n : Nat) : Nat := 0x2000 + n
/-- SOURCE of a Stitcher (R48). -/
def stitcherSource (n core : Nat) : Nat := 0x3000 + n * 16 + core

/-- The category bit of DUC_TRACE_MASK that admits a record type (R45, R64); none for types no mask suppresses (R50). -/
def traceCategory : Nat → Option Nat
  | 0x01 => some 0 | 0x02 => some 0 | 0x03 => some 1 | 0x04 => some 2 | 0x06 => some 2 | 0x05 => some 3
  | 0x07 => some 4 | 0x08 => some 5 | 0x09 => some 6 | 0x0A => some 7 | 0x0B => some 8 | 0x0C => some 8
  | 0x0D => some 9 | 0x0E => some 10 | _ => none

/-- Whether a record type is a full record (R49). -/
def traceFull (typ : Nat) : Bool := typ == 0x07 || typ == 0x08 || typ == 0x09 || typ == 0x0A || typ ≥ 0xF0

/-- Whether a record of a type is generated (R50, R59, R64). -/
def Trace.admits (t : Trace) (typ : Nat) (debug : Bool) : Bool :=
  t.en && (debug || match traceCategory typ with | none => true | some b => t.mask.getLsbD b)

/-- The record a unit generates and the trace with that unit's count advanced (R48). -/
def Trace.make (t : Trace) (source typ stamp payload : Nat) (debug unaligned ao : Bool) : Trace × TraceRec :=
  let n := tgetD t.seqs source 0
  ({ t with seqs := tset t.seqs source (n + 1) },
   { stamp := stamp, typ := typ, debug := debug, unaligned := unaligned, ao := ao, source := source, seq := n,
     payload := BitVec.ofNat 128 payload })

/-- A record of a Hub unit where it is generated, on its way to the writer. -/
def State.recordWhen (s : State) (generated : Bool) (unit typ stamp payload : Nat) (debug ao : Bool) : State :=
  if generated then
    let p := s.trace.make (s.source unit) typ stamp payload debug false ao
    { s with trace := { p.1 with inbound := p.1.inbound ++ [p.2] } }
  else s

/-- A record of a Hub unit where its category is enabled (R59, R60). -/
def State.recordAs (s : State) (unit typ stamp payload : Nat) (debug ao : Bool) : State :=
  s.recordWhen (s.trace.admits typ debug) unit typ stamp payload debug ao

/-- A record of a Hub unit stamped now (R26, R45). -/
def State.record (s : State) (unit typ payload : Nat) : State := s.recordAs unit typ s.aoNow payload false (!s.awake)

/-- A FAULT record (R49): code, and object in [127:16]. -/
def State.recordFault (s : State) (unit : Nat) (code : W16) (object : Nat) : State :=
  s.record unit 0x0A (code.toNat + 2 ^ 16 * object)

/-- Ductus time of a Nib's own count; the Hub's where it has none (R39, R42). The counts of the dies are kept as offsets
to the Hub's, so a load of the master count moves them with it (R33 names no moment for them; log 118). -/
def State.nibNow (s : State) (n : Nat) : Nat :=
  match s.nibs[n]? with
  | some nib => ((s.now : Int) + nib.offset.getD 0).toNat
  | none => s.now

/-- A record of a Nib or Stitcher with a stamp, into the Nib's buffer of 64, dropped and counted without room (R56, R57). -/
def State.recordNibAs (s : State) (n source typ stamp payload : Nat) : State :=
  match s.nibs[n]? with
  | none => s
  | some nib =>
    if s.trace.admits typ false then
      let p := s.trace.make source typ stamp payload false nib.unaligned false
      let s := { s with trace := p.1 }
      if nib.traceBuf.length < 64 ∧ nib.traceLoss = none then
        { s with nibs := lmod s.nibs n fun b => { b with traceBuf := b.traceBuf ++ [p.2] } }
      else
        { s with
          trace := { s.trace with drop := sat32 s.trace.drop 1 }
          nibs := lmod s.nibs n fun b =>
            { b with traceLoss := some (match b.traceLoss with
                | none => ⟨1, p.2.stamp⟩
                | some l => { l with count := l.count + 1 }) } }
    else s

/-- A record of a Nib or Stitcher, stamped now. -/
def State.recordNib (s : State) (n source typ payload : Nat) : State := s.recordNibAs n source typ (s.nibNow n) payload

/-- A record of a splitter, on its way to the writer. -/
def State.recordSplitter (s : State) (sp typ payload : Nat) : State :=
  match s.splitters[sp]? with
  | none => s
  | some x =>
    if s.trace.admits typ false then
      let p := s.trace.make (splitterSource sp) typ ((s.now : Int) + x.offset.getD 0).toNat payload false x.unaligned false
      { s with trace := { p.1 with inbound := p.1.inbound ++ [p.2] } }
    else s

/-- Payload of a BARRIER record of a Nib or splitter (R45, R49), which know of no throttle reasons. -/
def State.barrierPayload (s : State) (ident : Nat) (release : Bool) : Nat :=
  ident % 2 ^ 32 + 2 ^ 32 * (s.live.deviceId % 4096) + 2 ^ 44 * b2n release

/-! ## Lookup and update of the parts -/

/-- A queue changed. -/
def State.modQueue (s : State) (q : Nat) (f : Queue → Queue) : State := { s with queues := tmod s.queues q f }
/-- A context changed. -/
def State.modCtx (s : State) (c : Nat) (f : Ctx → Ctx) : State := { s with ctxs := tmod s.ctxs c f }
/-- A partition changed. -/
def State.modPart (s : State) (p : Nat) (f : Part → Part) : State := { s with parts := tmod s.parts p f }
/-- A task changed. -/
def State.modTask (s : State) (t : Nat) (f : Task → Task) : State := { s with tasks := tmod s.tasks t f }
/-- A Nib changed. -/
def State.modNib (s : State) (n : Nat) (f : Nib → Nib) : State := { s with nibs := lmod s.nibs n f }
/-- A splitter changed. -/
def State.modSplitter (s : State) (sp : Nat) (f : Splitter → Splitter) : State :=
  { s with splitters := lmod s.splitters sp f }
/-- A rail group changed. -/
def State.modRail (s : State) (g : Nat) (f : Rail → Rail) : State :=
  { s with feed := { s.feed with rails := lmod s.feed.rails g f } }
/-- A mailbox changed. -/
def State.modBox (s : State) (n : Nat) (f : Mailbox → Mailbox) : State :=
  { s with mbx := { s.mbx with boxes := lmod s.mbx.boxes n f } }
/-- A Dispatch Microengine changed. -/
def State.modDme (s : State) (d : Nat) (f : Dme → Dme) : State := { s with dmes := lmod s.dmes d f }

/-- An event latched in every DME (R424, R426). -/
def State.latchAll (s : State) (f : Dme → Dme) : State := { s with dmes := s.dmes.map f }
/-- An event latched in the DME that serves a resident queue (R179, R424). -/
def State.latchQueue (s : State) (q : Nat) (f : Dme → Dme) : State :=
  match tget s.queues q with
  | some x => if x.resident then s.modDme x.dme f else s
  | none => s

/-- A context handle's slot and generation (R139). -/
def handleSlot (h : W32) : Nat := bits h.toNat 9 0
/-- Its generation (R139). -/
def handleGen (h : W32) : Nat := bits h.toNat 31 10
/-- The handle of a slot's present context (R139). -/
def handleOf (slot gen : Nat) : W32 := BitVec.ofNat 32 (gen * 1024 + slot)

/-- The context that a handle names, where slot and generation agree and it is not FREE (R140). -/
def State.ctxOf (s : State) (h : W32) : Option (Nat × Ctx) :=
  match tget s.ctxs (handleSlot h) with
  | some c => if c.gen = handleGen h ∧ c.state ≠ .free then some (handleSlot h, c) else none
  | none => none

/-- Whether a Nib is present: trained and not lost (R160, R447). -/
def Nib.present (n : Nib) : Bool := n.link == .up

/-- Whether a Nib has a FILLER-class queue (class 7, R250) in some core. -/
def Nib.hasFiller (n : Nib) : Bool := n.ports.any fun c => c.2.any (· == 7)

/-! ## The Blotter -/

/-- A record into the held places, or dropped and counted (R468). -/
def Flt.hold (f : Flt) (r : BlotRec) : Flt :=
  if f.held.length < 256 then { f with held := f.held ++ [r] }
  else { f with
    lost := sat32 f.lost 1
    loss := some (match f.loss with | none => ⟨1, r.stamp⟩ | some l => { l with count := l.count + 1 }) }

/-! ## Interrupt sources -/

/-- Whether the STOP-mode ring is full: fewer than 48 B lie between the write count and the read count (R58). -/
def Trace.fullAt (t : Trace) (wr : W32) : Bool := !t.wrap && decide (2 ^ t.log2 < (wr - t.rd).toNat * 16 + 48)

/-- TRACE_FULL (R58, R63). -/
def Trace.full (t : Trace) : Bool := t.fullAt t.wr

/-- The sources whose level is high (R402), ascending. -/
def State.highSources (s : State) : List Nat :=
  let queues := s.queues.filterMap fun e => if e.2.irqPending && e.2.irqEn then some e.2.irqSource else none
  let fixed : List (Nat × Bool) :=
    [ (0x3C0, s.flt.wr != s.flt.rd || !s.flt.held.isEmpty)
    , (0x3C1, s.flt.device != 0)
    , (0x3C2, s.mir.failoverSource)
    , (0x3C3, s.feed.halt)
    , (0x3C4, s.feed.capExceeded || s.feed.trimExhausted || s.feed.calClamped || s.feed.senseMissed)
    , (0x3C5, s.ductus.loadRefused || s.ductus.epochMissed || s.ductus.offsetBad || s.trace.full)
    , (0x3C6, s.dbg.stops != 0)
    , (0x3C7, s.dbg.syncFaults != 0)
    , (0x3C8, s.iga.configLatch)
    , (0x3C9, s.iga.exchangeLatch) ]
  let boxes := (s.mbx.boxes.zipIdx).filterMap fun b =>
    if b.1.state == .done && b.1.irqEn then some (0x3D0 + b.2) else none
  let soft := (List.range 16).filterMap fun i => if s.iga.sw.getLsbD i then some (0x3E0 + i) else none
  sortNats (queues ++ (fixed.filterMap fun p => if p.2 then some p.1 else none) ++ boxes ++ soft)

/-- State of a source; an unlisted one is IDLE. -/
def Iga.stateOf (g : Iga) (n : Nat) : SrcState := tgetD g.states n .idle

/-- A source's state set; IDLE is unlisted. -/
def Iga.setState (g : Iga) (n : Nat) (st : SrcState) : Iga :=
  { g with states := if st = .idle then tdel g.states n else tset g.states n st }

/-- Configuration of a source. -/
def Iga.cfgOf (g : Iga) (n : Nat) : SrcCfg := tgetD g.cfg n ⟨0, 0⟩

/-- Whether a PENDING source would be eligible for a target (R406). -/
def Iga.admits (g : Iga) (n t : Nat) : Bool :=
  (g.cfgOf n).targets.getLsbD t && decide ((g.cfgOf n).priority > tgetD g.thresholds t 0)

/-- Whether a source is eligible for a target (R406). -/
def Iga.eligible (g : Iga) (n t : Nat) : Bool := g.stateOf n == .pending && g.admits n t

/-- IRQ_OUT[t] (R406). -/
def Iga.out (g : Iga) (t : Nat) : Bool := g.states.any fun e => g.eligible e.1 t

/-- A source's level rises (R405). -/
def Iga.rise (g : Iga) (n : Nat) : Iga := if g.stateOf n = .idle then g.setState n .pending else g

/-- A source's level falls (R405): a PENDING source is withdrawn from every target it was eligible for. -/
def Iga.fall (g : Iga) (n : Nat) : Iga :=
  if g.stateOf n = .pending then
    { g.setState n .idle with
      withdrawn := sortNats (g.withdrawn ++ (List.range 32).filter fun t => g.eligible n t) }
  else g

/-- The Gatherer samples the levels (R405, R413); while the Hub follows every source stays IDLE (R414). -/
def Iga.sample (g : Iga) (high : List Nat) (serving : Bool) : Iga :=
  let rises := high.filter fun n => !g.levels.contains n
  let falls := g.levels.filter fun n => !high.contains n
  let g := { g with levels := high }
  if serving then rises.foldl Iga.rise (falls.foldl Iga.fall g) else g

/-! ## What leaves the Hub -/

/-- The Nibs that a message passes to through their splitter, which forwards it; none for a task message, of which the
splitter takes note (R310). -/
def DownMsg.nibs : DownMsg → Option (List Nat)
  | .task _ => none
  | .withdraw n _ _ _ => some [n]
  | .syncReply r => some [r.nib]
  | .enqueueReply n .. => some [n]
  | .residue n _ _ _ => some [n]
  | .release ns _ _ _ _ => some ns
  | .invalidate n _ _ _ _ => some [n]
  | .abort ns _ _ => some ns

/-- Messages at the front of a splitter's down-stream that it only forwards reach their Nibs, in order (R510; log 7). -/
def State.passDownN : Nat → State → Nat → State
  | 0, s, _ => s
  | fuel + 1, s, sp =>
    match (s.splitters[sp]?).map Splitter.down with
    | some (m :: rest) =>
      match m.nibs with
      | none => s
      | some ns =>
        let s := s.modSplitter sp fun x =>
          { x with down := rest, forwarded := x.forwarded + 1
                   barriers := match m with
                     | .release _ _ b _ _ => x.barriers.filter fun f => f.ident != b
                     | _ => x.barriers }
        let s := match m with
          | .release _ _ b _ _ => s.recordSplitter sp 0x09 (s.barrierPayload b true)
          | _ => s
        State.passDownN fuel
          (ns.foldl (fun s n => s.modNib n fun b => if b.link = .up then { b with down := b.down ++ [m] } else b) s) sp
    | _ => s

/-- The same for all that waits at a splitter. -/
def State.passDown (s : State) (sp : Nat) : State :=
  match s.splitters[sp]? with
  | some x => State.passDownN x.down.length s sp
  | none => s

/-- A message put on a down-port: the splitter receives it if its link is up, and a mirrored build keeps it until it is
reported forwarded (R479, R482). -/
def State.sendDown (s : State) (sp : Nat) (m : DownMsg) : State :=
  let seq := tgetD s.mir.downSeq sp 0
  let s := if s.build.mirrored then
      { s with mir := { s.mir with
          downSeq := tset s.mir.downSeq sp ((seq + 1) % 65536)
          downLog := s.mir.downLog ++ [⟨sp, seq, m⟩] } }
    else s
  (s.modSplitter sp fun x => if x.link = .up then { x with down := x.down ++ [m], heard := s.now } else x).passDown sp

/-- A splitter's link starts anew: messages down to it are numbered from 0, and none awaits its report (R479). -/
def State.freshLink (s : State) (sp : Nat) : State :=
  { s with mir := { s.mir with
      downSeq := tdel s.mir.downSeq sp
      downLog := s.mir.downLog.filter fun d => d.splitter != sp } }

/-- Whether a splitter acts on an upward message of a Nib itself (R294, R310, R349), rather than forward it. -/
def UpMsg.folds : UpMsg → Bool
  | .done _ => true
  | .withdrawn .. => true
  | .barrier .. => true
  | _ => false

/-- A splitter sends a message to the Hub (R479): a mirrored build keeps it in the replay buffer. -/
def State.splitterUp (s : State) (sp : Nat) (m : UpMsg) : State :=
  s.modSplitter sp fun x =>
    if x.link = .up then { x with up := x.up ++ [m], replay := if s.build.mirrored then x.replay ++ [m] else x.replay } else x

/-- Whether a splitter's Nib ports are ready (R479). -/
def State.portsReady (s : State) (sp : Nat) : Bool :=
  match s.splitters[sp]? with | some x => decide (x.replay.length < 256) | none => false

/-- Messages at the front of a Nib's up-stream that its splitter only forwards go on to the Hub, in order. -/
def State.passUpN : Nat → State → Nat → State
  | 0, s, _ => s
  | fuel + 1, s, n =>
    match s.nibs[n]? with
    | some b =>
      match b.up with
      | m :: rest =>
        if m.folds ∨ ¬s.portsReady b.via then s
        else State.passUpN fuel ((s.modNib n fun b => { b with up := rest }).splitterUp b.via m) n
      | [] => s
    | none => s

/-- The same for all that waits at a Nib. -/
def State.passUp (s : State) (n : Nat) : State :=
  match s.nibs[n]? with
  | some b => State.passUpN b.up.length s n
  | none => s

/-- A Nib sends a message up Yarn, in its message order (R292, R510). -/
def State.sendUp (s : State) (n : Nat) (m : UpMsg) : State :=
  (s.modNib n fun b => if b.link = .up then { b with up := b.up ++ [m] } else b).passUp n

/-- The message that a splitter's link delivers to a serving Hub next. -/
def State.hubFront (s : State) (sp : Nat) : Option (UpMsg × State) :=
  if s.awake && s.primary then
    match (s.splitters[sp]?).map Splitter.up with
    | some (m :: rest) => some (m, s.modSplitter sp fun x => { x with up := rest })
    | _ => none
  else none

/-- The message that a Nib's splitter receives from it next. -/
def State.splitterFront (s : State) (n : Nat) : Option (UpMsg × Nib × State) :=
  match s.nibs[n]? with
  | some b =>
    match b.up with
    | m :: rest => if s.portsReady b.via then some (m, b, s.modNib n fun b => { b with up := rest }) else none
    | [] => none
  | none => none

/-- The message that a Nib receives next. -/
def State.nibFront (s : State) (n : Nat) : Option (DownMsg × Nib × State) :=
  match s.nibs[n]? with
  | some b =>
    match b.down with
    | m :: rest => if b.present then some (m, b, s.modNib n fun b => { b with down := rest }) else none
    | [] => none
  | none => none

/-- Whether a mailbox holds a request that firmware has not answered. -/
def Mailbox.busy (b : Mailbox) : Bool := b.state == .posted || b.state == .busy

/-- A mailbox freed by its release or a forced free (R83): MBX_INK := 0. -/
def Mailbox.freed (b : Mailbox) : Mailbox :=
  { b with state := .free, inkBase := 0, inkCount := 0, reqLen := 0, respLen := 0, result := 0, forced := false }

/-- A response posted in a mailbox (R83): DONE, or FREE where the mailbox was marked. -/
def State.postResponse (s : State) (n command : Nat) (status : W16) (bytes : List Byte) : State :=
  match s.mbx.boxes[n]? with
  | none => s
  | some b =>
    if b.busy then
      let s := s.record unitMc 0x0E (n + 16 * command + 2 ^ 20 * status.toNat + 2 ^ 36)
      if b.forced then s.modBox n Mailbox.freed
      else
        { s with mbx := { s.mbx with
            boxes := lmod s.mbx.boxes n fun b => { b with state := .done, result := status, respLen := bytes.length }
            data := s.mbx.data.write (n * 0x100) bytes } }
    else s

/-! ## Translations and the memory ports (R22, R282, R501, R506) -/

/-- Whether a cached translation serves an access (R282, R284). -/
def Tlb.serves (e : Tlb) (pasid page : Nat) (write : Bool) : Bool :=
  e.pasid == pasid && decide (e.page ≤ page) && decide (page < e.page + e.size) && (if write then e.writable else e.readable)

/-- The tag of a new translation request: the lowest free one of 256, or one above while all are in use, which waits
(R507). -/
def Xlat.freshTag (x : Xlat) : Nat :=
  match lowest 256 fun t => !x.reqs.any fun r => r.tag == t with
  | some t => t
  | none => x.reqs.foldl (fun m r => max m (r.tag + 1)) 256

/-- The oldest request that waits takes a free tag (R507). -/
def Xlat.promote (x : Xlat) (now : Nat) : Xlat :=
  match lowest 256 fun t => !x.reqs.any fun r => r.tag == t with
  | none => x
  | some t =>
    match x.reqs.find? fun r => decide (256 ≤ r.tag) with
    | none => x
    | some w => { x with reqs := x.reqs.map fun r => if r.tag = w.tag then { r with tag := t, since := now } else r }

/-- Whether a request in flight asks for a page and may still be cached. -/
def XReq.same (r : XReq) (nib : Option Nat) (pasid page : Nat) (write : Bool) : Bool :=
  !r.dead && r.dirty.isEmpty && r.nib == nib && r.pasid == pasid && r.page == page && r.write == write

/-- The Nib whose Nib Memory Port a request uses; none for one of the Hub's ports (R501, R504). -/
def MemWait.nib : MemWait → Option Nat
  | .nibConstants n _ => some n
  | .nibSlot n _ => some n
  | .nibEntry n => some n
  | _ => none

/-- The Nib of a memory request. -/
def MemReq.nib (r : MemReq) : Option Nat := r.wait.bind MemWait.nib

/-- The Hub or a Nib asks for the translation of a page, merged with a request in flight for it (R22, R283, R506; log 15). The
Translation Agent remembers which Nibs asked (R285). -/
def Xlat.ask (x : Xlat) (now : Nat) (nib : Option Nat) (pasid page : Nat) (write : Bool) (core : Option Nat) : Xlat :=
  if x.reqs.any fun r => r.same nib pasid page write then x
  else { x with
    reqs := x.reqs ++ [{ tag := x.freshTag, nib := nib, pasid := pasid, page := page, write := write, since := now,
                         core := core, dirty := [], dead := false, asks := [] }]
    users := match nib with | some n => tset x.users pasid (sortNats (n :: tgetD x.users pasid [])) | none => x.users }

/-- The 4 KiB pages that some bytes lie in. -/
def pagesOf (addr : W64) (len : Nat) : List Nat :=
  (List.range ((addr.toNat % 4096 + len + 4095) / 4096)).map fun i => (addr.toNat / 4096 + i) % 2 ^ 52 * 4096

/-- Whether a request changes memory. -/
def MemReq.writes (r : MemReq) : Bool := r.op != .read

/-- The translations held where a request is made (R22, R282). -/
def State.copies (s : State) (nib : Option Nat) : List Tlb :=
  match nib with
  | none => s.xlat.cache
  | some n => match s.nibs[n]? with | some b => b.cache | none => []

/-- The pages of a request that no translation held serves (R22, R501). -/
def State.missing (s : State) (r : MemReq) : List Nat :=
  if r.phys then [] else (pagesOf r.addr r.len).filter fun p => !(s.copies r.nib).any fun e => e.serves r.pasid p r.writes

/-- A memory request: on its port at once where its translations are held, else once those asked for have returned. -/
def State.putMem (s : State) (r : MemReq) : State :=
  let pages := s.missing r
  { s with
    mip := s.mip ++ [{ r with pages := pages }]
    xlat := pages.foldl (fun x p => x.ask s.now r.nib r.pasid p r.writes none) s.xlat }

/-- An effect leaves the Hub. -/
def State.release (s : State) : Effect → State
  | .down sp m => s.sendDown sp m
  | .mem r => s.putMem r
  | .respond n command st bytes => s.postResponse n command st bytes
  | .blot r => { s with flt := s.flt.hold r }
  | .stamp unit typ payload => s.record unit typ payload
  | .xic itag => { s with xlat := { s.xlat with done := itag :: s.xlat.done } }
  | .levels high => { s with iga := s.iga.sample high s.primary }

/-- An effect on its way out of the Hub: a mirrored primary holds it until the follower has acknowledged the record of
this change (R478). -/
def State.emit (s : State) (e : Effect) : State :=
  if s.mir.role = .primaryMirrored then
    { s with mir := { s.mir with held := s.mir.held ++ [⟨s.mir.sent + 1, e⟩] } }
  else s.release e

/-- A Blotter record made (R467). Only a primary writes the Blotter; another Hub's records leave over the Mirror Port
(R468). -/
def State.blot (s : State) (code : W16) (kind unit : Nat) (object : Nat) : State :=
  let r : BlotRec := { stamp := s.aoNow, seq := s.flt.seq, code := code, kind := kind, fromFollower := false,
                       hubPos := s.build.hubPos, source := s.source unit, object := BitVec.ofNat 320 object }
  let s := { s with flt := { s.flt with seq := s.flt.seq + 1 } }
  if s.primary then s.emit (.blot r) else s

/-- A RECOVERY record (R467, R471). -/
def State.recovered (s : State) (action target : Nat) (code : W16) : State := s.blot code 0x0C unitFm (action + 16 * target)

/-- A message to the splitter that serves a Nib (R497). -/
def State.sendNib (s : State) (n : Nat) (m : DownMsg) : State :=
  match s.nibs[n]? with
  | some nib => s.emit (.down nib.via m)
  | none => s

/-- A memory read of the Hub, not held back by the mirror: it changes nothing outside (R478). -/
def State.readMem (s : State) (w : MemWait) (pasid : Nat) (part : Option Nat) (addr : W64) (len : Nat) (phys : Bool) :
    State :=
  s.putMem { wait := some w, op := .read, pasid := pasid, part := part, addr := addr, len := len, data := [], atomic := false,
             phys := phys, since := s.now, dead := false, pages := [] }

/-- A memory write of the Hub. -/
def State.writeMem (s : State) (w : Option MemWait) (pasid : Nat) (part : Option Nat) (addr : W64) (data : List Byte)
    (atomic : Bool) : State :=
  s.emit (.mem { wait := w, op := .write, pasid := pasid, part := part, addr := addr, len := data.length, data := data,
                 atomic := atomic, phys := false, since := s.now, dead := false, pages := [] })

/-- A write of a private region, under PASID 0 with no partition, at a physical address (R164, R254, R299, R501). -/
def State.writePrivate (s : State) (addr : W64) (data : List Byte) : State :=
  s.emit (.mem { wait := some .privateWrite, op := .write, pasid := 0, part := none, addr := addr, len := data.length, data := data,
                 atomic := false, phys := true, since := s.now, dead := false, pages := [] })

/-- A write of the trace writer or the Fault Manager, which the mirror does not hold back (R478). It carries no partition:
its PASID is a register's (R53, R468). -/
def State.portWrite (s : State) (w : MemWait) (pasid : Nat) (addr : W64) (data : List Byte) : State :=
  s.putMem { wait := some w, op := .write, pasid := pasid, part := none, addr := addr, len := data.length, data := data,
             atomic := false, phys := false, since := s.now, dead := false, pages := [] }

/-- Whether a live (not timed-out) memory request for a purpose is outstanding. -/
def State.waitsFor (s : State) (w : MemWait) : Bool := s.mip.any fun r => r.wait == some w && !r.dead

/-- The oldest live request for a purpose that is on a port, taken off it as its response arrives (R503). -/
def State.answered (s : State) (w : MemWait) : Option (MemReq × State) :=
  (takeFirst (fun r => r.wait == some w && !r.dead && r.pages.isEmpty) s.mip).map fun p => (p.1, { s with mip := p.2 })

/-! ## Throttle reasons -/

/-- The present Nibs of a rail group among some Nibs: the group of a Nib under the sealed map (R362). -/
def State.railOf (s : State) (n : Nat) : Nat := match s.live.limits with | some l => l.railGroup.getD n 0 | none => 0

/-- The throttle reasons set for a partition (R388). -/
def State.reasonsOf (s : State) (p : Nat) (part : Part) : Nat :=
  let withheld (k : Nat) : Bool := s.queues.any fun e =>
    (match s.ctxOf e.2.handle with | some c => c.2.partition == some p | none => false) &&
    e.2.subs.any fun sub => sub.cmds.any fun c => c.withheld == some k && c.state != .complete
  let groups := sortNats ((part.nibs.filter fun n => (s.nibs[n]?.map Nib.present).getD false).map s.railOf)
  let below (ceil : Rail → Nat) : Bool := groups.any fun g =>
    match s.feed.rails[g]? with | some r => decide (ceil r < part.target) | none => false
  let set : List Bool :=
    [ withheld 0, withheld 1, withheld 2 || s.feed.wakes.any (fun w => w.partition == some p), below Rail.thermalCeil,
      below Rail.flowCeil || s.feed.halt, withheld 5, withheld 6, !part.pace.isEmpty ]
  (set.zipIdx).foldl (fun m b => m + (if b.1 then 2 ^ b.2 else 0)) 0

/-- The device mask: the reasons of all partitions (R388). -/
def State.deviceMask (s : State) : Nat := s.parts.foldl (fun m e => m ||| s.reasonsOf e.1 e.2) 0

/-- What every withheld launch is withheld for now: COOLANT as the device halts (R374, R394); nothing while no launch may request
allowance, which is counted under no reason (R458). -/
def State.withholdAll (s : State) (reason : Option Nat) : State :=
  { s with queues := tmap s.queues fun _ (x : Queue) => { x with subs := x.subs.map fun (u : Sub) =>
      { u with cmds := u.cmds.map fun (d : Cmd) => if d.withheld.isSome then { d with withheld := reason } else d } } }

/-! ## Chains and readiness of queues (R170 to R172, R176, R202) -/

/-- Outstanding packets of a queue, those whose token has returned apart. -/
def EngineQueue.live (e : EngineQueue) : List OutMop := e.out.filter fun o => !o.returned

/-- Whether a command is a launch. -/
def CmdOp.isLaunch : CmdOp → Bool
  | .launch .. => true
  | .replay .. => true
  | _ => false

/-- The first field of an entry that fails (R170, R172). -/
def entryCheck (b : List Byte) : Option W16 :=
  let len := le b 4 4
  if 4 ≤ le b 0 4 then some Code.reservedSet
  else if len = 0 ∨ len % 16 ≠ 0 ∨ 16777216 < len then some Code.segmentBad
  else if le b 8 8 % 16 ≠ 0 then some Code.segmentBad
  else if zeros (slice b 0x10 48) then none
  else some Code.reservedSet

/-- The extent of the chain at the head of the entries read, `k` entries into it, with the code of an error response or of
CHAIN_BAD; none while it is not complete (R171, R172). An entry whose read drew an error counts as neither FIRST nor LAST;
with none to follow it, it ends the chain (log 25). `bad` says that an error came before. -/
def chainExtent : List RaEntry → Nat → Bool → Option (Nat × Option W16)
  | [], k, bad => if bad then some (k, some Code.memoryError) else none
  | .reading :: _, _, _ => none
  | .error _ :: r, k, _ => if k = 15 then some (16, some Code.memoryError) else chainExtent r (k + 1) true
  | .got b _ :: r, k, bad =>
    let code (c : W16) : Option W16 := some (if bad then Code.memoryError else c)
    let ctrl := le b 0 4
    if k = 0 ∧ ¬bit ctrl 0 then some (1, some Code.chainBad)
    else if k ≠ 0 ∧ bit ctrl 0 then some (k, code Code.chainBad)
    else if bit ctrl 1 then some (k + 1, if bad then some Code.memoryError else none)
    else if k = 15 then some (16, code Code.chainBad)
    else chainExtent r (k + 1) bad

/-- The bytes of a returned entry. -/
def RaEntry.bytes : RaEntry → List Byte
  | .got b _ => b
  | _ => []

/-- When an entry returned. -/
def RaEntry.stamp : RaEntry → Nat
  | .got _ t => t
  | .error t => t
  | .reading => 0

/-- The chain at the head of the entries read ahead (R171, R172, R178). A submission of the admin queue is a single
entry; a longer chain is none (R171). -/
def chainAt (admin : Bool) (ra : List RaEntry) : Option Chain :=
  match chainExtent ra 0 false with
  | none => none
  | some (n, code) =>
    let es := ra.take n
    let code := match code with
      | some c => some c
      | none => if admin && n != 1 then some Code.chainBad else es.findSome? fun e => entryCheck e.bytes
    let segs := es.map fun e => (le64 e.bytes 8, le e.bytes 4 4)
    let sum := segs.foldl (fun m p => m + p.2) 0
    some { entries := n
           code := code
           cost := if code.isSome then 1 else max 1 ((sum + 255) / 256)
           segs := if code.isSome then [] else segs
           stamp := es.foldl (fun m e => max m e.stamp) 0 }

/-- Commands of a queue that hold a window slot (R202). -/
def Queue.windowUsed (x : Queue) : Nat :=
  x.subs.foldl (fun n u => n + u.cmds.countP fun c => !(c.op.isLaunch && c.state == .begun && c.rest.isEmpty)) 0

/-- Window slots in use over all queues (R202). -/
def State.poolUsed (s : State) : Nat := s.queues.foldl (fun n e => n + e.2.windowUsed) 0

/-- The context state that lets a queue fetch (R176). -/
def State.ctxActive (s : State) (q : Nat) : Bool :=
  match (tget s.queues q).bind fun x => s.ctxOf x.handle with
  | some (_, c) => c.state == .active && c.kill.isNone
  | none => false

/-- Whether a queue is ready for fetch (R176). The admin queue fetches nothing while an online exchange runs (R136) or
after the watchdog has stopped it (R470). -/
def State.ready (s : State) (q : Nat) : Bool :=
  match tget s.queues q with
  | none => false
  | some x =>
    x.resident && x.enabled && !x.faulted && !x.parked && s.ctxActive q &&
    (chainAt (q == 0) x.ra).isSome && decide ((x.subs.countP fun u => u.retired.isNone) < 64) &&
    decide (x.windowUsed < 64) && decide (s.poolUsed < 16384) &&
    (q != 0 || (s.mgmt.exchange == .none && !s.mgmt.adminStopped))

/-! ## Idleness of the Hub (R379, R461) -/

/-- Whether Feed lets the Hub enter DOZE (R379). -/
def State.feedIdle (s : State) : Bool :=
  s.nibs.all (fun b => b.power != .run) && s.feed.wakes.isEmpty && s.parts.all (fun e => e.2.purl.isNone) &&
    s.feed.rails.all fun r => r.request.isNone

/-- Whether no Yarn message is in flight. -/
def State.yarnIdle (s : State) : Bool :=
  (s.splitters.all fun x => x.up.isEmpty && x.down.isEmpty) && s.nibs.all fun b => b.up.isEmpty && b.down.isEmpty

/-- Whether the Hub is idle (R461; log 32). -/
def State.hubIdle (s : State) : Bool :=
  (s.queues.all fun e => !s.ready e.1 && e.2.windowUsed == 0) && !(s.mbx.boxes.any Mailbox.busy) &&
    s.htp.held.isEmpty && s.htp.waiting.isEmpty && s.trace.buf.isEmpty && s.yarnIdle && s.feedIdle

/-- The time since which the Hub has been idle is kept (R461). -/
def State.noteIdle (s : State) : State :=
  { s with power := { s.power with since := if !s.awake || s.hubIdle then s.power.since else s.now } }

/-! ## The end of a command -/

/-- The responses that a mirrored primary holds back (R112). -/
def State.heldResponses (s : State) : List Response :=
  s.mir.held.filterMap fun h => match h.what with
    | .respond n command status bytes => some ⟨n, command, status, bytes⟩
    | _ => none

/-- The downward messages that no splitter has reported forwarded, those held back among them (R478, R482). -/
def State.mirroredDowns (s : State) : List DownSent :=
  (s.mir.held.foldl (fun (log, seqs) h => match h.what with
    | .down sp m =>
      let seq := tgetD seqs sp 0
      (log ++ [⟨sp, seq, m⟩], tset seqs sp ((seq + 1) % 65536))
    | _ => (log, seqs)) (s.mir.downLog, s.mir.downSeq)).1

/-- The mirrored state (R476). -/
def State.mirrored (s : State) : Mirrored :=
  { ctxs := s.ctxs, binds := s.bells.binds, parts := s.parts, live := s.live, cfg := s.cfg.state, queues := s.queues,
    tasks := s.tasks, epoch := s.epoch, parseNo := s.parseNo, sync := s.sync,
    store := s.mgmt.store,
    firmware := { boxes := s.mbx.boxes, data := s.mbx.data, ink := s.mbx.ink, progs := s.mgmt.progs,
                  nextProg := s.mgmt.nextProg, answers := s.mgmt.answers, responses := s.heldResponses,
                  images := { image := s.mgmt.image, staged := s.mgmt.staged, exchange := s.mgmt.exchange,
                              version := s.mgmt.fwVersion, last := s.mgmt.lastExchange, rollback := s.cpb.henpenRollback,
                              latch := s.iga.exchangeLatch } },
    time := { count := s.ductus.count, phase := s.ductus.phase, loads := s.ductus.loads, epoch := s.ductus.epoch,
              lastEdge := s.ductus.lastEdge, traceWr := s.trace.wr, blotWr := s.flt.wr, blotRd := s.flt.rd },
    downLog := s.mirroredDowns }

/-- Feed records a change of the device mask in a THROTTLE record (R388). -/
def State.noteMask (s : State) : State :=
  let m := s.deviceMask
  if m = s.feed.mask then s
  else { s.record unitFeed 0x0C (m + 256 * s.feed.mask) with feed := { s.feed with mask := m } }

/-- The levels that the Gatherer will have sampled once every held effect has left. -/
def State.lastLevels (s : State) : List Nat :=
  s.mir.held.foldl (fun l h => match h.what with | .levels x => x | _ => l) s.iga.levels

/-- The Gatherer sees the source levels (R413). -/
def State.noteLevels (s : State) : State :=
  let high := s.highSources
  let last := if s.mir.role = .primaryMirrored then s.lastLevels else s.iga.levels
  if high = last then s else s.emit (.levels high)

/-- A mirrored primary sends a record of each change (R476, R478). -/
def State.noteMirror (before s : State) : State :=
  if s.mir.role = .primaryMirrored ∧ (before.mirrored ≠ s.mirrored ∨ s.mir.held.any fun h => decide (s.mir.sent < h.after)) then
    { s with mir := { s.mir with
        sent := s.mir.sent + 1
        lastBeat := s.now
        waitSince := if s.mir.sent = s.mir.acked then s.now else s.mir.waitSince } }
  else s

/-- What every command ends with: the throttle mask, the interrupt levels and the mirror record follow the change. -/
def State.close (before s : State) : State := State.noteMirror before s.noteMask.noteLevels.noteIdle

/-- A command's answer: the state after its effect. -/
def done (before after : State) : Host.Outcome State Fault Refusal := .next (State.close before after)

/-- A command that finds its event not enabled: the state stays (log 1). -/
def skip (s : State) : Host.Outcome State Fault Refusal := .next s

/-- A response for which no live request waits: the late one of a request that has been given up frees its tag and is
discarded (R503); there is no other. -/
def late (s : State) (w : MemWait) : Host.Outcome State Fault Refusal :=
  match takeFirst (fun r => r.wait == some w && r.dead) s.mip with
  | some (_, rest) => done s { s with mip := rest }
  | none => skip s

end Sys2Proof.Machine
end

