-- ==== Sys2Proof/Machine/Completion.lean ====
section
/-! DEFINITION. The Event Scoreboard and the Completion Unit: events and their waits (R299 to R309), failure and
retirement of submissions (R192, R193, R316), write-backs (R317 to R321), and the kill procedure (R144, R151). -/

namespace Sys2Proof.Machine

open Sys2Proof

/-! ## Owners -/

/-- The context that owns a queue, with its slot. -/
def State.ctxOfQueue (s : State) (q : Nat) : Option (Nat × Ctx) :=
  match tget s.queues q with
  | some x => s.ctxOf x.handle
  | none => none

/-- Whether requests may be made for a context (R147). -/
def Ctx.served (c : Ctx) : Bool := c.state == .active || c.state == .bindingOff

/-- The queues of a context slot. -/
def State.queuesOf (s : State) (slot : Nat) : List Nat :=
  s.queues.filterMap fun e => if handleSlot e.2.handle = slot then some e.1 else none

/-- A submission of a queue changed, by its sequence number. -/
def State.modSub (s : State) (q : Nat) (n : W64) (f : Sub → Sub) : State :=
  s.modQueue q fun x => { x with subs := x.subs.map fun u => if u.seq = n then f u else u }

/-- A submission of a queue. -/
def State.subOf (s : State) (q : Nat) (n : W64) : Option Sub :=
  match tget s.queues q with
  | some x => x.subs.find? fun u => u.seq == n
  | none => none

/-! ## Events -/

/-- Whether a wait with a target is satisfied (R301). -/
def EventState.reached (e : EventState) (target : Nat) : Bool :=
  decide ((e.recd + 2 ^ 24 - target % 2 ^ 24) % 2 ^ 24 < 2 ^ 23)

/-- The slot whose events a wait entry of a queue of context `h` names: HANDLE 0 names the launching context (R207). -/
def CmdWait.slot (w : CmdWait) (h : W32) : Nat := handleSlot (if w.handle = 0 then h else w.handle)

/-- A wait on an event after the event changed: satisfied with LAST once REC has reached its target (R301, R302). -/
def CmdWait.see (w : CmdWait) (e : EventState) : CmdWait :=
  match w.state with
  | .waiting t => if e.reached t then { w with state := .satisfied e.last } else w
  | _ => w

/-- A queue's commands changed. -/
def Queue.mapCmds (x : Queue) (f : Cmd → Cmd) : Queue :=
  { x with subs := x.subs.map fun u => { u with cmds := u.cmds.map f } }

/-- A command's waits on an event see its new state. -/
def Cmd.seeEvent (h : W32) (slot ev : Nat) (e : EventState) (c : Cmd) : Cmd :=
  { c with waits := c.waits.map fun w => if w.event = ev ∧ CmdWait.slot w h = slot then w.see e else w }

/-- The resident queues of a DME that a satisfied wait of theirs wakes (R426). -/
def State.wakes (s : State) (slot ev : Nat) (e : EventState) (d : Nat) : Bool :=
  s.queues.any fun p => p.2.resident && p.2.dme == d && p.2.mapCmds (Cmd.seeEvent p.2.handle slot ev e) != p.2

/-- Every wait registered on an event sees its new state (R302, R306, R307), and the DMEs of the waiters are told (R426). -/
def State.seeEvent (s : State) (slot ev : Nat) (e : EventState) : State :=
  { s with
    queues := tmap s.queues fun _ x => x.mapCmds (Cmd.seeEvent x.handle slot ev e)
    dmes := s.dmes.zipIdx.map fun m => if s.wakes slot ev e m.2 then { m.1 with wake := true } else m.1 }

/-- An event's state changed, and its waits. -/
def State.setEvent (s : State) (slot ev : Nat) (f : EventState → EventState) : State :=
  match tget s.ctxs slot with
  | none => s
  | some c =>
    match tget c.events ev with
    | none => s
    | some e => (s.modCtx slot fun c => { c with events := tset c.events ev (f e) }).seeEvent slot ev (f e)

/-- An event is armed (R300); its state is in the scoreboard from then on (log 18). -/
def State.armEvent (s : State) (slot ev : Nat) : State :=
  s.setEvent slot ev fun e => { e with arm := (e.arm + 1) % 2 ^ 24, cached := true }

/-- An event records (R300). -/
def State.recordEvent (s : State) (slot ev : Nat) (status : W16) : State :=
  s.setEvent slot ev fun e => { e with recd := (e.recd + 1) % 2 ^ 24, last := status, cached := true }

/-- An event completes with error for every waiter (R306). -/
def State.errorEvent (s : State) (slot ev : Nat) (code : W16) : State :=
  s.setEvent slot ev fun e => { e with recd := if e.arm = 0 then 1 else e.arm, last := code, cached := true }

/-- Wait entries in use (R304): registered and not satisfied. -/
def State.waitsUsed (s : State) : Nat :=
  s.queues.foldl (fun n e => e.2.subs.foldl (fun n u => u.cmds.foldl (fun n c =>
    n + c.waits.countP fun w => match w.state with | .waiting _ => true | .reading => true | _ => false) n) n) 0

/-! ## Write-back -/

/-- STATUS of a write-back of a queue other than the admin queue (R188, R190, R318) or of the admin queue (R106). -/
def Queue.status (x : Queue) (admin : Bool) : Nat :=
  if admin then x.adminCode.toNat + (if x.adminCode.toNat ≥ 0x100 then 2 ^ 31 else 0)
  else match x.error with
    | some (f, code) =>
      if f.toNat ≤ x.seq.toNat + 1 then 2 ^ 31 + 2 ^ 16 * (x.seq.toNat + 1 - f.toNat) + code.toNat else 0
    | none => 0

/-- The write-back block (R187). -/
def Queue.block (x : Queue) (admin : Bool) : List Byte :=
  leBytes 4 x.head.toNat ++ leBytes 4 (x.status admin) ++ leBytes 8 x.seq.toNat ++ leBytes 8 x.advStamp ++ leBytes 8 0

/-- A pending write-back is issued unless one of the queue is in flight; none is for a context that R147 does not serve
(R317, R320, R321). -/
def State.issueWriteBack (s : State) (q : Nat) : State :=
  match tget s.queues q with
  | none => s
  | some x =>
    if x.wbPending ∧ ¬x.wbFlight then
      match s.ctxOf x.handle with
      | some (_, c) =>
        if c.served then
          (s.writeMem (some (.writeBack q)) c.pasid c.partition x.wbAddr (x.block (q == 0)) true).modQueue q
            fun x => { x with wbPending := false, wbFlight := true }
        else s.modQueue q fun x => { x with wbPending := false }
      | none => s
    else s

/-- A write-back is scheduled (R316, R319); none is for a context that R147 does not serve. -/
def State.scheduleWriteBack (s : State) (q : Nat) : State :=
  match s.ctxOfQueue q with
  | some (_, c) => if c.served then (s.modQueue q fun x => { x with wbPending := true }).issueWriteBack q else s
  | none => s

/-! ## Retirement -/

/-- HEAD and SEQ advanced over the retired submissions at HEAD (R316): the queue, and whether it moved. -/
def Queue.advance (x : Queue) : List Sub → Queue
  | [] => { x with subs := [] }
  | u :: r =>
    match u.retired with
    | some code => Queue.advance { x with seq := x.seq + 1, head := x.head + BitVec.ofNat 32 u.entries, adminCode := code } r
    | none => { x with subs := u :: r }

/-- A submission retires (R316, R320): RETIRE record, HEAD advance, write-back. -/
def State.retire (s : State) (q : Nat) (n : W64) (status : W16) : State :=
  match s.subOf q n with
  | none => s
  | some u =>
    if u.retired.isSome then s
    else
      let stamp := s.now
      let s := s.record unitCu 0x07 (q + 2 ^ 32 * status.toNat + 2 ^ 64 * n.toNat)
      let s := s.modSub q n fun u => { u with retired := some status, segs := [], held := [], asked := 0 }
      match tget s.queues q with
      | some x =>
        if u.first = x.head then
          (s.modQueue q fun x => { x.advance x.subs with advStamp := stamp }).scheduleWriteBack q
        else s
      | none => s

/-- A submission whose commands are all gone retires: with its CODE where it failed, else OK once it is parsed
(R192, R193). -/
def State.maybeRetire (s : State) (q : Nat) (n : W64) : State :=
  match s.subOf q n with
  | none => s
  | some u =>
    if u.cmds.isEmpty then
      match u.failed with
      | some code => s.retire q n code
      | none => if u.parsed then s.retire q n Code.ok else s
    else s

/-! ## Failure of a submission -/

/-- Whether a command is of a class that every later command waits for (R198, R200). -/
def CmdOp.blocks : CmdOp → Bool
  | .eventWait => true
  | .syncWait .. => true
  | .barrier .. => true
  | .fenceFetch => true
  | _ => false

/-- The event a command records when it ends, if any (R300). -/
def CmdOp.event : CmdOp → Option Nat
  | .launch _ _ ev _ => ev
  | .replay _ _ ev _ _ _ => ev
  | .eventRecord ev => some ev
  | _ => none

/-- Whether a command stays when its submission fails: a launch that has been dispatched (R192). -/
def Cmd.survives (c : Cmd) : Bool := c.op.isLaunch && c.state == .begun

/-- The event that a command in the bytes of a stream would record (R206, R217): opcode and header are read, RECORD
decides for a launch. -/
def wouldRecord (cmd : List (Option Byte)) : Option Nat :=
  let b (i : Nat) : Nat := ((cmd.getD i none).getD 0).toNat
  let opcode := b 3
  if opcode = 0x10 ∨ opcode = 0x11 then
    if bit (b 0 + 256 * b 1) 3 then some (b 0x12 + 256 * b 0x13) else none
  else if opcode = 0x20 then some (b 4 + 256 * b 5)
  else none

/-- Bytes dropped from the start of a list of stream pieces. -/
def dropSegs : List (W64 × Nat) → Nat → List (W64 × Nat)
  | [], _ => []
  | (a, l) :: r, n => if n = 0 then (a, l) :: r
    else if n < l then (a + BitVec.ofNat 64 n, l - n) :: r
    else dropSegs r (n - l)

/-- Bytes in a list of stream pieces. -/
def segBytes (l : List (W64 × Nat)) : Nat := l.foldl (fun n p => n + p.2) 0

/-- What a scan of a failed submission's unparsed bytes has found: the events, and the scan with the commands it has
read through removed; none where the stream ends or breaks off (R192). A CHAIN is followed. -/
def Scan.walk : Nat → Scan → List Nat → List Nat × Option Scan
  | 0, sc, evs => (evs, some sc)
  | fuel + 1, sc, evs =>
    if sc.header then
      if sc.held.length < 16 then (if sc.segs.isEmpty then (evs, none) else (evs, some sc))
      else Scan.walk fuel { sc with header := false, held := sc.held.drop 16, segs := dropSegs sc.segs 16 } evs
    else if sc.held.length < 4 then (if sc.segs.isEmpty then (evs, none) else (evs, some sc))
    else
      let len := 16 * ((sc.held.getD 2 none).getD 0).toNat
      if len = 0 ∨ segBytes sc.segs < len then (evs, none)
      else if sc.held.length < len then (evs, some sc)
      else if (sc.held.take len).any Option.isNone then (evs, none)
      else
        let cmd := sc.held.take len
        let bytes := cmd.map fun b => b.getD 0
        let evs := match wouldRecord cmd with | some e => evs ++ [e] | none => evs
        if ((sc.held.getD 3 none).getD 0).toNat = 0x01 then
          if sc.chains ≥ 255 then (evs, none)
          else
            let target := [(le64 bytes 8, le bytes 16 4)]
            (evs, some { sc with segs := target, held := [], asked := 0, chains := sc.chains + 1 })
        else Scan.walk fuel { sc with held := sc.held.drop len, segs := dropSegs sc.segs len } evs

/-- The queue faults with a failure at fence `f` (R190): FAULTED, and the lowest failed fence with its code is kept. -/
def State.faultQueue (s : State) (q : Nat) (f : W64) (code : W16) : State :=
  if q = 0 then s
  else
    let s := s.modQueue q fun x =>
      { x with
        faulted := true
        error := match x.error with
          | some (g, c) => if f.toNat < g.toNat then some (f, code) else some (g, c)
          | none => some (f, code) }
    match tget s.queues q with
    | some x => if f = x.seq + 1 then s.scheduleWriteBack q else s
    | none => s

/-- Every event of a list completes with error. -/
def State.errorEvents (s : State) (slot : Nat) (evs : List Nat) (code : W16) : State :=
  evs.foldl (fun s e => s.errorEvent slot e code) s

/-- The watch slots as their waiters now stand (R333): one without a waiter is free, and the period of another is the
smallest POLL_US among its waiters. -/
def SyncUnit.prune (y : SyncUnit) : SyncUnit :=
  { y with watches := y.watches.filterMap fun e =>
      match (y.waits.filter fun w => w.registered && w.word == .mem e.2.pasid e.2.addr).map SyncWait.pollUs with
      | [] => none
      | us :: rest => some (e.1, { e.2 with periodUs := rest.foldl min us }) }

/-- The sync waits and late barrier arrivals of a queue's submission are dropped with its commands (R192). -/
def State.dropSyncWaits (s : State) (q : Nat) (n : W64) : State :=
  let mine : SyncParty → Bool
    | .queue q' n' _ => q' == q && n' == n
    | _ => false
  let waits := s.sync.waits.filter fun w => !mine w.party
  let late := s.sync.late.filter fun a => match a.party with | some p => !mine p | none => true
  { s with sync := SyncUnit.prune { s.sync with waits := waits, late := late } }

/-! ## Reading ahead -/

/-- What was read ahead and not fetched is discarded, with the tail procedure; the reads in progress complete, and what they
return is dropped (R174, R185). -/
def Queue.discardRa (x : Queue) : Queue :=
  { x with
    ra := [], raDrop := x.raDrop + x.ra.countP (· == .reading), tailProc := none
    tailDrop := x.tailDrop + (match x.tailProc with | some p => b2n p.reading | none => 0) }

/-! ## Command bytes (R225) -/

/-- Whether a FENCE_FETCH of a queue is parsed and not complete (R203). -/
def Queue.fenced (x : Queue) : Bool := x.subs.any fun u => u.cmds.any fun c => match c.op with | .fenceFetch => true | _ => false

/-- Bytes of the streams of a queue that are held or being read ahead of their parse points (R225). -/
def Queue.bytesAhead (x : Queue) : Nat :=
  x.subs.foldl (fun n u => n + u.held.length + u.asked) 0 + x.scans.foldl (fun n c => n + c.held.length + c.asked) 0

/-- The next piece of a stream after what is held of it. -/
def nextPiece (segs : List (W64 × Nat)) (held : Nat) : Option (W64 × Nat) := (dropSegs segs held).head?

/-- Whether bytes held, from the start of a command, hold a CHAIN, a FENCE_FETCH or a command that will fail: what follows
in the queue's order is not, or not yet, to be read (R225, R226). -/
def breaksOff : Nat → List (Option Byte) → Bool
  | 0, _ => false
  | fuel + 1, l =>
    match l.getD 2 none, l.getD 3 none with
    | some n, some op =>
      op.toNat == 0x01 || op.toNat == 0x50 || n.toNat == 0 ||
        (decide (16 * n.toNat < l.length) && breaksOff fuel (l.drop (16 * n.toNat)))
    | _, _ => decide (4 ≤ l.length)

/-- Whether the bytes that a submission holds end the reading ahead of its queue for now (R225): they are not parsed yet, and
one of their commands breaks the stream off. -/
def Sub.breaksOff (u : Sub) : Bool :=
  Machine.breaksOff u.held.length (if u.header then u.held else u.held.drop 16)

/-- What is read next of a queue's submissions, in stream order (R225): nothing beyond an unparsed CHAIN or FENCE_FETCH. -/
def nextOfSubs : List Sub → Option (W64 × W64 × Nat)
  | [] => none
  | u :: r =>
    if u.parsed || u.failed.isSome then nextOfSubs r
    else if u.breaksOff then none
    else match nextPiece u.segs u.held.length with
      | some p => some (u.seq, p)
      | none => nextOfSubs r

/-- The stream of a queue that is read next: a failed submission's scan, else the oldest submission with bytes still to
read (R192, R225). -/
def Queue.nextRead (x : Queue) : Option (Option W64 × W64 × Nat) :=
  match x.scans.findSome? fun c => (nextPiece c.segs c.held.length).map fun p => ((none : Option W64), p) with
  | some p => some p
  | none => if x.fenced then none else (nextOfSubs x.subs).map fun p => (some p.1, p.2)

/-- A queue's DME reads on, one read of up to 4 KiB at a time, while fewer than 4 KiB are held (R225); firmware reads the
admin queue's requests itself (R101). -/
def State.cbFetch (s : State) (q : Nat) : State :=
  match tget s.queues q, s.ctxOfQueue q with
  | some x, some (_, c) =>
    if q = 0 ∨ ¬c.served ∨ 4096 ≤ x.bytesAhead ∨ s.waitsFor (.commandBytes q) then s
    else match x.nextRead with
      | none => s
      | some (who, a, l) =>
        let n := min l (4096 - x.bytesAhead)
        let s := s.readMem (.commandBytes q) c.pasid c.partition a n false
        s.modQueue q fun x =>
          match who with
          | none =>
            { x with scans := match takeFirst (fun c => (nextPiece c.segs c.held.length).isSome) x.scans with
                | some (c, _) => x.scans.map fun d => if d = c then { d with asked := n } else d
                | none => x.scans }
          | some m => { x with subs := x.subs.map fun u => if u.seq = m then { u with asked := n } else u }
  | _, _ => s

/-! ## Failure of a submission: what it leaves -/

/-- Whether a command is a SYNC_WAIT, a SYNC_OP on a memory word or a BARRIER that has begun and is not complete: its queue is
PARKED (R221, R222, R335). -/
def Cmd.parks (c : Cmd) : Bool :=
  c.state == .begun && match c.op with | .syncWait .. => true | .syncOp _ m .. => m | .barrier .. => true | _ => false

/-- PARKED as the commands of a queue leave it: it ends with the last of those that park it (R221, R222, R335). -/
def Queue.unparked (x : Queue) : Queue := { x with parked := x.parked && x.subs.any fun u => u.cmds.any Cmd.parks }

/-- The unit of the DME that serves a queue (R48). -/
def State.dmeUnit (s : State) (q : Nat) : Nat := unitDme (match tget s.queues q with | some x => x.dme | none => 0)

/-- Events of a list record a status, one record for each time they stand in it (R300). -/
def State.recordEvents (s : State) (slot : Nat) (evs : List Nat) (code : W16) : State :=
  evs.foldl (fun s e => s.recordEvent slot e code) s

/-- A submission fails with a code that a unit detects (R45, R192): parsed and undispatched commands are discarded, the events
they have armed record, and those that the unparsed ones would record complete with error, unless a kill procedure will do it
(R300, R306); the queue faults (R190), and the submission retires once its dispatched launches are done. `extra` are events
of a command that failed while it was parsed. -/
def State.failSub (s : State) (q : Nat) (n : W64) (code : W16) (killed : Bool) (extra : List Nat) (unit : Nat) : State :=
  match s.subOf q n, s.ctxOfQueue q with
  | some u, some (slot, _) =>
    if u.failed.isSome ∨ u.retired.isSome then s
    else
      let evs := (u.cmds.filter fun c => !c.survives).filterMap fun c => c.op.event
      let sc : Scan := { segs := u.segs, held := u.held, asked := u.asked, chains := u.chains, header := !u.header, code := code }
      let walked := Scan.walk (u.held.length + 1) sc []
      let scan := if killed ∨ u.parsed then none else walked.2
      let s := s.record unit 0x0A (code.toNat + 2 ^ 16 * q)
      let s := s.modSub q n fun u =>
        { u with failed := some code, cmds := u.cmds.filter Cmd.survives, segs := [], held := [], asked := 0 }
      let s := s.modQueue q fun x => Queue.unparked
        { x with cbDrop := if u.asked ≠ 0 ∧ (scan.map Scan.asked).getD 0 = 0 then x.cbDrop + 1 else x.cbDrop
                 scans := x.scans ++ scan.toList }
      let s := s.dropSyncWaits q n
      let s := s.faultQueue q n code
      let s := if killed then s
        else (s.recordEvents slot evs code).errorEvents slot (extra ++ (if u.parsed then [] else walked.1)) code
      (s.maybeRetire q n).cbFetch q
  | _, _ => s

/-! ## Completion of commands -/

/-- A command is complete: it leaves the window and its submission may retire (R193, R202). -/
def State.completeCmd (s : State) (q : Nat) (n : W64) (off : Nat) : State :=
  (s.modSub q n fun u => { u with cmds := u.cmds.filter fun c => c.off ≠ off }).maybeRetire q n

/-- A command of a submission. -/
def State.cmdOf (s : State) (q : Nat) (n : W64) (off : Nat) : Option Cmd :=
  match s.subOf q n with
  | some u => u.cmds.find? fun c => c.off == off
  | none => none

/-- A command changed. -/
def State.modCmd (s : State) (q : Nat) (n : W64) (off : Nat) (f : Cmd → Cmd) : State :=
  s.modSub q n fun u => { u with cmds := u.cmds.map fun c => if c.off = off then f c else c }

/-- A command that parked its queue is gone (R221, R222): the queue is PARKED no longer, unless another parks it. -/
def State.unpark (s : State) (q : Nat) : State := s.modQueue q Queue.unparked

/-- Whether the kill procedure runs in a context. -/
def Ctx.killed (c : Ctx) : Bool := c.kill.isSome

/-- A command fails its submission with a code that a unit detects (R192); the event that it has armed records (R300). -/
def State.failCmd (s : State) (q : Nat) (n : W64) (off : Nat) (code : W16) (unit : Nat) : State :=
  match s.cmdOf q n off, s.ctxOfQueue q with
  | some c, some (slot, ctx) =>
    let s := s.modSub q n fun u => { u with cmds := u.cmds.filter fun c => c.off ≠ off }
    let s := if c.op.blocks then s.unpark q else s
    let s := if ctx.killed then s
      else match c.op.event with
        | some e => s.recordEvent slot e code
        | none => s
    (s.failSub q n code ctx.killed [] unit).maybeRetire q n
  | _, _ => s

/-! ## Registration of waits (R301 to R307) -/

/-- The commands of every window. -/
def State.commandCount (s : State) : Nat :=
  s.queues.foldl (fun n e => e.2.subs.foldl (fun n u => n + u.cmds.length) n) 0

/-- The context whose event a wait entry of a queue of context `h` names, while it is live (R140, R207). -/
def State.waitCtx (s : State) (h : W32) (w : CmdWait) : Option (Nat × Ctx) := s.ctxOf (if w.handle = 0 then h else w.handle)

/-- A wait's target at its registration (R301). -/
def CmdWait.capture (w : CmdWait) (e : EventState) : CmdWait :=
  let target := max e.arm 1
  if e.reached target then { w with state := .satisfied e.last } else { w with state := .waiting target }

/-- A wait entry of a command of context `h` at its registration: satisfied with OWNER_GONE where its context is not live
(R147); none where the event is not allocated (R207). -/
def State.registerWaitEntry (s : State) (h : W32) (w : CmdWait) : Option CmdWait :=
  match s.waitCtx h w with
  | none => some { w with state := .satisfied Code.ownerGone }
  | some (_, c) => (tget c.events w.event).map w.capture

/-- The events that some waits name whose state the scoreboard does not hold (R299, R307). -/
def State.uncached (s : State) (h : W32) (ws : List CmdWait) : List (Nat × Nat) :=
  ws.filterMap fun w =>
    match s.waitCtx h w with
    | none => none
    | some (slot, c) => match tget c.events w.event with
      | some e => if e.cached then none else some (slot, w.event)
      | none => none

/-- Address of an event's 8 bytes in the event store (R299). -/
def State.eventAddr (s : State) (slot ev : Nat) : W64 := s.mgmt.eventBase + BitVec.ofNat 64 (8 * (65536 * slot + ev))

/-- An event's state is read from the event store, under PASID 0 with no partition (R164, R299), unless it is being read. -/
def State.readEvent (s : State) (slot ev : Nat) : State :=
  if s.waitsFor (.eventState slot ev) then s else s.readMem (.eventState slot ev) 0 none (s.eventAddr slot ev) 8 true

/-- All the waits of a command register in one cycle (R303, R305), once the scoreboard holds the state of every event they
name (R307); an unallocated event fails it (R207). -/
def State.registerCmd (s : State) (q : Nat) (n : W64) (c : Cmd) : State :=
  match tget s.queues q with
  | none => s
  | some x =>
    let ws := c.waits.map (s.registerWaitEntry x.handle)
    if ws.any Option.isNone then s.failCmd q n c.off Code.eventRange (s.dmeUnit q)
    else match s.uncached x.handle c.waits with
      | [] => s.modCmd q n c.off fun c => { c with waits := ws.filterMap id }
      | l => (l.foldl (fun s e => s.readEvent e.1 e.2) s).modCmd q n c.off fun c =>
          { c with waits := c.waits.map fun w => { w with state := .reading } }

/-- Whether a wait is satisfied. -/
def CmdWait.met (w : CmdWait) : Bool := match w.state with | .satisfied _ => true | _ => false

/-- The same for a command in its window; the DME is told where a wait is satisfied at once (R426). -/
def State.registerLater (s : State) (q : Nat) (n : W64) (c : Cmd) : State :=
  let t := s.registerCmd q n c
  match t.cmdOf q n c.off with
  | some d => if d.waits.any CmdWait.met then t.latchQueue q fun m => { m with wake := true } else t
  | none => t

/-- The oldest command, by parse stamp, whose waits stay unregistered for event-store reads that are all in (R305, R307). -/
def State.readIn (s : State) : Option (Nat × W64 × Cmd) :=
  s.queues.foldl (fun b e => e.2.subs.foldl (fun b u => u.cmds.foldl (fun b c =>
    if c.waits.any (fun w => w.state == .reading) && (s.uncached e.2.handle c.waits).isEmpty then
      match b with
      | some (_, _, d) => if c.parseNo < d.parseNo then some (e.1, u.seq, c) else b
      | none => some (e.1, u.seq, c)
    else b) b) b) none

/-- Commands whose event-store reads are all in register their waits. -/
def State.registerRead : Nat → State → State
  | 0, s => s
  | fuel + 1, s =>
    match s.readIn with
    | some (q, n, c) => State.registerRead fuel (s.registerLater q n c)
    | none => s

/-- The status of a satisfied wait that fails its command (R219). -/
def CmdWait.failure (w : CmdWait) : Option W16 :=
  match w.state with
  | .satisfied st => if st ≠ 0 ∧ st ≠ Code.nonfinite ∧ ¬w.accept then some st else none
  | _ => none

/-- Whether every command of the submissions before one has been dispatched, its Block commands complete (R201, R218). -/
def Queue.earlierDispatched (x : Queue) (n : W64) : Bool :=
  x.subs.all fun u => decide (n.toNat ≤ u.seq.toNat) || u.failed.isSome ||
    (u.parsed && u.cmds.all fun c => c.state == .begun && c.rest.isEmpty && !c.op.blocks)

/-- Eligibility of a command by its place in its buffer (R200, R204), its own waits and Feed apart. -/
def Queue.eligible (x : Queue) (u : Sub) (c : Cmd) : Bool :=
  x.earlierDispatched u.seq &&
  (u.cmds.all fun d => decide (c.off ≤ d.off) || !d.op.blocks) &&
  (if c.op.isLaunch || (match c.op with | .eventWait => true | .syncWait .. => true | _ => false) then
     !(!u.explicit && u.cmds.any fun d => decide (d.off < c.off))
   else !(u.cmds.any fun d => decide (d.off < c.off)))

/-- The first command that its waits end now: an undispatched command with a failed wait, or an EVENT_WAIT that is
eligible and has every wait satisfied. Its queue, submission, offset, and the code of a failure. -/
def State.waitEnd (s : State) : Option (Nat × W64 × Nat × Option W16) :=
  s.queues.findSome? fun e => e.2.subs.findSome? fun u =>
    if u.failed.isSome then none
    else u.cmds.findSome? fun c =>
      if c.state = .begun then none
      else match c.waits.findSome? CmdWait.failure with
        | some code => some (e.1, u.seq, c.off, some code)
        | none =>
          match c.op with
          | .eventWait => if c.waits.all CmdWait.met && e.2.eligible u c then some (e.1, u.seq, c.off, none) else none
          | _ => none

/-- Waits that events have satisfied act on their commands, one after another (R218, R219, R308). -/
def State.settleWaits : Nat → State → State
  | 0, s => s
  | fuel + 1, s =>
    match s.waitEnd with
    | none => s
    | some (q, n, off, some code) => State.settleWaits fuel (s.failCmd q n off code unitCu)
    | some (q, n, off, none) => State.settleWaits fuel (s.completeCmd q n off)

/-- Whether an event of a context slot has a waiter. -/
def State.awaited (s : State) (slot ev : Nat) : Bool :=
  s.queues.any fun e => e.2.subs.any fun u => u.cmds.any fun d => d.waits.any fun w =>
    w.event == ev && (match w.state with
      | .waiting _ => w.slot e.2.handle == slot
      | .reading => (s.waitCtx e.2.handle w).map Prod.fst == some slot
      | _ => false)

/-- Whether a fetched submission may still record an event: a command of its window will, or it is not parsed to its end. -/
def Sub.mayRecord (u : Sub) (ev : Nat) : Bool :=
  u.retired.isNone && ((!u.parsed && u.failed.isNone) || u.cmds.any fun d => d.op.event == some ev)

/-- The events that nothing will record (R153): awaited events of a context that is bound off without the kill procedure,
which no fetched submission remains to record. -/
def State.orphans (s : State) : List (Nat × List Nat) :=
  s.ctxs.filterMap fun e =>
    if e.2.state = .bindingOff ∧ e.2.kill.isNone then
      let mine := s.queues.filter fun x => handleSlot x.2.handle == e.1
      let recorded (ev : Nat) : Bool := mine.any fun x => !x.2.scans.isEmpty || x.2.subs.any fun u => u.mayRecord ev
      let evs := (e.2.events.map Prod.fst).filter fun ev => s.awaited e.1 ev && !recorded ev
      if evs.isEmpty then none else some (e.1, evs)
    else none

/-- Waits act, and events that nothing will record complete with OWNER_GONE for every waiter (R153), until neither is left. -/
def State.settleAll : Nat → State → State
  | 0, s => s
  | fuel + 1, s =>
    let s := State.settleWaits s.commandCount (State.registerRead s.commandCount s)
    match s.orphans with
    | [] => s
    | l => State.settleAll fuel (l.foldl (fun s p => s.errorEvents p.1 p.2 Code.ownerGone) s)

/-- The state once every satisfied wait has acted. -/
def State.settled (s : State) : State := State.settleAll (s.commandCount + 1) s

/-! ## The kill procedure -/

/-- The tasks of a context in flight. -/
def State.tasksOf (s : State) (slot : Nat) : List (Nat × Task) := s.tasks.filter fun e => e.2.slot == slot

/-- Step 6 of the kill procedure (R151), once every killed task has retired: nothing will record an event of the context any
more, and each completes with the cause for every waiter (R300, R306; log 130). -/
def State.killEvents (s : State) (slot : Nat) : State :=
  match tget s.ctxs slot with
  | none => s
  | some c =>
    match c.kill with
    | none => s
    | some k =>
      if k.eventsDone ∨ s.tasks.any (fun e => e.2.slot == slot) then s
      else (s.modCtx slot fun c => { c with kill := some { k with eventsDone := true } }).errorEvents slot
        (c.events.map Prod.fst) k.cause

/-- The Nibs that hold a position of a context's tasks. -/
def State.nibsHolding (s : State) (slot : Nat) : List Nat :=
  sortNats ((s.tasksOf slot).foldl (fun l e => l ++ e.2.positions.filterMap fun p => if p.counted then none else some p.nib) [])

/-- The waits of a context's engines are answered ABORTED, and their entries are free, as its tasks are aborted
(R331). -/
def State.abortEngineWaits (s : State) (slot : Nat) : State :=
  let gone (w : SyncWait) : Bool := (match w.party with | .engine .. => true | _ => false) && handleSlot w.handle == slot
  let ended (p : SyncParty) (b : Nat) : Bool := s.sync.waits.any fun w => gone w && w.party == p && w.word == .barrier b
  let late := s.sync.late.filter fun a => match a.party with | some p => !ended p a.barrier | none => true
  { s with sync := SyncUnit.prune { s.sync with waits := s.sync.waits.filter fun w => !gone w, late := late } }

/-- The kill procedure starts with a cause (R151): the context's queues stop, commands not yet dispatched are discarded,
and every Nib that holds its tasks is told to abort them. -/
def State.startKill (s : State) (slot : Nat) (cause : W16) : State :=
  match tget s.ctxs slot with
  | none => s
  | some c =>
    let s := s.modCtx slot fun c => { c with kill := some { cause := cause, since := s.now, eventsDone := false } }
    let qs := s.queuesOf slot
    let s := qs.foldl (fun s q => s.latchQueue q fun m => { m with kill := true }) s
    let s := qs.foldl (fun s q => s.modQueue q fun x =>
      { x.discardRa with enabled := false, resv := [], scans := [], cbDrop := x.cbDrop + x.scans.countP fun c => c.asked != 0 }) s
    let s := qs.foldl (fun s q =>
      match tget s.queues q with
      | none => s
      | some x => x.subs.foldl (fun s u =>
          if !u.parsed || u.cmds.any (fun d => !d.survives) then s.failSub q u.seq cause true [] unitFm else s) s) s
    let nibs := s.nibsHolding slot
    let sps := sortNats (nibs.map fun n => match s.nibs[n]? with | some b => b.via | none => 0)
    let s := sps.foldl (fun s sp =>
      s.emit (.down sp (.abort (nibs.filter fun n => match s.nibs[n]? with | some b => b.via == sp | none => false)
        (some c.pasid) cause))) s
    (s.abortEngineWaits slot).killEvents slot

/-- A context-fatal fault (R144, R150). -/
def State.ctxFault (s : State) (slot : Nat) (code : W16) : State :=
  match tget s.ctxs slot with
  | none => s
  | some c =>
    match c.state with
    | .free => s
    | .active =>
      ((s.modCtx slot fun c => { c with state := .faulted, fault := code }).recordFault unitFm code
        (handleOf slot c.gen).toNat).startKill slot code
    | .faulted => s.recordFault unitFm code (handleOf slot c.gen).toNat
    | .bindingOff =>
      let s := if c.fault = 0 then s.modCtx slot fun c => { c with fault := code } else s
      if c.kill.isNone then s.startKill slot code else s

/-- A context-fatal fault against the context that holds a PASID (R143, R150). -/
def State.pasidFault (s : State) (pasid : Nat) (code : W16) : State :=
  match s.ctxs.find? fun e => e.2.pasid == pasid && e.2.state != .free with
  | some e => s.ctxFault e.1 code
  | none => s

/-- A fault against the context of a queue. -/
def State.queueCtxFault (s : State) (q : Nat) (code : W16) : State :=
  match s.ctxOfQueue q with
  | some (slot, _) => s.ctxFault slot code
  | none => s

end Sys2Proof.Machine
end

