-- ==== Sys2Proof/Machine/Feed.lean ====
section
/-! DEFINITION. Feed: prices, estimates, caps, shares, hints, purl and rail steps (12). Energies are in pJ for one interval
of 1,024 ns, and 1 W is 1,024,000 pJ an interval (log 13). -/

namespace Sys2Proof.Machine

open Sys2Proof

/-- pJ of 1 W over an interval. -/
def wattPj : Nat := 1024000

/-! ## Tables -/

/-- ENERGY[c][l] in pJ (R396). -/
def energyOf (t : List Byte) (c l : Nat) : Nat := le t (c * 32 + l * 2) 2
/-- IDLE[g][l] in 10 mW (R396). -/
def idleOf (t : List Byte) (g l : Nat) : Nat := le t (0x800 + g * 32 + l * 2) 2
/-- RAMP_W[c] (R396). -/
def rampOf (t : List Byte) (c : Nat) : Nat := le t (0xA00 + c) 1

/-- A field where 0 selects a default (R397). -/
def orDefault (v d : Nat) : Nat := if v = 0 then d else v

/-- FEED_LIMITS as its bytes give it (R397). -/
def parseLimits (t : List Byte) : FeedLimits :=
  { peakCapW := le t 0 4
    sustainedCapW := le t 4 4
    baseW := le t 8 4
    peakWindowUs := orDefault (le t 0xC 4) 2000
    rampBudget := le t 0x10 2
    staggerNs := orDefault (le t 0x12 2) 256
    eqOpenNs := orDefault (le t 0x14 2) 32
    stepMinUs := le t 0x16 2
    thermalLimit := signed 16 (le t 0x18 2)
    thermalHyst := le t 0x1A 2
    flowMin := le t 0x1C 2
    flowCapLevel := le t 0x1E 1
    bootLevel := le t 0x1F 1
    maxLevel := le t 0x20 1
    fillClass := le t 0x21 1 % 64
    fillPrewarm := le t 0x22 1
    lendRetain := le t 0x23 1
    downSlopeW := le t 0x24 4
    fillBudgetUj := le t 0x28 4
    fillDuration := le t 0x2C 4
    marginLow := le t 0x30 2
    nclkMhz := (List.range 16).map fun i => le t (0x40 + 2 * i) 2
    fillPayload := slice t 0x60 40
    railGroup := (List.range 256).map fun n => le t (0x100 + n) 1 % 16 }

/-! ## Windows -/

/-- Intervals of the peak window (R371). -/
def FeedLimits.window (l : FeedLimits) : Nat := (l.peakWindowUs * 1000 + 1023) / 1024

/-- A sum of a list. -/
def total (l : List Nat) : Nat := l.foldl (· + ·) 0

/-- The share s_q of a partition in 1/256 (R371). -/
def Part.share (x : Part) : Nat := x.power + x.borrowed - x.lent

/-- Whether a sum over `n` intervals is at or above `num`/`den` of the budget that `w` watts over BASE_W give a share
(R371, R372). -/
def atBudget (sum n w share num den : Nat) : Bool := decide (num * (w * share * n * wattPj) ≤ den * (256 * sum))

/-- A partition's limits: which of Peak, Sustained and Host it is at `num`/`den` of (R371). -/
def Part.atLimits (x : Part) (l : FeedLimits) (host num den : Nat) : Bool × Bool × Bool :=
  let n := l.window
  (atBudget (total (x.intervals.take n)) n (l.peakCapW - l.baseW) x.share num den,
   atBudget (total x.buckets) (954 * 1024) (l.sustainedCapW - l.baseW) x.share num den,
   host != 0 && atBudget (total (x.intervals.take n)) n (host - l.baseW) x.share num den)

/-- Whether a partition is over any limit (R372). -/
def Part.over (x : Part) (l : FeedLimits) (host : Nat) : Bool :=
  let a := x.atLimits l host 1 1
  a.1 || a.2.1 || a.2.2

/-- The package peak-window sum in pJ (R371). -/
def Feed.peakSum (f : Feed) (l : FeedLimits) : Nat := total (f.window.take l.window)

/-- Whether the package peak average is at or above a number of W (R374). -/
def Feed.atPeak (f : Feed) (l : FeedLimits) : Bool := decide (l.peakCapW * l.window * wattPj ≤ f.peakSum l)

/-- Whether the package sustained average is at or above the sustained cap (R374). -/
def Feed.atSustained (f : Feed) (l : FeedLimits) : Bool :=
  decide (l.sustainedCapW * (954 * 1024) * wattPj ≤ total f.buckets)

/-! ## Energy counters -/

/-- Attributed energy of 1 µJ: it is kept in units of 1/4096 pJ, so that a token's price loses nothing (R390). -/
def microjoule : Nat := 4096000000

/-- A µJ counter with its remainder, after some energy more (R390). -/
def addEnergy (uj rem e : Nat) : Nat × Nat := (uj + (rem + e) / microjoule, (rem + e) % microjoule)

/-- Energy attributed to a partition (R390). -/
def Part.charge (x : Part) (e : Nat) : Part :=
  { x with energyUj := (addEnergy x.energyUj x.energyRem e).1, energyRem := (addEnergy x.energyUj x.energyRem e).2 }

/-- Purl energy attributed to a partition and its running purl phase (R385, R390). -/
def Part.chargePurl (x : Part) (e : Nat) : Part :=
  let purl := x.purl.map fun u => { u with energy := u.energy + e }
  { x.charge e with
    purlUj := (addEnergy x.purlUj x.purlRem e).1
    purlRem := (addEnergy x.purlUj x.purlRem e).2
    purl := purl }

/-- Energy attributed to a queue and its context (R390). -/
def State.chargeQueue (s : State) (q slot e : Nat) : State :=
  let s := s.modQueue q fun x =>
    { x with energyUj := (addEnergy x.energyUj x.energyRem e).1, energyRem := (addEnergy x.energyUj x.energyRem e).2 }
  s.modCtx slot fun c =>
    { c with energyUj := (addEnergy c.energyUj c.energyRem e).1, energyRem := (addEnergy c.energyUj c.energyRem e).2 }

/-- A Nib reports the token energy of a task it holds (R390): the task's queue, context and partition receive it at once
(log 137). -/
def State.reportEnergy (s : State) (n tag : Nat) (epoch : W32) : State :=
  match (s.nibs[n]?).bind fun b => b.tasks.find? fun k => k.msg.tag == tag && k.msg.epoch == epoch with
  | none => s
  | some k =>
    let s := s.modNib n fun b =>
      { b with tasks := b.tasks.map fun j => if j.msg.tag = tag ∧ j.msg.epoch = epoch then { j with energy := 0 } else j }
    let s := s.modPart k.msg.partition fun x => x.charge k.energy
    match tget s.tasks tag with
    | some t => s.chargeQueue t.queue t.slot k.energy
    | none => s

/-- Every Nib reports the token energy of every task it holds (R390). -/
def State.reportEnergies (s : State) : State :=
  s.nibs.zipIdx.foldl (fun s b => b.1.tasks.foldl (fun s k => s.reportEnergy b.2 k.msg.tag k.msg.epoch) s) s

/-- The price of a token of a Nib in 1/4096 pJ: BUSY × ENERGY[ACTIVITY][level] × CORR (R390). -/
def State.tokenEnergy (s : State) (nib busy activity : Nat) : Nat :=
  let level := match s.nibs[nib]? with | some b => b.level | none => 0
  let corr := match s.feed.rails[s.railOf nib]? with | some r => r.corr | none => 4096
  busy * energyOf s.live.energy activity level * corr

/-! ## Rails -/

/-- The present Nibs of a rail group (R362). -/
def State.groupNibs (s : State) (g : Nat) : List Nat :=
  (List.range s.nibs.length).filter fun n =>
    (match s.nibs[n]? with | some b => b.present | none => false) && s.railOf n == g

/-- The partition that holds a Nib. -/
def State.partOfNib (s : State) (n : Nat) : Option Nat :=
  (s.parts.find? fun e => e.2.nibs.contains n).map Prod.fst

/-- The rail groups in which a partition has a present Nib (R365). -/
def State.partGroups (s : State) (x : Part) : List Nat :=
  sortNats ((x.nibs.filter fun n => match s.nibs[n]? with | some b => b.present | none => false).map s.railOf)

/-- The level a rail group ought to stand at (R365). -/
def State.railWanted (s : State) (l : FeedLimits) (g : Nat) (r : Rail) : Nat :=
  let targets := s.parts.filterMap fun e => if (s.partGroups e.2).contains g then some e.2.target else none
  let base := if targets.isEmpty then l.bootLevel else targets.foldl min 15
  min (min l.maxLevel r.thermalCeil) (min r.flowCeil base)

/-- A step request of a group driven on the Power Step Port, with its POWER_STEP record (R364, R517). -/
def State.requestStep (s : State) (g level trim : Nat) : State :=
  match s.feed.rails[g]? with
  | none => s
  | some r =>
    (s.record unitFeed 0x0B (g + 16 * r.level + 256 * level)).modRail g fun r =>
      { r with request := some (level, trim, s.now) }

/-- Whether an engine still owes a token (R394). -/
def State.tokensOut (s : State) : Bool := s.nibs.any fun b => b.cores.any fun c => c.any fun e => e.out.any fun o => !o.returned

/-- Feed's next step of a group, if one is due and none is unacknowledged (R364, R365, R393). The halt requests level 0 of every
group once its tokens have returned (R394); before the first seal, only a trim is requested. -/
def State.stepRail (s : State) (g : Nat) : State :=
  match s.feed.rails[g]? with
  | none => s
  | some r =>
    if r.request.isSome || !s.primary then s
    else if s.feed.halt then
      (if r.zeroed ∨ s.tokensOut then s else (s.requestStep g 0 r.trimWanted).modRail g fun r => { r with zeroed := true })
    else
      let want := match s.live.limits with | some l => s.railWanted l g r | none => r.level
      if r.level < want then s.requestStep g (r.level + 1) r.trimWanted
      else if want < r.level then s.requestStep g (r.level - 1) r.trimWanted
      else if r.trim ≠ r.trimWanted then s.requestStep g r.level r.trimWanted
      else s

/-- Every group's next step. -/
def State.stepRails (s : State) : State := (List.range 16).foldl State.stepRail s

/-- A FEED record of the Blotter (R467): FEED_STATUS bit, rail group, value. -/
def State.blotFeed (s : State) (code : W16) (bitNo g value : Nat) : State :=
  s.blot code 0x07 unitFeed (bitNo - 8 + 16 * g + 256 * (value % 2 ^ 32))

/-! ## Estimates at the close of an interval -/

/-- A Nib's share of its group's idle energy in an interval (R367). -/
def State.idleShare (s : State) (n : Nat) : Nat :=
  let g := s.railOf n
  match s.feed.rails[g]? with
  | some r => idleOf s.live.energy g r.level * 10240 / max 1 (s.groupNibs g).length
  | none => 0

/-- Raw energy of a Nib in the interval that closes: its active cycles, as they were counted and priced, and its share of the idle
power (R366, R367). -/
def State.rawOf (s : State) (n : Nat) : Nat :=
  (match s.nibs[n]? with | some b => b.meter | none => 0) + s.idleShare n

/-- The same without purl, which fills the gap that the rest leaves under the floor (R385). -/
def State.bareOf (s : State) (n : Nat) : Nat :=
  (match s.nibs[n]? with | some b => b.meter - b.purlMeter | none => 0) + s.idleShare n

/-- A rail group's raw energy corrected, with the guard band while COUNT_g is below 8 (R370). -/
def Rail.corrected (r : Rail) (raw : Nat) (guardBand : Bool) : Nat :=
  let v := raw * r.corr / 4096
  if guardBand && decide (r.corrCount < 8) then v * 11 / 10 else v

/-- The corrected energy of some Nibs of one group, from the raw energy of each. -/
def State.groupEnergy (s : State) (raw : Nat → Nat) (nibs : List Nat) (g : Nat) : Nat :=
  match s.feed.rails[g]? with
  | some r => r.corrected (total ((nibs.filter fun n => s.railOf n == g).map raw)) true
  | none => 0

/-- The present Nibs. -/
def State.presentNibs (s : State) : List Nat :=
  (List.range s.nibs.length).filter fun n => match s.nibs[n]? with | some b => b.present | none => false

/-- The metered estimate: the sum of the 16 rail groups (R367). -/
def State.metered (s : State) : Nat :=
  total ((List.range 16).map (s.groupEnergy s.rawOf s.presentNibs))

/-- The estimate of a partition (R367), from the raw energy of each Nib. -/
def State.partEnergy (s : State) (raw : Nat → Nat) (x : Part) : Nat :=
  let nibs := x.nibs.filter fun n => match s.nibs[n]? with | some b => b.present | none => false
  total ((List.range 16).map (s.groupEnergy raw nibs))

/-- A bucket of 1,024 intervals after one more (R371): the intervals being collected and the completed sums. -/
def pushBucket (acc done_ : List Nat) (v : Nat) : List Nat × List Nat :=
  if acc.length + 1 < 1024 then (acc ++ [v], done_) else ([], ((total acc + v) :: done_).take 954)

/-- A partition's windows after an interval (R371); `bare` is its estimate without purl. -/
def Part.push (x : Part) (l : FeedLimits) (est bare : Nat) : Part :=
  let b := pushBucket x.bucketAcc x.buckets est
  { x with estimate := est, bare := bare, intervals := (est :: x.intervals).take l.window, bucketAcc := b.1, buckets := b.2 }

/-- The package windows after an interval (R371). -/
def Feed.push (f : Feed) (l : FeedLimits) (est : Nat) : Feed :=
  let b := pushBucket f.bucket f.buckets est
  { f with window := (est :: f.window).take l.window, bucket := b.1, buckets := b.2 }

/-- Whether STEP_MIN_US has passed since the last cap step of each of a partition's groups (R364, R372). -/
def State.mayCapStep (s : State) (l : FeedLimits) (x : Part) : Bool :=
  (s.partGroups x).all fun g => match s.feed.rails[g]? with
    | some r => (match r.lastStep with | some t => decide (t + 1000 * l.stepMinUs ≤ s.now) | none => true)
    | none => true

/-- Whether a hint holds a partition's level at a time (R383). -/
def Hint.holds (h : Hint) (now : Nat) : Bool := h.ramping && decide (now < h.t0 + 1000 * (h.leadUs + h.durUs))

/-- The rail groups of a partition remember a cap step (R364, R372). -/
def State.noteStep (s : State) (x : Part) : State :=
  (s.partGroups x).foldl (fun s g => s.modRail g fun r => { r with lastStep := some s.now }) s

/-- The target level of a partition after an interval (R372, R383); steps that a reclaim needs do not wait (R364, R382). -/
def State.nextTarget (s : State) (l : FeedLimits) (x : Part) : Nat :=
  let host := s.feed.hostLimit.toNat
  let may := s.mayCapStep l x
  let a := x.atLimits l host 15 16
  if x.over l host then (if may || x.reclaimed then x.target - 1 else x.target)
  else if !a.1 && !a.2.1 && !a.2.2 && may then min (x.target + 1) l.maxLevel
  else match x.hint with
    | some h => if h.holds s.now && decide (x.target < h.level) && may then x.target + 1 else x.target
    | none => x.target

/-- A partition's target level is updated; its groups remember the cap step (R372). -/
def State.updateTarget (s : State) (l : FeedLimits) (p : Nat) : State :=
  match tget s.parts p with
  | none => s
  | some x =>
    let t := s.nextTarget l x
    let expired : Bool := match x.hint with | some h => decide (h.t0 + 1000 * (h.leadUs + h.durUs) ≤ s.now) | none => false
    let s := if t = x.target ∨ x.reclaimed then s else s.noteStep x
    s.modPart p fun x => { x with
      target := t
      hint := if expired then none else x.hint
      reclaimed := x.reclaimed && x.over l s.feed.hostLimit.toNat }

/-! ## Shares -/

/-- What a partition retains while it lends (R381). -/
def Part.retained (x : Part) (l : FeedLimits) : Nat :=
  let w := (l.peakCapW - l.baseW) * wattPj
  max ((x.estimate * 256 + w - 1) / max 1 w) l.lendRetain

/-- Whether a partition is WAITING (R381). -/
def Part.waiting (x : Part) (now : Nat) : Bool :=
  match x.waitingSince with | some t => decide (t + 50000 ≤ now) | none => false

/-- The pool is divided among the partitions over a Peak or Sustained limit, in proportion to p_q (R380). -/
def State.sharePool (s : State) : State :=
  match s.live.limits with
  | none => s
  | some l =>
    let fixed := total (s.parts.map fun e => e.2.power)
    let pool := (256 - fixed) + total (s.parts.map fun e => e.2.lent)
    let exceeds (x : Part) : Bool := (x.atLimits l 0 1 1).1 || (x.atLimits l 0 1 1).2.1
    let sum := total ((s.parts.filter fun e => exceeds e.2).map fun e => e.2.power)
    { s with parts := tmap s.parts fun _ x =>
        { x with borrowed := if exceeds x then pool * x.power / max 1 sum else 0 } }

/-- The shares are divided anew after a reclaim: a borrower whose share shrinks steps down without waiting (R364, R382). -/
def State.shrinkShares (s : State) : State :=
  let t := s.sharePool
  { t with parts := tmap t.parts fun p (x : Part) =>
      let before := match tget s.parts p with | some y => y.borrowed | none => 0
      { x with reclaimed := x.reclaimed || decide (x.borrowed < before) } }

/-- A lender takes its fraction back and the borrowers' shares shrink (R382); 50 µs begin anew (log 138). -/
def State.reclaim (s : State) (p : Nat) : State :=
  match tget s.parts p with
  | none => s
  | some x =>
    let s := s.modPart p fun x => { x with waitingSince := x.waitingSince.map fun _ => s.now, lent := 0 }
    if x.lent = 0 then s else s.shrinkShares

/-- Whether a Nib has a macro-op other than purl outstanding (R381). -/
def Nib.mopsOut (b : Nib) : Bool := b.cores.any fun c => c.any fun e => e.live.any fun o => !o.packet.purl

/-- Since when no Nib of a partition has issued a macro-op other than purl or had one outstanding (R381). -/
def State.idleFrom (s : State) (x : Part) : Option Nat :=
  let nibs := x.nibs.filterMap fun n => s.nibs[n]?
  if nibs.any Nib.mopsOut then none else some (nibs.foldl (fun t b => max t b.lastBusy) 0)

/-- Lending at an interval (R381), as the partition's Nibs have been idle. -/
def Part.lend (x : Part) (l : FeedLimits) (lendEn : Bool) (idleFrom : Option Nat) (now : Nat) : Part :=
  let since := idleFrom.map fun t => max t (x.waitingSince.getD 0)
  let x := { x with waitingSince := since }
  { x with lent := if x.waiting now && lendEn then x.power - x.retained l else 0 }

/-! ## Hints -/

/-- Power at a level for a hinted load, in µW times 256 (R383). -/
def State.hintPower (s : State) (x : Part) (l : FeedLimits) (load cls level : Nat) : Nat :=
  let nibs := x.nibs.filter fun n => match s.nibs[n]? with | some b => b.present | none => false
  load * total (nibs.map fun n =>
    let cores := match s.nibs[n]? with | some b => b.ports.length | none => 0
    let g := s.railOf n
    cores * energyOf s.live.energy cls level * l.nclkMhz.getD level 0
      + idleOf s.live.energy g level * 10000 / max 1 (s.groupNibs g).length)

/-- The hinted level H (R383): the highest within the ceilings whose power fits the Peak budget; 0 where none does. -/
def State.hintLevel (s : State) (x : Part) (l : FeedLimits) (load cls : Nat) : Nat :=
  let top := (s.partGroups x).foldl (fun m g => match s.feed.rails[g]? with
    | some r => min m (min r.thermalCeil r.flowCeil) | none => m) l.maxLevel
  let fits (lv : Nat) : Bool :=
    decide (s.hintPower x l load cls lv ≤ (l.peakCapW - l.baseW) * x.share * 1000000)
  ((List.range (top + 1)).reverse.find? fits).getD 0

/-- Feed takes a phase hint (R224, R383); FEED_CTRL.HINT_EN at 0 ignores it. -/
def State.takeHint (s : State) (p leadUs load durUs cls : Nat) : State :=
  match s.live.limits, tget s.parts p with
  | some l, some x =>
    if s.feed.ctrl.getLsbD 2 then
      let h : Hint := { t0 := s.now, leadUs := leadUs, load := load, durUs := durUs, cls := cls,
                        level := s.hintLevel x l load cls, ramping := false }
      s.modPart p fun x => { x with hint := some h }
    else s
  | _, _ => s

/-- HINT_RAMP_START (R383): at t0 + LEAD_US − (H − T) × STEP_MIN_US Feed begins to raise T. -/
def execHintRampStart (partition : Nat) (s : State) : Host.Outcome State Fault Refusal :=
  match s.live.limits, (tget s.parts partition).bind fun x => x.hint.map fun h => (x, h) with
  | some l, some (x, h) =>
    if !h.ramping && decide (h.t0 + 1000 * h.leadUs ≤ s.now + 1000 * ((h.level - x.target) * l.stepMinUs)) then
      let exceeds := x.over l s.feed.hostLimit.toNat
      let t := if x.target < h.level && !exceeds && s.mayCapStep l x then x.target + 1 else x.target
      let s' := if t = x.target then s else s.noteStep x
      let s' := s'.modPart partition fun x => { x with target := t, hint := some { h with ramping := true } }
      done s s'.stepRails
    else skip s
  | _, _ => skip s

/-! ## Purl -/

/-- The Peak budget of a share in pJ an interval (R371). -/
def peakBudgetPj (l : FeedLimits) (share : Nat) : Nat := (l.peakCapW - l.baseW) * share * wattPj / 256

/-- A purl phase after an interval (R385). -/
def Purl.next (u : Purl) (l : FeedLimits) (budget : Nat) : Purl :=
  let slope := l.downSlopeW * 1048576
  let warm := u.p0 * l.fillPrewarm / 256
  let spent : Bool := decide (l.fillBudgetUj * microjoule ≤ u.energy)
  match u.phase with
  | .descending =>
    if spent then { u with phase := .draining, floor := min budget (u.floor - slope) }
    else
      let f := max (u.floor - slope) warm
      { u with floor := min budget f, phase := if f ≤ warm then .holding else .descending }
  | .holding => if spent then { u with phase := .draining, floor := min budget (u.floor - slope) }
    else { u with floor := min budget warm }
  | .draining => { u with floor := min budget (u.floor - slope) }

/-- The purl level of a Nib for a gap (R385). -/
def State.purlLevelOf (s : State) (n gap : Nat) : Nat :=
  match s.nibs[n]? with
  | some b => if gap = 0 ∨ ¬b.hasFiller then 0 else min 16 (Config.purlLevel gap n)
  | none => 0

/-- A partition's purl phase at an interval: its floor, and the purl level of each of its Nibs (R385). -/
def State.shapePurl (s : State) (l : FeedLimits) (p : Nat) : State :=
  match tget s.parts p with
  | some x =>
    match x.purl with
    | some u =>
      let u' := u.next l (peakBudgetPj l x.share)
      let gap := if s.feed.halt then 0 else u'.floor - x.bare
      let s := s.modPart p fun x => { x with purl := some u' }
      x.nibs.foldl (fun s n => s.modNib n fun b => { b with purl := s.purlLevelOf n gap }) s
    | none => s
  | none => s

/-- A purl phase starts, or an instance joins it (R384). -/
def State.startPurl (s : State) (p barrier : Nat) : State :=
  match s.live.limits with
  | none => s
  | some l =>
    if s.feed.ctrl.getLsbD 1 && decide (0 < l.fillBudgetUj) then
      s.modPart p fun x =>
        let u : Purl := match x.purl with
          | some u => { u with barriers := sortNats (barrier :: u.barriers) }
          | none =>
            { phase := .descending, p0 := x.estimate, floor := min x.estimate (peakBudgetPj l x.share), energy := 0, barriers := [barrier] }
        { x with purl := some u }
    else s

/-- An instance releases: the phase ends with the last that started or joined it (R385). -/
def State.endPurl (s : State) (p barrier : Nat) : State :=
  s.modPart p fun x =>
    let purl := match x.purl with
      | some u => if u.barriers.all (· == barrier) then none
                  else some { u with barriers := u.barriers.filter (· != barrier) }
      | none => none
    { x with purl := purl }

/-! ## The package cap -/

/-- CAP_EXCEEDED (R373): the package peak average over PEAK_CAP_W for a whole window with every group of a partitioned
Nib at level 0. -/
def State.checkCap (s : State) (l : FeedLimits) : State :=
  let exceeds : Bool := decide (l.peakCapW * l.window * wattPj < s.feed.peakSum l)
  let below : Bool := decide (s.feed.peakSum l < l.peakCapW * l.window * wattPj)
  let groups := sortNats (s.parts.foldl (fun g e => g ++ s.partGroups e.2) [])
  let atZero := groups.all fun g => match s.feed.rails[g]? with | some r => r.level == 0 | none => true
  let run := if exceeds && atZero then s.feed.overRun + 1 else 0
  let armed := s.feed.overArmed || below
  let fire := armed && decide (l.window ≤ run)
  let s := { s with feed := { s.feed with
    overRun := run
    overArmed := armed && !fire
    capExceeded := s.feed.capExceeded || fire } }
  if fire then s.blotFeed 0 9 0 0 else s

/-- Energy of an interval to the partitions: their Nibs' idle shares, with no guard band (R390). -/
def State.chargeIdle (s : State) : State :=
  { s with parts := tmap s.parts fun _ x =>
      let nibs := x.nibs.filter fun n => match s.nibs[n]? with | some b => b.present | none => false
      x.charge (total (nibs.map fun n => match s.feed.rails[s.railOf n]? with
        | some r => s.idleShare n * r.corr | none => 0)) }

/-- The Nibs begin to count the cycles of the next interval. -/
def State.clearMeters (s : State) : State := { s with nibs := s.nibs.map fun b => { b with meter := 0, purlMeter := 0 } }

/-- The close of an interval (R366 to R373, R380, R381, R383, R385), the re-evaluation of withheld launches apart. `report` says
that the Nibs report the token energy of their tasks (R390). -/
def State.closeInterval (s : State) (report : Bool) : State :=
  match s.live.limits with
  | none => s.stepRails
  | some l =>
    let s := if report then s.reportEnergies else s
    let metered := s.metered
    let lendEn := s.feed.ctrl.getLsbD 0
    let rails := s.feed.rails.zipIdx.map fun r =>
      { r.1 with rawWindow := r.1.rawWindow + total ((s.groupNibs r.2).map s.rawOf) }
    let parts := tmap s.parts fun _ x => x.push l (s.partEnergy s.rawOf x) (s.partEnergy s.bareOf x)
    let feed := { s.feed.push l (metered + l.baseW * wattPj) with rails := rails }
    let s := State.clearMeters (State.chargeIdle { s with parts := parts, feed := feed })
    let ids := s.parts.map Prod.fst
    let s := ids.foldl (fun s p => s.updateTarget l p) s
    let s := { s with parts := tmap s.parts fun _ x => x.lend l lendEn (s.idleFrom x) s.now }
    let s := s.sharePool
    let s := ids.foldl (fun s p => s.shapePurl l p) s
    (s.checkCap l).stepRails

/-! ## Launch allowance -/

/-- The throttle reasons by bit (R388). -/
def reasonPeak : Nat := 0
/-- Sustained cap. -/
def reasonSustained : Nat := 1
/-- Ramp. -/
def reasonRamp : Nat := 2
/-- Coolant. -/
def reasonCoolant : Nat := 4
/-- Partition share. -/
def reasonShare : Nat := 5
/-- Host limit. -/
def reasonHost : Nat := 6

/-- Whether a group's ramp budget covers a launch's part (R376); an oversize part needs the start of an untouched
window. -/
def Rail.covers (r : Rail) (budget part : Nat) (atStart : Bool) : Bool :=
  if part ≤ budget then decide (r.charge + part ≤ budget) else atStart && r.charge == 0

/-- A group charged with a launch's part (R376). -/
def Rail.charged (r : Rail) (budget part : Nat) : Rail :=
  if part ≤ budget then { r with charge := r.charge + part }
  else { r with charge := budget, debt := (part + budget - 1) / budget - 1 }

/-- Feed's decision on a launch of a partition with its Nibs and its part of each rail group (R374): the reason that
withholds it, or none where it is granted. -/
def State.allowance (s : State) (p : Nat) (nibs : List Nat) (parts : List (Nat × Nat)) (atStart : Bool) : Option Nat :=
  match s.live.limits, tget s.parts p with
  | some l, some x =>
    let a := x.atLimits l s.feed.hostLimit.toNat 1 1
    let asleep := nibs.any fun n => (match s.nibs[n]? with | some b => b.power == .off | none => false)
      || s.feed.wakes.any fun w => w.nib == n
    if s.feed.halt then some reasonCoolant
    else if asleep then some reasonRamp
    else if a.2.2 then some reasonHost
    else if a.1 then some (if s.feed.atPeak l then reasonPeak else reasonShare)
    else if a.2.1 then some (if s.feed.atSustained l then reasonSustained else reasonShare)
    else if parts.all fun g => match s.feed.rails[g.1]? with | some r => r.covers l.rampBudget g.2 atStart | none => true
    then none
    else some reasonRamp
  | _, _ => some reasonRamp

/-- A granted launch is charged (R376). -/
def State.chargeRamp (s : State) (parts : List (Nat × Nat)) : State :=
  match s.live.limits with
  | none => s
  | some l => parts.foldl (fun s g => s.modRail g.1 fun r => r.charged l.rampBudget g.2) s

/-- A wake request of a Nib (R377): one entry a Nib, in order of entry; a Nib not in use stays OFF (R462). -/
def State.askWake (s : State) (n : Nat) (p : Option Nat) : State :=
  match s.nibs[n]? with
  | some b =>
    if b.power = .off ∧ ¬b.waking ∧ s.live.useNibs.contains n ∧ ¬s.feed.wakes.any (fun w => w.nib == n) then
      { s with feed := { s.feed with wakes := s.feed.wakes ++ [⟨n, p⟩] } }
    else s
  | none => s

/-! ## Time marks -/

/-- Whether a new whole multiple of a period has passed since its step was last served. -/
def State.due (s : State) (i period : Nat) : Bool := decide (s.feed.served.getD i 0 < s.now / period)

/-- The step of a period is served. -/
def State.serve (s : State) (i period : Nat) : State :=
  { s with feed := { s.feed with served := lmod s.feed.served i fun _ => s.now / period } }

/-! ## Commands -/

/-- A correction of a rail group (R369, R370): what the clamp was given, and the group after it. -/
def Rail.calibrate (r : Rail) : Rail × Option Nat :=
  let m := r.powerSum * 100000
  let raw := r.rawWindow
  let fresh := { r with rawWindow := 0, powerSum := 0, powerCount := 0 }
  if r.powerCount = 100 ∧ 0 < raw then
    let ratio := (4096 * m * 2 + raw) / (2 * raw)
    let binds : Bool := decide (ratio < 3605) || decide (4587 < ratio)
    let run := if binds then r.clampRun + 1 else 0
    ({ fresh with corr := min (max ratio 3605) 4587, corrCount := min 255 (r.corrCount + 1),
                  clampRun := if run = 8 then 0 else run },
     if run = 8 then some ratio else none)
  else (fresh, none)

/-- CALIBRATION_TICK (R369, R370). -/
def execCalibrationTick (s : State) : Host.Outcome State Fault Refusal :=
  if s.due 2 10000000 then
    let s' := s.serve 2 10000000
    done s ((List.range 16).foldl (fun s g =>
      match s.feed.rails[g]? with
      | none => s
      | some r =>
        let c := r.calibrate
        let s := s.modRail g fun _ => c.1
        match c.2 with
        | some ratio => State.blotFeed { s with feed := { s.feed with calClamped := true } } 0 11 g ratio
        | none => s) s')
  else skip s

/-- SENSE_SAMPLE (R518). -/
def execSenseSample (kind group : Nat) (value : W32) (s : State) : Host.Outcome State Fault Refusal :=
  let v := value.toNat
  let low (x : Nat) : Bool := match s.live.limits with | some l => decide (x < l.marginLow) | none => false
  match kind with
  | 0 => done s (s.modRail group fun r =>
      if r.powerMw.isSome then r
      else { r with powerMw := some v, powerSum := r.powerSum + v, powerCount := r.powerCount + 1 })
  | 1 => done s (s.modRail group fun r => { r with temp := some (signed 16 v), lastTemp := signed 16 v })
  | 2 => done s (s.modRail group fun r => { r with marginLow := r.marginLow || low (v % 65536) })
  | 3 => done s (s.modRail group fun r => { r with drooped := r.drooped || decide (0 < v) })
  | 4 => done s { s with feed := { s.feed with flow := some v } }
  | _ => skip s

/-- A rail group's ceilings after a sense period (R391, R392), and whether its samples have just been missing for 1 ms. -/
def Rail.sensed (r : Rail) (l : FeedLimits) (flow : Option Nat) : Rail × Bool :=
  let missing := if r.temp.isSome then 0 else r.tempMissing + 1
  let hot : Bool := match r.temp with | some t => decide (l.thermalLimit ≤ t) | none => decide (10 ≤ missing)
  let cool : Bool := match r.temp with | some t => decide (t < l.thermalLimit - l.thermalHyst) | none => false
  let ceil := if hot then r.thermalCeil - 1 else if cool then min 15 (r.thermalCeil + 1) else r.thermalCeil
  let low : Bool := match flow with | some f => decide (f < l.flowMin) | none => false
  ({ r with temp := none, powerMw := none, tempMissing := missing, thermalCeil := ceil,
            flowCeil := if low then l.flowCapLevel else 15 }, missing == 10)

/-- SENSE_TICK (R391, R392): ceilings follow the samples of the period; Feed knows its limits once they are sealed. -/
def execSenseTick (s : State) : Host.Outcome State Fault Refusal :=
  if s.due 3 100000 then
    let s' := s.serve 3 100000
    match s.live.limits with
    | none => done s s'
    | some l =>
      done s (State.stepRails ((List.range 16).foldl (fun s g =>
        match s.feed.rails[g]? with
        | none => s
        | some r =>
          let c := r.sensed l s.feed.flow
          let s := s.modRail g fun _ => c.1
          if c.2 then State.blotFeed { s with feed := { s.feed with senseMissed := true } } 0 12 g 0 else s) s'))
  else skip s

/-- TRIM_CHECK (R393): once per 100 ms. -/
def execTrimCheck (s : State) : Host.Outcome State Fault Refusal :=
  if s.due 4 100000000 then
    let s' := s.serve 4 100000000
    done s (State.stepRails ((List.range 16).foldl (fun s g =>
      match s.feed.rails[g]? with
      | none => s
      | some r =>
        let hit := r.marginLow || r.drooped
        let s := s.modRail g fun r => { r with marginLow := false, drooped := false }
        if hit && s.feed.ctrl.getLsbD 3 then
          if r.trimWanted < 12 then s.modRail g fun r => { r with trimWanted := r.trimWanted + 1 }
          else State.blotFeed { s with feed := { s.feed with trimExhausted := true } } 0 10 g 0
        else s) s'))
  else skip s

/-- POWER_STEP_ACK (R517): the values in effect; Feed may send its next step. A Hub that is not primary learns from it what the
port reports (R395). -/
def execPowerStepAck (group level trim : Nat) (s : State) : Host.Outcome State Fault Refusal :=
  match s.feed.rails[group]? with
  | some r =>
    if r.request.isSome then
      done s ((s.modRail group fun r => { r with level := level, trim := trim, request := none }).stepRail group)
    else if s.primary then skip s
    else done s (s.modRail group fun r => { r with level := level, trim := trim })
  | none => skip s

/-- POWER_STEP_RETRY (R517): the same request again after 100 µs. -/
def execPowerStepRetry (group : Nat) (s : State) : Host.Outcome State Fault Refusal :=
  match s.feed.rails[group]? with
  | some r =>
    match r.request with
    | some (level, trim, t) => if t + 100000 ≤ s.now then done s (s.requestStep group level trim) else skip s
    | none => skip s
  | none => skip s

/-- NCLK_CHANGE (R42, R516): the Nib runs at a new level and reloads its interpolation increment. -/
def execNclkChange (nib level : Nat) (s : State) : Host.Outcome State Fault Refusal :=
  match s.nibs[nib]?, s.live.limits with
  | some _, some l => done s (s.modNib nib fun b => { b with level := level, increment := l.nclkMhz.getD level 0 })
  | _, _ => skip s

/-- WAKE_RELEASE (R378): the next entry of a rail group, STAGGER_NS after the one before. -/
def execWakeRelease (group : Nat) (s : State) : Host.Outcome State Fault Refusal :=
  match s.live.limits, s.feed.rails[group]?, takeFirst (fun w => s.railOf w.nib == group) s.feed.wakes with
  | some l, some r, some (w, rest) =>
    if (match r.lastRelease with | some t => decide (t + l.staggerNs ≤ s.now) | none => true) then
      let s' := { s with feed := { s.feed with wakes := rest } }
      let s' := s'.modRail group fun r => { r with lastRelease := some s.now }
      done s (s'.modNib w.nib fun b => { b with waking := true })
    else skip s
  | _, _, _ => skip s

/-- Whether a Nib's next core may open: core 0 as it wakes, each further one EQ_OPEN_NS after the one before (R378). -/
def State.mayOpen (s : State) (b : Nib) : Bool :=
  b.openCores == 0 || (match s.live.limits with | some l => decide (b.openedAt + l.eqOpenNs ≤ s.now) | none => true)

/-- EQ_OPEN (R378): the next core's engine queues open and offer their credits (R274). -/
def execEqOpen (nib : Nat) (s : State) : Host.Outcome State Fault Refusal :=
  match s.nibs[nib]? with
  | some b =>
    if b.present ∧ b.power ≠ .off ∧ b.openCores < b.ports.length ∧ s.mayOpen b then
      let opened := lmod b.cores b.openCores fun c => c.map fun e => { e with opened := true }
      done s (s.modNib nib fun b => { b with openCores := b.openCores + 1, openedAt := s.now, cores := opened })
    else skip s
  | none => skip s

/-- NIB_IDLE_TO_OFF (R462): after CFG_NIB_OFF_US in IDLE. The Nib keeps its configuration only. -/
def execNibIdleToOff (nib : Nat) (s : State) : Host.Outcome State Fault Refusal :=
  match s.nibs[nib]? with
  | some b =>
    if b.present ∧ b.power = .idle ∧ b.tasks = [] ∧ b.down = [] ∧ 0 < s.cfg.nibOffUs.toNat
        ∧ b.idleSince + 1000 * s.cfg.nibOffUs.toNat ≤ s.now then
      done s (s.modNib nib fun b =>
        { Nib.reset with
          link := b.link, via := b.via, die := b.die, ports := b.ports, firstReport := b.firstReport
          level := b.level, increment := b.increment, lastBusy := b.lastBusy, meter := b.meter, purlMeter := b.purlMeter
          up := b.up, traceBuf := b.traceBuf, traceLoss := b.traceLoss })
    else skip s
  | none => skip s

/-! ## What the FEED registers show -/

/-- FEED_EST_W, FEED_PEAK_AVG_W and FEED_SUS_AVG_W (R400). -/
def State.feedWatts (s : State) : Nat × Nat × Nat :=
  match s.live.limits with
  | none => (0, 0, 0)
  | some l => (s.feed.window.headD 0 / wattPj, s.feed.peakSum l / (l.window * wattPj),
               total s.feed.buckets / (954 * 1024 * wattPj))

/-- FEED_LEND_W (R400). -/
def State.lentWatts (s : State) : Nat :=
  match s.live.limits with
  | none => 0
  | some l => (l.peakCapW - l.baseW) * total (s.parts.map fun e => e.2.lent) / 256

/-- FEED_PART_STATE of a partition (R401). -/
def State.partState (s : State) (p : Nat) (x : Part) : Nat :=
  s.reasonsOf p x + 2 ^ 8 * b2n (x.waiting s.now) + 2 ^ 9 * b2n (x.lent != 0) + 2 ^ 10 * b2n (x.borrowed != 0)
    + 2 ^ 11 * b2n x.purl.isSome + 2 ^ 12 * x.target + 2 ^ 16 * x.share

/-- FEED_PART_BUDGET_W (R400). -/
def State.partBudget (s : State) (x : Part) : Nat :=
  match s.live.limits with
  | none => 0
  | some l => (l.peakCapW - l.baseW) * x.share / 256

/-- FEED_RAIL of a group (R401). -/
def State.railReg (s : State) (r : Rail) : Nat :=
  let mhz := match s.live.limits with | some l => l.nclkMhz.getD r.level 0 | none => 0
  r.level + 16 * r.thermalCeil + 256 * r.flowCeil + 2 ^ 12 * r.trim + 2 ^ 16 * mhz

end Sys2Proof.Machine
end

