-- ==== Sys2Proof/Machine/Operands.lean ====
section
/-! DEFINITION. The operand forms of the command buffer (07): lengths, fields and parse checks of every command of R198. A
check is an offset in the command, whether it passes, and its code. -/

namespace Sys2Proof.Machine

open Sys2Proof

/-- A check of R197: offset of its field, whether it passes, its code. -/
abbrev Check := Nat × Bool × W16

/-- The first check of a list that fails. -/
def firstFail (l : List Check) : Option (Nat × W16) := (l.find? fun c => !c.2.1).map fun c => (c.1, c.2.2)

/-- The failing check with the lowest offset (check 6 of R197). -/
def lowestFail (l : List Check) : Option (Nat × W16) :=
  (l.filter fun c => !c.2.1).foldl (fun b c => match b with
    | some p => if c.1 < p.1 then some (c.1, c.2.2) else some p
    | none => some (c.1, c.2.2)) none

/-- Reserved bytes of a field, one check each (R11). -/
def reservedAt (b : List Byte) (off n : Nat) : List Check :=
  (List.range n).map fun i => (off + i, (b.getD (off + i) 0) == 0, Code.reservedSet)

/-- FLAGS of a command (R195). -/
def flagsOf (b : List Byte) : Nat := bits (le b 0 4) 11 0

/-- The reserved bits of a header: [15:12] and the FLAGS bits from `n` on (R195). -/
def headerCheck (b : List Byte) (n : Nat) : List Check :=
  [(if flagsOf b % 256 / 2 ^ n = 0 then 1 else 0, bits (le b 0 4) 15 n == 0, Code.reservedSet)]

/-- A value in its range. -/
def within (off v lo hi : Nat) : Check := (off, decide (lo ≤ v) && decide (v ≤ hi), Code.badValue)

/-- An aligned address. -/
def aligned (off v a : Nat) : Check := (off, v % a == 0, Code.badAlignment)

/-! ## Lengths -/

/-- NPATCH of a launch (R206) or a replay (R216). -/
def launchPatches (opcode flags : Nat) : Nat := if opcode = 0x10 then bits flags 8 4 else bits flags 10 4

/-- LEN that an opcode requires in 16-byte units; 0 for NOP, whose LEN is free; none for an unlisted opcode (R198). -/
def opcodeLen (opcode flags : Nat) : Option Nat :=
  match opcode with
  | 0x00 => some 0
  | 0x01 => some 2
  | 0x10 => some (2 + (bits flags 2 0 + 1) / 2 + launchPatches 0x10 flags)
  | 0x11 => some (2 + (bits flags 2 0 + 1) / 2 + launchPatches 0x11 flags)
  | 0x12 => some (1 + bits flags 4 0)
  | 0x13 => some 2
  | 0x20 => some 1
  | 0x21 => some (1 + (bits flags 2 0 + 1) / 2)
  | 0x22 => some 2
  | 0x23 => some 3
  | 0x24 => some 1
  | 0x30 => some 2
  | 0x40 => some 1
  | 0x50 => some 1
  | 0x80 => some 1
  | 0x81 => some 1
  | 0x82 => some 1
  | 0x83 => some 1
  | 0x84 => some 1
  | _ => none

/-! ## Wait and patch entries -/

/-- A wait entry (R207). -/
def waitEntry (b : List Byte) (off : Nat) : CmdWait :=
  { handle := le32 b off, event := le b (off + 4) 2, accept := bit (le b (off + 6) 2) 0, state := .unregistered }

/-- The wait entries of a command. -/
def waitEntries (b : List Byte) (off n : Nat) : List CmdWait := (List.range n).map fun i => waitEntry b (off + 8 * i)

/-- Reserved bits of wait entries and the padding after an odd number (R206, R207). -/
def waitChecks (b : List Byte) (off n : Nat) : List Check :=
  (List.range n).map (fun i => (off + 8 * i + 6, decide (le b (off + 8 * i + 6) 2 < 2), Code.reservedSet)) ++
  (if n % 2 = 1 then reservedAt b (off + 8 * n) 8 else [])

/-- A patch entry (R208). -/
def patchEntry (b : List Byte) (off : Nat) : Patch :=
  { reg := le b off 1 % 16, member := le b (off + 1) 1 % 32, value := le64 b (off + 8) }

/-- The patch entries of a command. -/
def patchEntries (b : List Byte) (off n : Nat) : List Patch := (List.range n).map fun i => patchEntry b (off + 16 * i)

/-- The fields of patch entries (R208); MEMBER must be 0 but in a replay. -/
def patchChecks (b : List Byte) (off n : Nat) (replay : Bool) : List Check :=
  (List.range n).flatMap fun i =>
    let o := off + 16 * i
    [ (o, decide (le b o 1 < 16), Code.reservedSet)
    , (o + 1, replay || le b (o + 1) 1 % 32 == 0, Code.badValue)
    , (o + 1, decide (le b (o + 1) 1 < 32), Code.reservedSet) ] ++ reservedAt b (o + 2) 6

/-- Parameter registers overlaid with the patches of one member, the later entry of two applying (R208, R214). -/
def overlay (params : List W64) (patches : List Patch) (member : Nat) : List W64 :=
  patches.foldl (fun ps p => if p.member = member then ps.set p.reg p.value else ps) params

/-! ## Field checks (check 5 of R197) by opcode -/

/-- LAUNCH and LAUNCH_REPLAY (R206, R216). -/
def launchChecks (opcode : Nat) (b : List Byte) : List Check :=
  let f := flagsOf b
  let n := bits f 2 0
  [ within 0 n 0 4, within 0 (launchPatches opcode f) 0 (if opcode = 0x10 then 16 else 127) ] ++
  headerCheck b (if opcode = 0x10 then 9 else 11) ++
  [ within 0x12 (le b 0x12 2) 0 (if bit f 3 then 0xFFFF else 0) ] ++ reservedAt b 0x14 12 ++ waitChecks b 0x20 n ++
  patchChecks b (0x20 + 16 * ((n + 1) / 2)) (launchPatches opcode f) (opcode == 0x11)

/-- The constant-buffer fields of a launch (R209) or of SET_CONSTANTS (R213), checked as check 6: address and length. -/
def constChecks (b : List Byte) (addrOff lenOff : Nat) : List Check :=
  let a := le b addrOff 8
  let l := le b lenOff 2
  [ (addrOff, a % 64 == 0, Code.constBad)
  , (lenOff, l % 64 == 0 && decide (l ≤ 4096) && (if a = 0 then l == 0 else l != 0), Code.constBad) ]

/-- The constant reference of such fields. -/
def constRef (b : List Byte) (addrOff lenOff : Nat) : ConstRef :=
  if le b addrOff 8 = 0 then none else some (le64 b addrOff, le b lenOff 2)

/-- PATCH_PARAMS (R213). -/
def patchParamsChecks (b : List Byte) : List Check :=
  [ within 0 (bits (flagsOf b) 4 0) 1 16 ] ++ headerCheck b 5 ++ reservedAt b 4 12 ++
  patchChecks b 0x10 (bits (flagsOf b) 4 0) false

/-- SET_CONSTANTS (R213). -/
def setConstantsChecks (b : List Byte) : List Check := headerCheck b 0 ++ reservedAt b 4 4 ++ reservedAt b 0x12 14

/-- CHAIN (R228). -/
def chainChecks (b : List Byte) : List Check :=
  headerCheck b 0 ++ reservedAt b 4 4 ++
  [ aligned 8 (le b 8 8) 16, (0x10, le b 0x10 4 % 16 == 0 && le b 0x10 4 != 0 && decide (le b 0x10 4 ≤ 16777216), Code.badValue) ]
  ++ reservedAt b 0x14 12

/-- EVENT_RECORD (R217). -/
def eventRecordChecks (b : List Byte) : List Check := headerCheck b 0 ++ reservedAt b 6 10

/-- EVENT_WAIT (R218). -/
def eventWaitChecks (b : List Byte) : List Check :=
  [ within 0 (bits (flagsOf b) 2 0) 1 4 ] ++ headerCheck b 3 ++ reservedAt b 4 12 ++ waitChecks b 0x10 (bits (flagsOf b) 2 0)

/-- OP, SPACE, INDEX and ADDRESS of SYNC_OP and SYNC_WAIT (R220, R221). -/
def syncFields (b : List Byte) (lo hi : Nat) : List Check :=
  let f := flagsOf b
  let mem := bit f 3
  [ within 0 (bits f 2 0) lo hi ] ++ headerCheck b 4 ++
  (if mem then [ within 4 (le b 4 4) 0 0, aligned 8 (le b 8 8) 8 ]
   else [ (if le b 5 1 < 128 then 6 else 5, decide (le b 4 4 < 32768), Code.reservedSet), within 8 (le b 8 8) 0 0 ])

/-- SYNC_OP (R220). -/
def syncOpChecks (b : List Byte) : List Check := syncFields b 0 1 ++ reservedAt b 0x18 8

/-- SYNC_WAIT (R221). -/
def syncWaitChecks (b : List Byte) : List Check :=
  let f := flagsOf b
  syncFields b 2 4 ++
  [ within 0x18 (le b 0x18 8) 0 (if bits f 2 0 = 4 then 2 ^ 64 else 0)
  , within 0x20 (le b 0x20 4) 0 60000000
  , (if bit f 3 then within 0x24 (le b 0x24 4) 1 1024 else within 0x24 (le b 0x24 4) 0 0) ] ++ reservedAt b 0x28 8

/-- BARRIER (R222). -/
def barrierChecks (b : List Byte) : List Check :=
  headerCheck b 0 ++ [ within 8 (le b 8 4) 0 60000000 ] ++ reservedAt b 0xC 4

/-- WRITE_IMM (R223). -/
def writeImmChecks (b : List Byte) : List Check :=
  let wide := bit (flagsOf b) 0
  headerCheck b 1 ++ reservedAt b 4 4 ++
  [ aligned 8 (le b 8 8) (if wide then 8 else 4), (0x14, wide || le b 0x14 4 == 0, Code.badValue) ] ++ reservedAt b 0x18 8

/-- HINT_PHASE (R224). -/
def hintPhaseChecks (b : List Byte) : List Check :=
  headerCheck b 0 ++
  [ within 6 (le b 6 2) 1 256, within 8 (le b 8 4) 1 1000000, (0xC, decide (le b 0xC 1 < 64), Code.reservedSet) ] ++
  reservedAt b 0xD 3

/-- FENCE_FETCH (R226). -/
def fenceFetchChecks (b : List Byte) : List Check := headerCheck b 0 ++ reservedAt b 4 12

/-- PART_CONTROL (R230). -/
def partControlChecks (b : List Byte) : List Check :=
  headerCheck b 0 ++ [ (4, decide (le b 4 1 < 64), Code.reservedSet), within 5 (le b 5 1) 0 1 ] ++ reservedAt b 6 10

/-- FEED_SET (R230). -/
def feedSetChecks (b : List Byte) : List Check := headerCheck b 0 ++ reservedAt b 8 8

/-- TRACE_SET (R230). -/
def traceSetChecks (b : List Byte) : List Check := headerCheck b 2 ++ reservedAt b 0xC 4

/-- PRIV_WRITE (R230). -/
def privWriteChecks (b : List Byte) : List Check :=
  headerCheck b 1 ++ [ aligned 4 (le b 4 4) (if bit (flagsOf b) 0 then 8 else 4) ]

/-- SYNC_CONFIG (R230). -/
def syncConfigChecks (b : List Byte) : List Check :=
  headerCheck b 1 ++
  [ (5, decide (le b 4 2 < 32768), Code.reservedSet), within 6 (le b 6 2) 1 32768
  , (6, decide (le b 4 2 + le b 6 2 ≤ 32768), Code.badValue) ]

end Sys2Proof.Machine
end

