-- ==== Sys2Proof/Machine/Irq.lean ====
section
/-! DEFINITION. Claims and completes of the Interrupt Gatherer (R402, R405 to R410). -/

namespace Sys2Proof.Machine

open Sys2Proof

/-- The source a claim of a target returns: the highest PRIORITY, the lowest number among equals (R407). -/
def Iga.best (g : Iga) (t : Nat) : Option Nat :=
  (g.states.filter fun e => g.eligible e.1 t).foldl (fun b e => match b with
    | none => some e.1
    | some n => if (g.cfgOf n).priority < (g.cfgOf e.1).priority then some e.1 else some n) none

/-- A claimed source clears IRQ_PENDING of every queue bound to it (R322, R405). -/
def State.clearBound (s : State) (n : Nat) : State :=
  { s with queues := tmap s.queues fun _ x => if x.irqSource = n then { x with irqPending := false } else x }

/-- What a claim of a target returns (R407, R410). -/
def Iga.claimValue (g : Iga) (t : Nat) : Nat :=
  match g.best t with
  | some n => n
  | none => if g.compat ∧ g.withdrawn.contains t then 0x3FE else 0x3FF

/-- A claim read of a target (R405, R407, R410). -/
def State.claim (s : State) (t : Nat) : Nat × State :=
  let v := s.iga.claimValue t
  let s' := s.record unitIga 0x0D (v + 2 ^ 10 * t)
  let g := { s'.iga with withdrawn := s'.iga.withdrawn.filter (· != t) }
  match s.iga.best t with
  | some n => (v, State.clearBound { s' with iga := g.setState n (.inService t) } n)
  | none => (v, { s' with iga := g })

/-- A claim read on a Hub that is not primary returns 0x3FF and claims nothing (R481); it writes its record and clears WITHDRAWN
like every claim read (R407, R410). -/
def State.claimNothing (s : State) (t : Nat) : State :=
  let s := s.record unitIga 0x0D (0x3FF + 2 ^ 10 * t)
  { s with iga := { s.iga with withdrawn := s.iga.withdrawn.filter (· != t) } }

/-- A stray complete (R408, R417). -/
def Iga.strayed (g : Iga) (n t : Nat) (other : Bool) : Iga :=
  { g with stray := sat32 g.stray 1, strayLast := BitVec.ofNat 32 (n + 2 ^ 10 * t + (if other then 2 ^ 15 else 0)) }

/-- A write to IGA_COMPLETE of a target (R405, R408). -/
def Iga.complete (g : Iga) (n t : Nat) : Iga :=
  if n = 0x3FE ∨ n = 0x3FF then g
  else match g.stateOf n with
    | .inService o =>
      if o = t then g.setState n (if g.levels.contains n then .pending else .idle) else g.strayed n t true
    | _ => g.strayed n t false

end Sys2Proof.Machine
end

