-- ==== Sys2Proof/Machine/Ductus.lean ====
section
/-! DEFINITION. Ductus: the epoch logic (R36 to R38) and the alignment of the dies (R39 to R42). -/

namespace Sys2Proof.Machine

open Sys2Proof

/-- One second in ns. -/
def second : Nat := 1000000000

/-- The edge offset: the count minus the nearest whole second (R37). -/
def edgeOffset (count : Nat) : Int :=
  let r := count % second
  if 2 * r < second then (r : Int)
  else if 2 * r = second then (if Config.tieUp count then (r : Int) - second else r)
  else (r : Int) - second

/-- EPOCH_STATE (R63). -/
def EpochState.code : EpochState → Nat
  | .unset => 0 | .armed => 1 | .locked => 2 | .holdover => 3

/-- An EPOCH record of the Blotter (R37, R467). -/
def State.blotEpoch (s : State) (offset : Int) : State :=
  s.blot 0 0x01 unitDuc (unsignedOf 32 offset + 2 ^ 32 * s.ductus.epoch.code)

/-! ## The trace writer's buffer -/

/-- Bytes of a record (R46). -/
def TraceRec.size (r : TraceRec) : Nat := if traceFull r.typ then 32 else 16

/-- Bytes in the writer buffer (R56). -/
def Trace.held (t : Trace) : Nat := t.buf.foldl (fun n r => n + r.size) 0

/-- A LOSS record for a dropping buffer (R49, R57). -/
def lossPayload (l : LossInfo) (source : Nat) : Nat := l.count + 2 ^ 32 * l.firstStamp + 2 ^ 96 * source

/-- A record lost: counted for the dropping buffer's LOSS record and in DUC_TRACE_DROP (R57). -/
def Trace.lose (t : Trace) (stamp : Nat) : Trace :=
  let loss : LossInfo := match t.loss with | none => ⟨1, stamp⟩ | some l => ⟨l.count + 1, l.firstStamp⟩
  { t with drop := sat32 t.drop 1, loss := some loss }

/-- The writer buffer's LOSS record, emitted once there is room (R57). -/
def Trace.emitLoss (t : Trace) (source now : Nat) : Trace :=
  match t.loss with
  | none => t
  | some l =>
    if t.held + 32 ≤ 4096 then
      let p := t.make source 0xF2 now (lossPayload l source) false false false
      { p.1 with buf := p.1.buf ++ [p.2], loss := none }
    else t

/-- A record enters the writer buffer, or is dropped for want of room (R56, R57). -/
def Trace.accept (t : Trace) (r : TraceRec) (source now : Nat) : Trace :=
  let t := t.emitLoss source now
  if t.loss.isNone && decide (t.held + r.size ≤ 4096) then { t with buf := t.buf ++ [r], idle := false }
  else t.lose r.stamp

/-- A record that the trace writer itself makes (R50): it goes into the writer buffer at once. -/
def State.writerRecord (s : State) (typ stamp payload : Nat) : State :=
  if s.trace.en then
    let p := s.trace.make (s.source unitDuc) typ stamp payload false false (!s.awake)
    { s with trace := p.1.accept p.2 (s.source unitDuc) s.aoNow }
  else s

/-- A TIME_SYNC record (R49, R50). -/
def State.timeSync (s : State) : State :=
  s.writerRecord 0xF0 s.aoNow
    (s.ductus.epoch.code + 2 ^ 32 * s.ductus.offset.toNat + 2 ^ 64 * s.ductus.edges.toNat)

/-! ## The epoch logic -/

/-- DUC_CTRL.ARM set (R36, R37): ARMED, or refused because the load value is no whole second (log 21). -/
def State.arm (s : State) : State :=
  let prior := if s.ductus.epoch = .armed then s.ductus.prior else s.ductus.epoch
  if s.ductus.load.toNat % second = 0 then { s with ductus := { s.ductus with epoch := .armed, prior := prior } }
  else { s with ductus := { s.ductus with loadRefused := true, epoch := prior } }

/-- An EPOCH_P edge at the primary's epoch logic (R37). DUC_LOAD is read at the edge, so a value written while ARMED is the
one loaded (R36 names no capture; log 119). -/
def State.epochEdge (s : State) : State :=
  let count := s.ductus.count
  let off := edgeOffset count
  let near : Bool := decide (-1000 ≤ off) && decide (off ≤ 1000)
  let s := { s with ductus := { s.ductus with
    edges := s.ductus.edges + 1
    offset := BitVec.ofInt 32 off
    lastEdge := count } }
  match s.ductus.epoch with
  | .unset => s
  | .armed =>
    let v := s.ductus.load.toNat
    let s := { s with ductus := { s.ductus with
      count := v, phase := 0, epoch := .locked, slew := 0, lastEdge := v, loads := s.ductus.loads + 1 } }
    { s.writerRecord 0xF1 v count with
      trace := { (s.writerRecord 0xF1 v count).trace with second := v / second } }
  | .locked =>
    if near then { s with ductus := { s.ductus with slew := off } }
    else State.blotEpoch { s with ductus := { s.ductus with offsetBad := true, epoch := .holdover } } off
  | .holdover =>
    if near then { s with ductus := { s.ductus with slew := off, epoch := .locked } } else s

/-- EPOCH_P_EDGE (R37): sampled on a REFCLK_25M edge, so where `phase` is 0; the epoch logic runs in the always-on domain once
REFCLK_25M is good (R443). A secondary Hub takes its time from the primary (R35), and its DUC_EPOCH_COUNT does not count
the edge (R61 does not say; log 121). -/
def execEpochPEdge (s : State) : Host.Outcome State Fault Refusal :=
  if s.ductus.refOk ∧ s.ductus.phase = 0 ∧ s.primary then done s s.epochEdge else skip s

/-- EPOCH_MISSED (R37): LOCKED and no edge for 2 s. The record carries the offset of the last edge and the state after the
change (R37 and R467 name neither; log 120). -/
def execEpochMissed (s : State) : Host.Outcome State Fault Refusal :=
  if s.ductus.epoch = .locked ∧ s.ductus.lastEdge + 2 * second ≤ s.ductus.count ∧ s.primary then
    done s (State.blotEpoch { s with ductus := { s.ductus with epochMissed := true, epoch := .holdover } }
      s.ductus.offset.toInt)
  else skip s

/-! ## Alignment -/

/-- SOURCE of a child on Yarn (R48). -/
def childSource : YarnChild → Nat
  | .splitter sp => splitterSource sp
  | .nib n => nibSource n

/-- Whether a child takes part in alignment rounds: its link is up, and a Nib is not OFF (R42). -/
def State.aligns (s : State) : YarnChild → Bool
  | .splitter sp => match s.splitters[sp]? with | some x => x.link == .up | none => false
  | .nib n => match s.nibs[n]? with | some b => b.link == .up && b.power != .off | none => false

/-- The children of which a round consists. -/
def State.alignChildren (s : State) : List YarnChild :=
  ((List.range s.splitters.length).map YarnChild.splitter ++ (List.range s.nibs.length).map YarnChild.nib).filter s.aligns

/-- Whether an offset is on its way to a child. -/
def State.offsetSent (s : State) (child : YarnChild) : Bool := s.ductus.sentOffsets.any fun p => p.1 == child

/-- Whether the parent may run a round on a port now (R39): the Hub every 1 ms, a splitter once its own alignment of the
round is complete. -/
def State.alignDue (s : State) : YarnChild → Bool
  | .splitter sp =>
    match s.splitters[sp]? with
    | some x => (match x.alignedAt with | none => true | some t => decide (t + 1000000 ≤ s.now))
    | none => false
  | .nib n =>
    match s.nibs[n]? with
    | some b =>
      (match s.splitters[b.via]? with
        | some x => x.slew == 0 && !s.offsetSent (.splitter b.via) &&
            (match x.alignedAt, b.alignedAt with
              | none, _ => false
              | some _, none => true
              | some t, some u => decide (u < t))
        | none => false)
    | none => false

/-- A child's count minus its parent's, none where the child has had no alignment since it was powered up (R39, R42). -/
def State.childOffset (s : State) : YarnChild → Option Int
  | .splitter sp => (s.splitters[sp]?).bind Splitter.offset
  | .nib n =>
    (s.nibs[n]?).bind fun b => b.offset.map fun o => o - ((s.splitters[b.via]?).bind Splitter.offset).getD 0

/-- Ductus time at the parent of a child (R39). -/
def State.parentNow (s : State) : YarnChild → Int
  | .splitter _ => s.now
  | .nib n => s.now + (((s.nibs[n]?).bind fun b => s.splitters[b.via]?).bind Splitter.offset).getD 0

/-- Whether four stamps can be those of an exchange that has ended by now (R39): in order at each end, and where the child's
count is known neither way takes negative time. -/
def State.probeFits (s : State) (child : YarnChild) (p : Probe) : Bool :=
  decide (p.t1 ≤ p.t4) && decide (p.t4 ≤ s.parentNow child) && decide (p.t2 ≤ p.t3) &&
  match s.childOffset child with
  | none => true
  | some o => decide (p.t1 + o ≤ p.t2) && decide (p.t3 ≤ p.t4 + o)

/-- A round of four exchanges in succession, each over before the next begins (R39). -/
def State.roundFits (s : State) (child : YarnChild) (probes : List Probe) : Bool :=
  probes.length == 4 && probes.all (s.probeFits child) &&
    (probes.zip (probes.drop 1)).all fun p => decide (p.1.t4 ≤ p.2.t1)

/-- Round trip of an exchange (R39). -/
def probeTrip (p : Probe) : Int := (p.t4 - p.t1) - (p.t3 - p.t2)

/-- Offset of an exchange (R39); div truncates toward zero. -/
def probeOffset (p : Probe) : Int := Int.tdiv ((p.t2 - p.t1) - (p.t4 - p.t3)) 2

/-- The exchange of a round with the smallest round trip, the first of several (R39). -/
def bestProbe : List Probe → Option Probe
  | [] => none
  | p :: r => some (r.foldl (fun b q => if probeTrip q < probeTrip b then q else b) p)

/-- A round has run on the port of a child. -/
def State.roundRun (s : State) : YarnChild → State
  | .splitter sp => s.modSplitter sp fun x => { x with alignedAt := some s.now }
  | .nib n => s.modNib n fun x => { x with alignedAt := some s.now }

/-- ALIGNMENT_ROUND (R39): four exchanges on one port; the offset goes to the child, and once every child has had its
turn DUC_ALIGN_WORST shows the round's largest magnitude. -/
def execAlignmentRound (child : YarnChild) (probes : List Probe) (s : State) : Host.Outcome State Fault Refusal :=
  match bestProbe probes with
  | none => skip s
  | some p =>
    if s.roundFits child probes ∧ s.aligns child ∧ s.alignDue child ∧ s.awake then
      let off := probeOffset p
      let again := s.ductus.alignDone.contains child
      let m := BitVec.ofNat 32 off.natAbs
      let worst := if again then m else if s.ductus.alignMax < m then m else s.ductus.alignMax
      let doneNow := if again then [child] else s.ductus.alignDone ++ [child]
      let complete := s.alignChildren.all fun c => doneNow.contains c
      done s { s.roundRun child with ductus := { s.ductus with
        sentOffsets := s.ductus.sentOffsets ++ [(child, off)]
        alignMax := if complete then 0 else worst
        alignDone := if complete then [] else doneNow
        alignWorst := if complete then worst else s.ductus.alignWorst } }
    else skip s

/-- A child takes the offset it was sent (R39, R41): it slews, or sets its alignment fault. The first alignment of a child that
has just been powered up steps its count to its parent's (R33, R42; log 122). -/
def State.takeOffset (s : State) (child : YarnChild) (off : Int) : State :=
  let first : Bool := (s.childOffset child).isNone
  let bad : Bool := !first && decide (1000 < off.natAbs)
  let slew (old : Int) : Int := if first then 0 else if bad then old else off
  let s := match child with
    | .splitter sp => s.modSplitter sp fun x =>
        { x with unaligned := bad, slew := slew x.slew, offset := some (x.offset.getD 0) }
    | .nib n => s.modNib n fun x =>
        { x with unaligned := bad, slew := slew x.slew, offset := some (x.offset.getD (s.parentNow child - s.now)) }
  if bad then
    let s := { s with ductus := { s.ductus with alignFaults := sat32 s.ductus.alignFaults 1 } }
    s.blot 0 0x02 unitDuc (childSource child + 2 ^ 16 * unsignedOf 32 off)
  else s

/-- ALIGN_OFFSET_RECEIVED (R41). -/
def execAlignOffsetReceived (child : YarnChild) (s : State) : Host.Outcome State Fault Refusal :=
  match takeFirst (fun p => p.1 == child) s.ductus.sentOffsets with
  | none => skip s
  | some (p, rest) =>
    let s' := { s with ductus := { s.ductus with sentOffsets := rest } }
    if s.aligns child then done s (s'.takeOffset child p.2) else done s s'

/-! ## The advance of time -/

/-- One ns of the master count (R34, R38): at each REFCLK_25M edge the count takes its stride, and a slew comes 1 ns
nearer its end. -/
def Ductus.tick (d : Ductus) : Ductus :=
  if ¬d.refOk then d
  else if d.phase < 39 then { d with phase := d.phase + 1 }
  else { d with phase := 0, count := d.count + d.stride, slew := d.slew - d.slew.sign }

/-- 1 ns of a child's slew (R39), which moves its count toward its parent's. -/
def slewStep (offset : Option Int) (slew : Int) : Option Int × Int :=
  (offset.map fun o => o - slew.sign, slew - slew.sign)

/-- A splitter's slew by 1 ns. -/
def Splitter.slewOnce (x : Splitter) : Splitter :=
  { x with offset := (slewStep x.offset x.slew).1, slew := (slewStep x.offset x.slew).2 }

/-- A Nib's slew by 1 ns. -/
def Nib.slewOnce (x : Nib) : Nib :=
  { x with offset := (slewStep x.offset x.slew).1, slew := (slewStep x.offset x.slew).2 }

end Sys2Proof.Machine
end

