-- ==== Sys2Proof/Machine/Mailbox.lean ====
section
/-! DEFINITION. Mailboxes (R81 to R90) and Inkwell (R91 to R99), as the host and the firmware act on them, and the
answers of Henpen commands. -/

namespace Sys2Proof.Machine

open Sys2Proof

/-! ## Inkwell slots -/

/-- Address in Inkwell of a slot (R91). -/
def slotAddr (slot : Nat) : Nat := slot * 0x1000

/-- The ownership word of a slot (R91). -/
def State.slotWord (s : State) (slot : Nat) : Nat := leNat (s.mbx.ink.read (slotAddr slot) 8)

/-- OWNER of an ownership word: 0 FREE, 1 HOST, 2 FIRMWARE, 3 POISONED (R91). -/
def wordOwner (w : Nat) : Nat := bits w 63 62
/-- SEQ (R91). -/
def wordSeq (w : Nat) : Nat := bits w 61 48
/-- LENGTH in 64-byte units (R91). -/
def wordLen (w : Nat) : Nat := bits w 47 32
/-- CRC (R91). -/
def wordCrc (w : Nat) : Nat := bits w 31 0

/-- An ownership word of its fields (R91). -/
def makeWord (owner seq len crc : Nat) : Nat := crc + 2 ^ 32 * len + 2 ^ 48 * seq + 2 ^ 62 * owner

/-- A slot's OWNER set, the rest of its word unchanged. -/
def State.setOwner (s : State) (slot owner : Nat) : State :=
  let w := s.slotWord slot
  let data := leBytes 8 (makeWord owner (wordSeq w) (wordLen w) (wordCrc w))
  { s with mbx := { s.mbx with ink := s.mbx.ink.write (slotAddr slot) data } }

/-- Every firmware-owned slot of a mailbox's range gets a new owner (R83, R99). -/
def State.releaseSlots (s : State) (b : Mailbox) (owner : Nat) : State :=
  (List.range b.inkCount).foldl (fun s i =>
    let slot := b.inkBase + i
    if wordOwner (s.slotWord slot) = 2 then s.setOwner slot owner else s) s

/-- Whether Inkwell has its slot structure: from the start of the first Henpen image on (R436). -/
def State.inkSlots (s : State) : Bool := s.cpb.state == .running

/-- The mailbox whose range holds a slot and that is not FREE (R94). -/
def State.slotBox (s : State) (slot : Nat) : Option Mailbox :=
  s.mbx.boxes.find? fun b => b.state != .free && decide (b.inkBase ≤ slot) && decide (slot < b.inkBase + b.inkCount)

/-- An Inkwell write that is discarded and counted (R93, R94). -/
def State.inkDiscard (s : State) : State :=
  { s with mbx := { s.mbx with inkDiscards := sat32 s.mbx.inkDiscards 1 } }

/-- Whether the host may write an ownership word over another (R94). -/
def wordPermitted (old new : Nat) : Bool :=
  if old ≤ 1 then decide (new ≤ 2) else if old = 3 then new == 0 else false

/-- A host write of bytes to the INK window (R93, R94, R436). -/
def State.inkWrite (s : State) (agent off : Nat) (data : List Byte) : State :=
  let wrote : State := { s with mbx := { s.mbx with ink := s.mbx.ink.write off data } }
  if ¬s.inkSlots then wrote
  else
    let slot := off / 0x1000
    let o := off % 0x1000
    match s.slotBox slot with
    | none => s.inkDiscard
    | some b =>
      if b.owner ≠ agent then s.inkDiscard
      else
        let old := wordOwner (s.slotWord slot)
        if o < 8 then
          if o = 0 ∧ data.length = 8 ∧ wordPermitted old (wordOwner (leNat data)) then wrote else s.inkDiscard
        else if old ≤ 1 then wrote else s.inkDiscard

/-- What a host read of the INK window returns (R94, R436). -/
def State.inkRead (s : State) (agent off n : Nat) : List Byte :=
  let owned := match s.slotBox (off / 0x1000) with | some b => b.owner == agent | none => false
  if !s.inkSlots || owned then s.mbx.ink.read off n else zeros_ n
where
  /-- Zero bytes. -/
  zeros_ (n : Nat) : List Byte := List.replicate n 0

/-! ## Mailbox writes -/

/-- A mailbox write discarded and counted (R82). -/
def State.mbxDiscard (s : State) : State :=
  { s with mbx := { s.mbx with discards := sat32 s.mbx.discards 1 } }

/-- COMMAND of the request in a mailbox buffer (R102). -/
def State.boxCommand (s : State) (n : Nat) : Nat := leNat (s.mbx.data.read (n * 0x100) 2)

/-- A MAILBOX record (R49): seen, or posted with a status. -/
def State.mailboxRecord (s : State) (n : Nat) (status : W16) (posted : Bool) : State :=
  s.record unitMc 0x0E (n + 16 * s.boxCommand n + 2 ^ 20 * status.toNat + (if posted then 2 ^ 36 else 0))

/-- A POSTED mailbox meets an online exchange (R83): RETRY, and the slots the firmware owns go back to the host. -/
def State.retryBox (s : State) (n : Nat) : State :=
  match s.mbx.boxes[n]? with
  | none => s
  | some b =>
    let s := (s.releaseSlots b 1).mailboxRecord n Code.retry true
    if b.forced then s.modBox n Mailbox.freed
    else s.modBox n fun b => { b with state := .done, result := Code.retry, respLen := 0 }

/-- MBX_DOORBELL of an IDLE mailbox (R83, R84, R136: the exchange starts with SWITCHING). -/
def State.postBox (s : State) (n len : Nat) : State :=
  if len % 8 = 0 ∧ 8 ≤ len ∧ len ≤ 256 then
    let s := s.mailboxRecord n 0 false
    let s := s.modBox n fun b => { b with state := .posted, reqLen := len, seen := s.aoNow }
    if s.mgmt.exchange = .switching then s.retryBox n else s
  else s.mbxDiscard

/-- Whether two slot ranges share a slot. -/
def rangesOverlap (b1 c1 b2 c2 : Nat) : Bool := decide (b1 < b2 + c2) && decide (b2 < b1 + c1) && decide (0 < c1) && decide (0 < c2)

/-- Whether MBX_INK may take a value (R90). -/
def State.inkRangeOk (s : State) (n base count : Nat) : Bool :=
  decide (base + count ≤ 256) &&
  s.mbx.boxes.zipIdx.all fun b => b.2 == n || b.1.state == .free || !rangesOverlap base count b.1.inkBase b.1.inkCount

/-- MBX_FORCE_FREE of a mailbox (R83). -/
def State.forceFree (s : State) (n : Nat) : State :=
  s.modBox n fun b =>
    match b.state with
    | .free => b
    | .idle => b.freed
    | .done => b.freed
    | .posted => { b with forced := true }
    | .busy => { b with forced := true }

/-- A write to a register of mailbox `n` at an offset inside it (R81 to R90). -/
def State.mbxWrite (s : State) (agent n reg v : Nat) : State :=
  match s.mbx.boxes[n]? with
  | none => s
  | some b =>
    let owns : Bool := b.state != .free && b.owner == agent
    match reg with
    | 0x04 =>
      if b.state = .free then
        s.modBox n fun b => { b with owner := agent, state := .idle, irqEn := false, inkBase := 0, inkCount := 0,
                                     toFw := 0, toHost := 0 }
      else s
    | 0x08 => if owns && !b.busy then s.modBox n Mailbox.freed else s.mbxDiscard
    | 0x0C => if owns && b.state == .idle then s.postBox n (bits v 8 0) else s.mbxDiscard
    | 0x14 => if owns && b.state == .done then s.modBox n fun b => { b with state := .idle } else s.mbxDiscard
    | 0x18 => if owns then s.modBox n fun b => { b with irqEn := bit v 0 } else s.mbxDiscard
    | 0x1C =>
      if owns && b.state == .idle && s.inkRangeOk n (bits v 7 0) (bits v 16 8) then
        s.modBox n fun b => { b with inkBase := bits v 7 0, inkCount := bits v 16 8 }
      else s.mbxDiscard
    | _ => s

/-- A write of bytes to the mailbox buffers, at an offset from the first (R82, R87). -/
def State.mbxDataWrite (s : State) (agent off : Nat) (data : List Byte) : State :=
  match s.mbx.boxes[off / 0x100]? with
  | none => s
  | some b =>
    if b.state = .idle ∧ b.owner = agent then { s with mbx := { s.mbx with data := s.mbx.data.write off data } }
    else s.mbxDiscard

/-- What a host read of the mailbox buffers returns (R82). -/
def State.mbxDataRead (s : State) (agent off n : Nat) : List Byte :=
  match s.mbx.boxes[off / 0x100]? with
  | none => List.replicate n 0
  | some b =>
    if (b.state = .idle ∨ b.state = .done) ∧ b.owner = agent then s.mbx.data.read off n else List.replicate n 0

/-- STATE of MBX_STATUS (R88). -/
def MbxState.code : MbxState → Nat
  | .free => 0 | .idle => 1 | .posted => 2 | .busy => 3 | .done => 4

/-- A read of a register of a mailbox (R87 to R89). -/
def Mailbox.reg (b : Mailbox) (reg : Nat) : Nat :=
  match reg with
  | 0x00 => b.owner + (if b.state = .free then 16 else 0)
  | 0x10 => b.state.code + (if b.state = .done then 16 * b.respLen + 2 ^ 16 * b.result.toNat else 0)
  | 0x18 => b2n b.irqEn
  | 0x1C => b.inkBase + 256 * b.inkCount
  | 0x20 => b.toFw + 2 ^ 16 * b.toHost
  | _ => 0

/-! ## Answers of Henpen commands (R103, R105, R106) -/

/-- COMMAND of a request (R102). -/
def Prog.command (p : Prog) : Nat := le p.request 0 2

/-- Commands that take bulk data (R118, R128, R135). -/
def takesBulk (command : Nat) : Bool := command == 0x0101 || command == 0x0401 || command == 0x0801

/-- The bytes of a response (R103): results only with OK. -/
def Prog.response (p : Prog) (status : W16) (detail : Nat) (results : List Byte) : List Byte :=
  leBytes 2 status.toNat ++ p.request.take 2 ++ slice p.request 4 4 ++ leBytes 4 p.handed ++ leBytes 4 detail ++
    (if status = Code.ok then results else [])

/-- Whether an admin submission still waits for its response (R183). -/
def State.adminWaits (s : State) (n : W64) : Bool := match s.subOf 0 n with | some u => u.retired.isNone | none => false

/-- Whether a command moves Inkwell data: bulk data in, or slots handed to the host. -/
def Prog.movesInk (p : Prog) : Bool := takesBulk p.command || p.slots != 0

/-- The write of an admin submission's response (R106), under the admin context. -/
def State.writeAnswer (s : State) (a : AdminAnswer) : State :=
  match s.ctxOfQueue 0 with
  | some (_, c) => s.writeMem (some (.adminAnswer a.sub.toNat)) c.pasid c.partition a.addr a.data false
  | none => s

/-- An admin submission is answered (R106): its response is written, and it retires once that is visible; it retires at once
where RESP_ADDR asks for no response, or is misaligned. -/
def State.answerAdmin (s : State) (n : W64) (addr : W64) (status : W16) (bytes : List Byte) : State :=
  if addr ≠ 0 ∧ addr.toNat % 8 = 0 then
    let a : AdminAnswer := ⟨n, status, addr, bytes⟩
    State.writeAnswer { s with mgmt := { s.mgmt with answers := s.mgmt.answers ++ [a] } } a
  else s.retire 0 n status

/-- The answer of a command (R99, R103, R106): on a mailbox the response is posted, and the slots that firmware still owns
are free; on the admin queue the response is visible before the submission retires. -/
def State.answer (s : State) (p : Prog) (status : W16) (detail : Nat) (results : List Byte) : State :=
  let s := { s with mgmt := { s.mgmt with progs := s.mgmt.progs.filter fun q => q.ident != p.ident } }
  let bytes := p.response status detail results
  match p.origin with
  | .mailbox n =>
    let s := match s.mbx.boxes[n]? with
      | some b => if p.movesInk then s.releaseSlots b 0 else s
      | none => s
    s.emit (.respond n p.command status bytes)
  | .admin n => if s.adminWaits n then s.answerAdmin n (le64 p.request 0x18) status bytes else s

end Sys2Proof.Machine
end

