-- ==== Sys2Proof/Machine/Resets.lean ====
section
/-! DEFINITION. What the resets do to the block's state (R494, R474, R490, R524). -/

namespace Sys2Proof.Machine

open Sys2Proof

/-- A FREE context slot of a generation (R139). -/
def Ctx.blank (gen : Nat) (retired : Bool) : Ctx :=
  { gen := gen, retired := retired, state := .free, pasid := 0, partition := none, kernel := false, budget := 0,
    pages := [], fault := 0, kill := none, deadline := none, idle := false, releasing := false, energyUj := 0,
    energyRem := 0, events := [], patterns := [] }

/-- A link after a reset that acts internally: held in reset where its reset input is low or its unit is absent (R445), else waiting
for training. -/
def LinkState.again (l : LinkState) : LinkState := if l = .inReset ∨ l = .absent then l else .waiting

/-- A splitter after an internal reset. -/
def Splitter.again (x : Splitter) : Splitter := { Splitter.reset with link := x.link.again, testMode := x.testMode }

/-- A Nib after an internal reset: what its ports showed when NIB_RESET_N was released is kept (R511). -/
def Nib.again (b : Nib) : Nib :=
  { Nib.reset with link := b.link.again, die := b.die, ports := b.ports, testMode := b.testMode, via := b.via }

/-- Ductus after a reset outside the always-on domain: time and epoch logic are kept (R474), the alignment is not. -/
def Ductus.again (d : Ductus) : Ductus :=
  { d with alignWorst := 0, alignMax := 0, alignDone := [], alignFaults := 0, sentOffsets := [], hiLatch := [] }

/-- What a LOSS record says, as drops to be told again (R467). -/
def BlotRec.drops (r : BlotRec) : LossInfo := ⟨r.object.toNat % 2 ^ 32, r.object.toNat / 2 ^ 32 % 2 ^ 64⟩

/-- The Fault Manager after such a reset: the Blotter is kept (R474, R487), but FLT_BLOT_LOST outside the always-on domain only by a
warm reset, and a record whose write was out is written again, a LOSS record with the drops since. -/
def Flt.again (f : Flt) (warm : Bool) : Flt :=
  let loss := match f.flight, f.loss with
    | some r, some l => if r.kind = 0x0F then some { r.drops with count := r.drops.count + l.count } else f.loss
    | some r, none => if r.kind = 0x0F then some r.drops else none
    | none, l => l
  { f with device := 0, stale := 0, flight := none, loss := loss, lost := if warm then f.lost else 0 }

/-- A rail group after such a reset; a warm reset keeps FEED_TRIM (R474). -/
def Rail.again (keepTrim : Bool) (r : Rail) : Rail :=
  if keepTrim then { Rail.reset with trimWanted := r.trimWanted } else Rail.reset

/-- The record counts of units that a reset of the Hub alone leaves running: those of splitters, Nibs and Stitchers (R48; the
spec names no reset of SEQ, log 125). -/
def keptSeqs (t : Tbl W32) : Tbl W32 := t.filter fun e => decide (0x1000 ≤ e.1)

/-- The Gatherer, whose states and outputs are in the always-on domain (R412, R474); a Hub that returns to a following role has
every source IDLE and no claim outstanding (R414). -/
def Iga.again (g : Iga) (r : Role) : Iga :=
  if r = .single ∨ r = .primaryAlone then g else { g with states := [], withdrawn := [] }

/-- Feed after such a reset: the halt lasts until a device reset (R394; log 117), and where the Hub alone is reset the window sums in
the always-on domain stay (R379). -/
def Feed.again (f fresh : Feed) (keepTrim : Bool) : Feed :=
  let rails := f.rails.map (Rail.again keepTrim)
  if keepTrim then { fresh with halt := f.halt, rails := rails }
  else { fresh with halt := f.halt, rails := rails, window := f.window, bucket := f.bucket, buckets := f.buckets }

/-- The live configuration after such a reset: Feed's limits and prices in the always-on domain stay where the Hub alone is reset
(R379); a warm reset discards the tables (R474). -/
def LiveConfig.again (c fresh : LiveConfig) (keepTrim : Bool) : LiveConfig :=
  if keepTrim then fresh else { fresh with limits := c.limits, energy := c.energy }

/-- Everything of this Hub outside the always-on domain at its reset value; the splitters and Nibs stay as they are.
Generations and retirement of the context slots last until a device reset (R141, R474; log 23), and so does the halt
(R394; log 117). Accesses that the HTP held for a wake are dropped without a response (R71 does not say; log 126). -/
def State.resetCore (s : State) (keepTrim : Bool) : State :=
  let r := State.resetOf s.build
  { r with
    pending := s.pending
    ductus := s.ductus.again
    trace := { r.trace with seqs := keptSeqs s.trace.seqs }
    htp := { s.htp with latches := [], staged := [], held := [], mirrorHeld := [] }
    bells := s.bells
    iga := s.iga.again r.mir.role
    ctxs := tmap s.ctxs fun _ c => Ctx.blank c.gen c.retired
    splitters := s.splitters
    nibs := s.nibs
    mgmt := { r.mgmt with lastTag := s.mgmt.lastTag, lastExchange := s.mgmt.lastExchange }
    feed := s.feed.again r.feed keepTrim
    live := s.live.again r.live keepTrim
    cfg := { r.cfg with state := if s.feed.halt then .halted else r.cfg.state }
    flt := s.flt.again keepTrim
    mir := { r.mir with linkUp := s.mir.linkUp }
    power := { s.power with hub := .active, since := s.now, brief := false, hclk := false } }

/-- The keys are erased and asked for again (R519). -/
def State.dropKeys (s : State) : State :=
  { s with cpb := { s.cpb with verifyKey := none, imageKey := none, counter := none, keyReq := true, keyCounter := 0 } }

/-- Links of a Hub that restarts: every link is to be trained again. -/
def State.dropLinks (s : State) : State :=
  { s with
    splitters := s.splitters.map fun x => { x with link := x.link.again, up := [], down := [] }
    nibs := s.nibs.map fun b => { b with link := b.link.again, up := [], down := [] } }

/-- HUB_RESET_N pulsed and released (R494, R495): the keys are not among what it erases (R519), so the boot load stands
where their delivery left it. -/
def State.hubPinReset (s : State) : State :=
  let t := (s.resetCore false).dropLinks
  let have_ : Bool := s.cpb.verifyKey.isSome && s.cpb.imageKey.isSome && s.cpb.counter.isSome
  { t with
    cpb := { t.cpb with
      verifyKey := s.cpb.verifyKey
      imageKey := s.cpb.imageKey
      counter := s.cpb.counter
      keyReq := s.cpb.keyReq
      keyCounter := s.cpb.keyCounter
      state := if have_ then .opened else .waitKeys }
    power := { t.power with hubReleased := true } }

/-- The reset of a warm reset (R474): both Hubs, every splitter and every Nib; contexts, bindings, tables, image and
Margin are gone, and the keys are read again. -/
def State.warmResetState (s : State) : State :=
  let t := (s.resetCore true).dropKeys
  { t with
    bells := { t.bells with binds := [] }
    trace := { t.trace with seqs := [] }
    splitters := s.splitters.map Splitter.again
    nibs := s.nibs.map Nib.again }

/-- MIR_CTRL.HUB_RESET (R490, R519): this Hub alone, outside the always-on domain; its role stays until REJOIN. -/
def State.mirHubResetState (s : State) : State :=
  let t := (s.resetCore false).dropKeys
  { t with mir := { t.mir with role := .detached } }

/-- A device reset (R494); the wrappers keep their self-test results (R524; log 113). -/
def State.deviceResetState (s : State) : State :=
  let r := State.resetOf s.build
  { r with pending := s.pending, power := { r.power with selfTests := s.power.selfTests } }

/-- TEST_MODE of a block rises (R524): outputs at rest, keys erased, functional state lost. -/
def State.testModeState (s : State) : BlockId → State
  | .hub =>
    let r := s.deviceResetState
    { r with splitters := s.splitters, nibs := s.nibs, power := { r.power with testMode := true } }
  | .splitter sp => s.modSplitter sp fun _ => { Splitter.reset with testMode := true }
  | .nib n => s.modNib n fun b => { Nib.reset with testMode := true, die := b.die, ports := b.ports, via := b.via }

/-- Class and index of a block in a TEST record (R467). -/
def blockIdent : BlockId → Nat × Nat
  | .hub => (0, 0)
  | .splitter sp => (1, sp)
  | .nib n => (2, n)

/-- The result of a self-test run in test mode stays in the block's wrapper (R523, R524). -/
def State.keepTest (s : State) (block : BlockId) : Option Bool → State
  | none => s
  | some pass =>
    let i := blockIdent block
    let rest := s.power.selfTests.filter fun r => !(r.1 == i.1 && r.2.1 == i.2)
    { s with power := { s.power with selfTests := rest ++ [(i.1, i.2, pass)] } }

/-- DEVICE_RESET (R494). -/
def execDeviceReset (s : State) : Host.Outcome State Fault Refusal := done s s.deviceResetState

/-- HUB_RESET (R494, R495). -/
def execHubReset (s : State) : Host.Outcome State Fault Refusal := done s s.hubPinReset

/-- TEST_MODE (R524). -/
def execTestMode (block : BlockId) (result : Option Bool) (s : State) : Host.Outcome State Fault Refusal :=
  done s ((s.testModeState block).keepTest block result)

end Sys2Proof.Machine
end

