-- ==== Sys2Proof/Machine/Sync.lean ====
section
/-! DEFINITION. Synchronisation words (11): operations, waits, watch slots and the sync fault record. -/

namespace Sys2Proof.Machine

open Sys2Proof

/-! ## Operations and conditions -/

/-- Word ADD signed addend, computed exactly; none where it leaves 0 to 2^64 − 1 (R326). -/
def syncAdd (word addend : W64) : Option W64 :=
  let r : Int := (word.toNat : Int) + addend.toInt
  if 0 ≤ r ∧ r < 2 ^ 64 then some (BitVec.ofInt 64 r) else none

/-- Whether an ADD that failed would have gone above 2^64 − 1 (DIR of R326). -/
def syncAddDir (addend : W64) : Bool := decide (0 ≤ addend.toInt)

/-- The condition of a wait operation (R221, R326). -/
def syncHolds (op : Nat) (word value mask : W64) : Bool :=
  match op with
  | 2 => decide (value.toNat ≤ word.toNat)
  | 3 => word == value
  | 4 => word &&& mask == value
  | _ => false

/-- A Sync SRAM word (R323). -/
def State.word (s : State) (i : Nat) : W64 := tgetD s.sync.words i 0

/-! ## Records -/

/-- WAITER and WAITER_KIND of the sync fault record, at their bits (R340, R341). -/
def syncWaiter (handle : W32) : SyncParty → Nat
  | .queue q _ off => 2 ^ 80 * q + 2 ^ 100 * (off / 16)
  | .engine nib core _ _ _ _ => 2 ^ 79 + 2 ^ 80 * nib + 2 ^ 88 * core + 2 ^ 96 * handle.toNat
  | .host => 0
  | .debugger => 0

/-- OBJ_KIND and OBJECT of the sync fault record for a word (R340). -/
def syncObject : WordRef → Nat
  | .sram i => 2 ^ 18 * i
  | .mem _ a => 2 ^ 16 * 1 + 2 ^ 18 * (a.toNat / 8)
  | .barrier b => 2 ^ 16 * 2 + 2 ^ 18 * b

/-- A sync fault record (R340): a FAULT record, its payload and stamp latched if none has been since the count was read
(R360). -/
def State.syncFault (s : State) (code : W16) (object waiter : Nat) : State :=
  let payload := code.toNat + object + waiter
  let first := s.dbg.syncFaults = 0
  let s := s.record unitSync 0x0A payload
  { s with dbg := { s.dbg with
      syncFault := if first then BitVec.ofNat 128 payload else s.dbg.syncFault
      syncFaultStamp := if first then BitVec.ofNat 64 s.now else s.dbg.syncFaultStamp
      syncFaults := sat32 s.dbg.syncFaults 1 } }

/-- A SYNC_OP record (R49, R329): by the host target for a window write, marked DEBUG for a debugger's (R59). -/
def State.syncRecord (s : State) (word : WordRef) (op : Nat) (handle : W32) (party : SyncParty) : State :=
  let obj := match word with | .sram i => i | .mem _ a => a.toNat | .barrier b => b
  let unit := match party with | .host => unitHtp | _ => unitSync
  let debug := match party with | .debugger => true | _ => false
  s.recordAs unit 0x08 s.aoNow (obj + 2 ^ 64 * op + 2 ^ 96 * handle.toNat) debug (!s.awake)

/-- A debugger's operation that leaves the word as it was has its SYNC_OP record too (R359). -/
def State.debugRecord (s : State) (word : WordRef) (op : Nat) (handle : W32) (party : SyncParty) : State :=
  match party with
  | .debugger => s.syncRecord word op handle party
  | _ => s

/-! ## Answers -/

/-- RESULT codes of a SYNC reply (R513) by the failure it reports. -/
def syncResult (code : W16) : Nat :=
  if code = Code.ok then 0 else if code = Code.syncUnderflow then 1 else if code = Code.syncTimeout then 2
  else if code = Code.memoryError then 4 else 5

/-- The issuer of an operation or wait learns its end (R220, R221, R331, R359). -/
def State.answerSync (s : State) (party : SyncParty) (code : W16) (value : W64) : State :=
  match party with
  | .queue q n off =>
    State.unpark (if code = Code.ok then s.completeCmd q n off else s.failCmd q n off code unitSync) q
  | .engine nib core eq mopSeq reqTag _ =>
    s.sendNib nib (.syncReply { nib := nib, core := core, eq := eq, mopSeq := mopSeq, reqTag := reqTag,
                                result := syncResult code, value := if code = Code.ok then value else 0, code := code })
  | .host => s
  | .debugger =>
    { s with dbg := { s.dbg with
        syncCtrl := s.dbg.syncCtrl &&& 0x7FFFFFFF
        syncResult := code.setWidth 32
        syncOld := value } }

/-- A wait is satisfied with a value (R332, R335): its entry is freed, and its issuer learns it. -/
def State.satisfy (s : State) (w : SyncWait) (value : W64) : State :=
  (s.syncRecord w.word w.op w.handle w.party).answerSync w.party Code.ok value

/-- Every registered wait on a word is evaluated on a value it holds (R327, R334). -/
def State.evalWord (s : State) (word : WordRef) (value : W64) : State :=
  let hit (w : SyncWait) : Bool := w.registered && w.word == word && syncHolds w.op value w.value w.mask
  let hits := s.sync.waits.filter hit
  if hits.isEmpty then s
  else
    let s := { s with sync := SyncUnit.prune { s.sync with waits := s.sync.waits.filter fun w => !hit w } }
    hits.foldl (fun s w => s.satisfy w value) s

/-! ## Sync SRAM -/

/-- An update of a Sync SRAM word, evaluated against the waits on it (R327). -/
def State.setWord (s : State) (i : Nat) (v : W64) (handle : W32) (party : SyncParty) (op : Nat) : State :=
  let s := { s with sync := { s.sync with words := wset s.sync.words i v } }
  (s.syncRecord (.sram i) op handle party).evalWord (.sram i) v

/-- A SET (op 0) or ADD (op 1) on a Sync SRAM word, answered to its issuer (R326). -/
def State.sramOp (s : State) (add : Bool) (i : Nat) (v : W64) (handle : W32) (party : SyncParty) : State :=
  let old := s.word i
  if add then
    match syncAdd old v with
    | some r => (s.setWord i r handle party 1).answerSync party Code.ok old
    | none =>
      let dir := if syncAddDir v then 2 ^ 78 else 0
      ((s.debugRecord (.sram i) 1 handle party).syncFault Code.syncUnderflow (syncObject (.sram i) + dir)
        (syncWaiter handle party)).answerSync party Code.syncUnderflow old
  else (s.setWord i v handle party 0).answerSync party Code.ok old

/-! ## Memory words -/

/-- A memory-word operation enters a phase. -/
def SyncUnit.setPhase (y : SyncUnit) (ident : Nat) (ph : MemOpPhase) : SyncUnit :=
  { y with memOps := y.memOps.map fun p => if p.ident = ident then { p with phase := ph } else p }

/-- The request of a memory-word operation in its phase (R328): the SET's atomic write, or a read. -/
def State.startMemOp (s : State) (o : MemOp) : State :=
  let s := { s with sync := s.sync.setPhase o.ident (if o.add then .reading else .setting) }
  if o.add then s.readMem (.syncOp o.ident) o.pasid o.partition o.addr 8 false
  else s.writeMem (some (.syncOp o.ident)) o.pasid o.partition o.addr (leBytes 8 o.value.toNat) true

/-- A SET or ADD on a memory word begins, or waits for an earlier one of the Sync Unit on that word (R328). -/
def State.memOp (s : State) (add : Bool) (pasid : Nat) (part : Option Nat) (addr v : W64) (handle : W32)
    (party : SyncParty) : State :=
  let o : MemOp := { ident := s.sync.nextOp, add := add, pasid := pasid, partition := part, addr := addr, value := v,
                     handle := handle, party := party, phase := .queued }
  let busy := s.sync.memOps.any fun p => p.pasid == pasid && p.addr == addr
  let s := { s with sync := { s.sync with memOps := s.sync.memOps ++ [o], nextOp := s.sync.nextOp + 1 } }
  if busy then s else s.startMemOp o

/-- A memory-word operation is over: the next one waiting for that word begins. -/
def State.endMemOp (s : State) (o : MemOp) : State :=
  let s := { s with sync := { s.sync with memOps := s.sync.memOps.filter fun p => p.ident != o.ident } }
  match s.sync.memOps.find? fun p => p.pasid == o.pasid && p.addr == o.addr with
  | some p => s.startMemOp p
  | none => s

/-- The compare-and-swap of a memory-word ADD (R328, R501). -/
def State.swapMemOp (s : State) (o : MemOp) (old new : W64) : State :=
  let s := { s with sync := s.sync.setPhase o.ident (.swapping old new) }
  s.emit (.mem
    { wait := some (.syncOp o.ident), op := .cas, pasid := o.pasid, part := o.partition, addr := o.addr, len := 8,
      data := leBytes 8 old.toNat ++ leBytes 8 new.toNat, atomic := false, phys := false, since := s.now,
      dead := false, pages := [] })

/-- A memory ADD whose word holds neither its old nor its new value after a takeover (R482): counted, with its record. -/
def State.inDoubt (s : State) (o : MemOp) : State :=
  let s := { s with mir := { s.mir with inDoubt := sat32 s.mir.inDoubt 1 } }
  s.blot Code.inDoubt 0x0D unitSync (o.addr.toNat + 2 ^ 64 * o.pasid)

/-- The response to a memory-word operation's request (R328): an ADD's read leads to a compare-and-swap, a failed
compare to a fresh read, an error response to MEMORY_ERROR. -/
def State.memOpResponse (s : State) (o : MemOp) (answer : Option W64) : State :=
  match answer with
  | none =>
    ((((s.endMemOp o).debugRecord (.mem o.pasid o.addr) (b2n o.add) o.handle o.party).syncFault Code.memoryError (syncObject (.mem o.pasid o.addr)) (syncWaiter o.handle o.party)).answerSync
      o.party Code.memoryError (Config.wordBeforeSet o.ident)).pasidFault o.pasid Code.memoryError
  | some v =>
    match o.phase with
    | .queued => s
    | .setting =>
      (((s.endMemOp o).syncRecord (.mem o.pasid o.addr) 0 o.handle o.party).evalWord (.mem o.pasid o.addr) o.value
        ).answerSync o.party Code.ok (Config.wordBeforeSet o.ident)
    | .reading =>
      match syncAdd v o.value with
      | some r => s.swapMemOp o v r
      | none =>
        (((s.endMemOp o).debugRecord (.mem o.pasid o.addr) 1 o.handle o.party).syncFault Code.syncUnderflow (syncObject (.mem o.pasid o.addr)) (syncWaiter o.handle o.party)
          ).answerSync o.party Code.syncUnderflow v
    | .swapping old new =>
      if v = old then
        (((s.endMemOp o).syncRecord (.mem o.pasid o.addr) 1 o.handle o.party).evalWord (.mem o.pasid o.addr) new
          ).answerSync o.party Code.ok old
      else s.startMemOp o
    | .resolving old new =>
      if v = old then s.swapMemOp o old new
      else
        let s := if v = new then s else s.inDoubt o
        (((s.endMemOp o).syncRecord (.mem o.pasid o.addr) 1 o.handle o.party).evalWord (.mem o.pasid o.addr) new
          ).answerSync o.party Code.ok old

/-! ## Waits -/

/-- Whether a wait is on a word, and not on the release of a barrier. -/
def SyncWait.onWord (w : SyncWait) : Bool := match w.word with | .barrier _ => false | _ => true

/-- Wait entries in use (R332). -/
def SyncUnit.entries (y : SyncUnit) : Nat := y.waits.countP fun w => w.registered && w.onWord

/-- Whether a wait finds an entry, and for a memory word a watch slot (R332, R333). -/
def SyncUnit.room (y : SyncUnit) (w : SyncWait) : Bool :=
  decide (y.entries < 16384) &&
  match w.word with
  | .mem p a => (y.watches.any fun e => e.2.pasid == p && e.2.addr == a) || decide (y.watches.length < 4096)
  | _ => true

/-- Whether a wait on a word has arrived and has no entry yet (R332). -/
def SyncWait.late (w : SyncWait) : Bool := !w.registered && !w.held && w.onWord

/-- The oldest wait without an entry that finds room now (R332): one on a Sync SRAM word does not stay behind one that lacks a
watch slot. -/
def SyncUnit.oldestLate (y : SyncUnit) : Option SyncWait := y.waits.find? fun w => w.late && y.room w

/-- The watch slots once a wait shares or takes one (R333). -/
def SyncUnit.watch (y : SyncUnit) (w : SyncWait) : SyncUnit :=
  match w.word with
  | .mem p a =>
    if y.watches.any fun e => e.2.pasid == p && e.2.addr == a then
      { y with watches := tmap y.watches fun _ x =>
          if x.pasid = p ∧ x.addr = a then { x with periodUs := min x.periodUs w.pollUs } else x }
    else
      match lowest 4096 fun i => (tget y.watches i).isNone with
      | some i =>
        let slot : Watch := ⟨p, w.partition, a, w.pollUs, none, false⟩
        { y with watches := tset y.watches i slot }
      | none => y
  | _ => y

/-- An unregistered wait takes its entry (R332, R333); a wait on a Sync SRAM word that already holds is satisfied. -/
def State.registerWait (s : State) (ident : Nat) : State :=
  match s.sync.waits.find? fun w => w.ident == ident with
  | none => s
  | some w =>
    if w.registered ∨ ¬s.sync.room w then s
    else
      let s := { s with sync := SyncUnit.watch { s.sync with waits := s.sync.waits.map fun x =>
        if x.ident = ident then { x with registered := true } else x } w }
      match w.word with
      | .sram i =>
        if syncHolds w.op (s.word i) w.value w.mask then
          ({ s with sync := { s.sync with waits := s.sync.waits.filter fun x => x.ident != ident } }).satisfy w (s.word i)
        else s
      | _ => s

/-- A wait that has arrived registers, unless it finds no room, or an earlier one could take it (R332). -/
def State.enter (s : State) (ident : Nat) : State :=
  match s.sync.oldestLate with
  | some w => if w.ident = ident then s.registerWait ident else s
  | none => s

/-- A wait arrives at the Sync Unit (R332). -/
def State.addWait (s : State) (w : SyncWait) : State :=
  let ident := s.sync.nextWait
  State.enter { s with sync := { s.sync with
    waits := s.sync.waits ++ [{ w with ident := ident, registered := false, held := false }], nextWait := ident + 1 } } ident

/-- The wait of a command that has been parsed and has not begun: it expires already (R336). -/
def State.holdWait (s : State) (w : SyncWait) : State :=
  { s with sync := { s.sync with
      waits := s.sync.waits ++ [{ w with ident := s.sync.nextWait, registered := false, held := true }]
      nextWait := s.sync.nextWait + 1 } }

/-- The wait of a command that begins arrives. -/
def SyncUnit.arrive (y : SyncUnit) (p : SyncParty) : SyncUnit :=
  match takeFirst (fun w => w.party == p) y.waits with
  | some (w, rest) => { y with waits := rest ++ [{ w with held := false }] }
  | none => y

/-! ## Commands of the Sync Unit -/

/-- SYN_WINDOW_WRITE (R329): a host write of 8 bytes sets a Sync SRAM word, for the driver. -/
def State.synWindow (s : State) (i : Nat) (v : W64) : State := (s.setWord i v 0 .host 0)

/-- DBG_SYNC_GO (R359): the debugger's SET or ADD with the values in the DBG registers; ignored while GO is 1. -/
def State.debugGo (s : State) : State :=
  if s.dbg.syncCtrl.getLsbD 31 then s
  else
    let s := { s with dbg := { s.dbg with syncCtrl := s.dbg.syncCtrl ||| 0x80000000 } }
    let add := s.dbg.syncCtrl.getLsbD 1
    if s.dbg.syncCtrl.getLsbD 0 then
      s.memOp add (bits s.dbg.syncPasid.toNat 19 0) none s.dbg.syncAddr s.dbg.syncValue 0 .debugger
    else s.sramOp add (bits s.dbg.syncIndex.toNat 14 0) s.dbg.syncValue 0 .debugger

/-- MEMORY_SYNC_RESPONSE (R328): a response for a memory-word SET or ADD. -/
def execMemorySyncResponse (opId : Nat) (answer : Option W64) (s : State) : Host.Outcome State Fault Refusal :=
  match s.answered (.syncOp opId), s.sync.memOps.find? fun o => o.ident == opId with
  | some (_, t), some o => done s (t.memOpResponse o answer).settled
  | some (_, t), none => done s t
  | none, _ => late s (.syncOp opId)

/-- The watch slot due at a time: the one due longest, the lower slot number on a tie (R334). -/
def SyncUnit.due (y : SyncUnit) (now : Nat) : Option Nat :=
  let at_ (x : Watch) : Nat := match x.lastPoll with | some t => t + 1000 * x.periodUs | none => 0
  let ready := y.watches.filter fun e => !e.2.polling && decide (at_ e.2 ≤ now)
  (ready.foldl (fun b e => match b with
    | none => some (e.1, at_ e.2)
    | some (i, t) => if at_ e.2 < t then some (e.1, at_ e.2) else some (i, t)) none).map Prod.fst

/-- WATCH_POLL (R334): the oldest due watch slot is polled with an 8-byte read. -/
def execWatchPoll (s : State) : Host.Outcome State Fault Refusal :=
  match s.sync.due s.now with
  | none => skip s
  | some i =>
    match tget s.sync.watches i with
    | none => skip s
    | some x =>
      let x' := { x with polling := true }
      let t := { s with sync := { s.sync with watches := tset s.sync.watches i x' } }
      done s (t.readMem (.watchPoll i) x.pasid x.partition x.addr 8 false)

/-- Every registered wait on a memory word fails with a memory error (R221, R331, R340). -/
def State.failWatch (s : State) (pasid : Nat) (addr : W64) : State :=
  let hit (w : SyncWait) : Bool := w.registered && w.word == .mem pasid addr
  let hits := s.sync.waits.filter hit
  let s := { s with sync := SyncUnit.prune { s.sync with waits := s.sync.waits.filter fun w => !hit w } }
  hits.foldl (fun s w => (s.syncFault Code.memoryError (syncObject w.word) (syncWaiter w.handle w.party)).answerSync w.party
    Code.memoryError 0) s

/-- WATCH_POLL_RETURN (R334): the polled value is evaluated against the slot's waits, if the slot still holds the address that
was polled; an error response is context-fatal (R150) for the PASID of the poll. -/
def execWatchPollReturn (slot : Nat) (answer : Option W64) (s : State) : Host.Outcome State Fault Refusal :=
  match s.answered (.watchPoll slot) with
  | none => late s (.watchPoll slot)
  | some (r, t) =>
    let t := match tget t.sync.watches slot with
      | some x =>
        if x.pasid = r.pasid ∧ x.addr = r.addr then
          let t := { t with sync := { t.sync with watches := tset t.sync.watches slot { x with polling := false, lastPoll := some t.now } } }
          match answer with
          | some v => t.evalWord (.mem x.pasid x.addr) v
          | none => t.failWatch x.pasid x.addr
        else t
      | none => t
    done s (if answer.isNone then t.pasidFault r.pasid Code.memoryError else t).settled

/-- SYNC_WAIT_LATE_REGISTER (R332): the oldest unregistered wait takes a freed entry or watch slot. -/
def execSyncWaitLateRegister (s : State) : Host.Outcome State Fault Refusal :=
  match s.sync.oldestLate with
  | none => skip s
  | some w => done s (s.registerWait w.ident).settled

/-- DBG_SYNC_FAULT_COUNT_READ clears the count, so that the next record replaces the latched one (R360). -/
def Dbg.clearSyncFaults (d : Dbg) : Dbg := { d with syncFaults := 0 }

end Sys2Proof.Machine
end

