-- ==== Sys2Proof/Machine/Registers.lean ====
section
/-! DEFINITION. The registers of the control aperture (R15, R526, R528): what each reads as, and what a write to it does. -/

namespace Sys2Proof.Machine

open Sys2Proof

/-! ## Behaviour behind writes -/

/-- DUC_CTRL.TRACE_EN written (R50, R60, R62). -/
def State.setTraceEn (s : State) (en : Bool) : State :=
  if en && !s.trace.en then
    State.timeSync { s with trace := { s.trace with en := true, idle := false, second := s.now / second } }
  else { s with trace := { s.trace with en := en } }

/-- A write to DUC_CTRL (R36, R62). -/
def State.writeDucCtrl (s : State) (v : Nat) : State :=
  let s := State.setTraceEn { s with trace := { s.trace with wrap := bit v 2 } } (bit v 1)
  if bit v 0 then s.arm else s

/-- The boot load starts: HCLK with it (R437). -/
def State.startLoad (s : State) : State :=
  { s with cpb := { s.cpb with state := .checking, start := true }, power := { s.power with hclk := true } }

/-- START in OPEN or FAILED (R437). -/
def State.startFrom (s : State) : State :=
  if s.cpb.henpenLen = 0 then { s with cpb := { s.cpb with lastStatus := Code.notReady, start := false } }
  else s.startLoad

/-- CPB_BOOT_CTRL.START set (R437). -/
def State.cpbStart (s : State) : State :=
  match s.cpb.state with
  | .waitKeys => { s with cpb := { s.cpb with start := true } }
  | .opened => s.startFrom
  | .failed => s.startFrom
  | .checking => s
  | .running => s

/-- A CFG_SEAL write (R452, R453): the checks run on a snapshot of the stored tables. -/
def State.sealWrite (s : State) (v : W32) : State :=
  if s.cfg.check.isSome || s.cfg.state == .training || s.cfg.state == .sealed || s.cfg.state == .halted then s
  else { s with cfg := { s.cfg with check := some { value := v, tables := s.cfg.tables, changed := none } } }

/-- A write to FLT_RESET (R474, R488). -/
def State.fltReset (s : State) (v : Nat) : State :=
  if bits v 15 0 = 0x5752 ∧ bit v 16 then { s with mgmt := { s.mgmt with warmReset := true } } else s

/-- A write to MIR_CTRL (R490). -/
def State.mirCtrl (s : State) (v : Nat) : State :=
  let s := if bit v 0 then { s with mir := { s.mir with failoverSource := false } } else s
  let s := if bit v 1 ∧ s.mir.role = .detached then { s with mir := { s.mir with role := .syncing } } else s
  if bit v 2 ∧ bits v 31 16 = 0x4852 ∧ (s.mir.role = .yielded ∨ s.mir.role = .detached) then s.mirHubResetState else s

/-- A write to DBG_QSTOP_CTRL: the count starts from K as ENABLE rises (R295). -/
def Dbg.setQCtrl (d : Dbg) (v : Nat) : Dbg :=
  let w := BitVec.ofNat 32 v &&& 0x800FFFFF
  { d with qCtrl := w, qLeft := if w.getLsbD 31 && !d.qCtrl.getLsbD 31 then d.qCount else d.qLeft }

/-- A write to DBG_NSTOP_CTRL (R295). -/
def Dbg.setNCtrl (d : Dbg) (v : Nat) : Dbg :=
  let w := BitVec.ofNat 32 v &&& 0x800000FF
  { d with nCtrl := w, nLeft := if w.getLsbD 31 && !d.nCtrl.getLsbD 31 then d.nCount else d.nLeft }

/-- A write to DBG_QSTOP_COUNT (R295, R297). -/
def Dbg.setQCount (d : Dbg) (v : Nat) : Dbg :=
  if v = 0 then d
  else { d with qCount := BitVec.ofNat 32 v, qLeft := if d.qCtrl.getLsbD 31 then BitVec.ofNat 32 v else d.qLeft }

/-- A write to DBG_NSTOP_COUNT (R295, R297). -/
def Dbg.setNCount (d : Dbg) (v : Nat) : Dbg :=
  if v = 0 then d
  else { d with nCount := BitVec.ofNat 32 v, nLeft := if d.nCtrl.getLsbD 31 then BitVec.ofNat 32 v else d.nLeft }

/-- A write to DBG_RESUME (R295). -/
def Dbg.resume (d : Dbg) (v : Nat) : Dbg :=
  let d := if bit v 0 then
      { d with stops := d.stops &&& 0xFFFFFFFE, qLeft := if d.qCtrl.getLsbD 31 then d.qCount else d.qLeft } else d
  if bit v 1 then
    { d with stops := d.stops &&& 0xFFFFFFFD, nLeft := if d.nCtrl.getLsbD 31 then d.nCount else d.nLeft } else d

/-- A write to FEED_TRIM of a group (R393, R401). -/
def State.writeTrim (s : State) (g v : Nat) : State :=
  if bits v 3 0 ≤ 12 then (s.modRail g fun r => { r with trimWanted := bits v 3 0 }).stepRail g else s

/-- A write to FEED_QE_SEL (R401). -/
def State.writeQeSel (s : State) (v : Nat) : State :=
  { s with feed := { s.feed with qeSel := BitVec.ofNat 32 (bits v 19 0), qeReady := false } }

/-! ## Writes -/

/-- A 32-bit write to an IGA register (R416). -/
def State.writeIga (s : State) (off v : Nat) : State :=
  let w := BitVec.ofNat 32 v
  if off = 0 then { s with iga := { s.iga with compat := bit v 0 } }
  else if off = 0x10 then { s with iga := { s.iga with sw := s.iga.sw ||| BitVec.ofNat 16 v } }
  else if off = 0x14 then { s with iga := { s.iga with sw := s.iga.sw &&& ~~~(BitVec.ofNat 16 v) } }
  else if 0x1000 ≤ off ∧ off < 0x2FF0 then
    let n := (off - 0x1000) / 8
    let c := s.iga.cfgOf n
    let c' : SrcCfg := if off % 8 = 0 then { c with priority := bits v 3 0 } else { c with targets := w }
    { s with iga := { s.iga with cfg := if c' = ⟨0, 0⟩ then tdel s.iga.cfg n else tset s.iga.cfg n c' } }
  else if 0x4000 ≤ off ∧ off < 0x4200 then
    let t := (off - 0x4000) / 0x10
    if off % 0x10 = 0 then
      let th := if bits v 3 0 = 0 then tdel s.iga.thresholds t else tset s.iga.thresholds t (bits v 3 0)
      { s with iga := { s.iga with thresholds := th } }
    else if off % 0x10 = 8 then { s with iga := s.iga.complete (bits v 9 0) t }
    else s
  else s

/-- A 32-bit write to a DUC register (R60, R61). -/
def State.writeDuc (s : State) (off v : Nat) : State :=
  let w := BitVec.ofNat 32 v
  let d := s.ductus
  let t := s.trace
  match off with
  | 0x08 => { s with ductus := { d with load := BitVec.ofNat 64 (d.load.toNat / 2 ^ 32 * 2 ^ 32 + v % 2 ^ 32) } }
  | 0x0C => { s with ductus := { d with load := BitVec.ofNat 64 (d.load.toNat % 2 ^ 32 + v % 2 ^ 32 * 2 ^ 32) } }
  | 0x10 => s.writeDucCtrl v
  | 0x14 => { s with ductus := { d with
        loadRefused := d.loadRefused && !bit v 2
        epochMissed := d.epochMissed && !bit v 3
        offsetBad := d.offsetBad && !bit v 4 } }
  | 0x20 => if t.en then s else
      { s with trace := { t with base := BitVec.ofNat 64 (t.base.toNat / 2 ^ 32 * 2 ^ 32 + v % 2 ^ 32 / 4096 * 4096) } }
  | 0x24 => if t.en then s else
      { s with trace := { t with base := BitVec.ofNat 64 (t.base.toNat % 2 ^ 32 + v % 2 ^ 32 * 2 ^ 32) } }
  | 0x28 => if t.en ∨ bits v 4 0 < 16 ∨ 30 < bits v 4 0 then s else { s with trace := { t with log2 := bits v 4 0 } }
  | 0x30 => { s with trace := { t with rd := w } }
  | 0x34 => { s with trace := { t with mask := w &&& 0x7FF } }
  | 0x38 => if bits v 8 0 = 0 ∨ 256 < bits v 8 0 then s else { s with trace := { t with rate := w &&& 0x1FF } }
  | 0x40 => if t.en then s else { s with trace := { t with pasid := w &&& 0xFFFFF } }
  | 0x44 => { s with trace := { t with mopSel := w &&& 0xF1FFF } }
  | _ => s

/-- A 32-bit write to a FEED register (R400). -/
def State.writeFeed (s : State) (off v : Nat) : State :=
  let f := s.feed
  if off = 0 then { s with feed := { f with ctrl := BitVec.ofNat 32 v &&& 0xF } }
  else if off = 4 then { s with feed := { f with
      capExceeded := f.capExceeded && !bit v 9
      trimExhausted := f.trimExhausted && !bit v 10
      calClamped := f.calClamped && !bit v 11
      senseMissed := f.senseMissed && !bit v 12 } }
  else if off = 0x10 then { s with feed := { f with hostLimit := BitVec.ofNat 32 v } }
  else if 0x100 ≤ off ∧ off < 0x140 then s.writeTrim ((off - 0x100) / 4) v
  else if off = 0x200 then { s with feed := { f with partSel := BitVec.ofNat 32 (bits v 5 0) } }
  else if off = 0x300 then s.writeQeSel v
  else s

/-- A 32-bit write to an FLT register (R487, R488); a fatal bit of FLT_DEVICE stays. -/
def State.writeFlt (s : State) (off v : Nat) : State :=
  let w := BitVec.ofNat 32 v
  let f := s.flt
  match off with
  | 0x00 => { s with flt := { f with en := bit v 0 } }
  | 0x04 => { s with flt := { f with device := f.device &&& ~~~(w &&& 0x18) } }
  | 0x08 => s.fltReset v
  | 0x18 => if f.en ∨ bits v 4 0 < 12 ∨ 24 < bits v 4 0 then s else { s with flt := { f with log2 := bits v 4 0 } }
  | 0x1C => if f.en then s else { s with flt := { f with pasid := w &&& 0xFFFFF } }
  | 0x24 => { s with flt := { f with rd := w } }
  | _ => s

/-- A 32-bit write to a CFG register (R463). -/
def State.writeCfg (s : State) (off v : Nat) : State :=
  let w := BitVec.ofNat 32 v
  let c := s.cfg
  match off with
  | 0x04 => s.sealWrite w
  | 0x08 =>
    let s := { s with cfg := { c with launchEn := bit v 0 } }
    if bit v 0 || s.feed.halt then s else s.withholdAll none
  | 0x20 => if v ≤ 1000000 then { s with cfg := { c with dozeUs := w } } else s
  | 0x24 => if v ≤ 1000000 then { s with cfg := { c with sleepUs := w } } else s
  | 0x28 => if v ≤ 1000000 then { s with cfg := { c with nibOffUs := w } } else s
  | 0x100 => { s with cfg := { c with capSel := w &&& 0xFFF } }
  | _ => s

/-- A 32-bit write to a CPB register; all are ignored in RUNNING (R437, R440). -/
def State.writeCpb (s : State) (off v : Nat) : State :=
  let w := BitVec.ofNat 32 v
  let c := s.cpb
  if c.state = .running then s
  else match off with
    | 0x00 => if bit v 0 then s.cpbStart else s
    | 0x08 => { s with cpb := { c with henpenOffset := w &&& 0xFFF00 } }
    | 0x0C => if v ≤ 196864 then { s with cpb := { c with henpenLen := w } } else s
    | 0x10 => { s with cpb := { c with patchOffset := w &&& 0xFFF00 } }
    | 0x14 => if v ≤ 49984 then { s with cpb := { c with patchLen := w } } else s
    | _ => s

/-- A 32-bit write to a DBG register (R297, R360, R361). -/
def State.writeDbg (s : State) (off v : Nat) : State :=
  let w := BitVec.ofNat 32 v
  let d := s.dbg
  match off with
  | 0x00 => { s with dbg := d.setQCtrl v }
  | 0x04 => { s with dbg := d.setQCount v }
  | 0x10 => { s with dbg := d.setNCtrl v }
  | 0x14 => { s with dbg := d.setNCount v }
  | 0x24 => { s with dbg := d.resume v }
  | 0x100 =>
    let s := { s with dbg := { d with syncCtrl := (d.syncCtrl &&& 0x80000000) ||| (w &&& 3) } }
    if bit v 31 then s.debugGo else s
  | 0x104 => { s with dbg := { d with syncIndex := w &&& 0x7FFF } }
  | 0x108 => { s with dbg := { d with syncPasid := w &&& 0xFFFFF } }
  | _ => s

/-- A 32-bit write to an MBX register (R87). -/
def State.writeMbx (s : State) (agent off v : Nat) : State :=
  if off < 0x400 then s.mbxWrite agent (off / 0x40) (off % 0x40) v
  else if off = 0x400 then s.forceFree (bits v 3 0)
  else s

/-- A 32-bit write to a register of width 32, under its access code (R15). -/
def State.write32 (s : State) (agent off v : Nat) : State :=
  let o := off % 0x10000
  match off / 0x10000 with
  | 1 => s.writeMbx agent o v
  | 2 => s.writeIga o v
  | 3 => s.writeDuc o v
  | 4 => s.writeFeed o v
  | 5 => s.writeFlt o v
  | 6 => s.writeCfg o v
  | 7 => s.writeCpb o v
  | 8 => if o = 4 ∧ s.build.mirrored then s.mirCtrl v else s
  | 9 => s.writeDbg o v
  | _ => s

/-- A write of a 64-bit register, whole (R69). -/
def State.write64 (s : State) (off : Nat) (v : W64) : State :=
  match off with
  | 0x50010 => if s.flt.en then s else { s with flt := { s.flt with base := v &&& 0xFFFFFFFFFFFFF000 } }
  | 0x90110 => { s with dbg := { s.dbg with syncAddr := v &&& 0xFFFFFFFFFFFFFFF8 } }
  | 0x90118 => { s with dbg := { s.dbg with syncValue := v } }
  | _ => s

/-! ## Reads -/

/-- STATE of CFG_STATUS (R116, R464). -/
def CfgState.code : CfgState → Nat
  | .training => 0 | .ready => 1 | .incomplete => 2 | .sealed => 3 | .sealBroken => 4 | .halted => 5

/-- STATE of CPB_BOOT_STATUS (R441). -/
def BootState.code : BootState → Nat
  | .waitKeys => 0 | .opened => 1 | .checking => 2 | .running => 3 | .failed => 4

/-- ROLE of MIR_STATUS (R490). -/
def Role.code : Role → Nat
  | .single => 0 | .syncing => 1 | .following => 2 | .claiming => 3 | .primaryMirrored => 4 | .primaryAlone => 5
  | .yielded => 6 | .detached => 7

/-- A number of which bit i is set where the i-th test holds. -/
def bitmap (n : Nat) (f : Nat → Bool) : Nat := (List.range n).foldl (fun m i => m + if f i then 2 ^ i else 0) 0

/-- IDN registers (R72 to R75, R79). -/
def State.readIdn (s : State) (off : Nat) : Nat :=
  let b := s.build
  match off with
  | 0x000 => 0x04020000
  | 0x004 => 0x5741
  | 0x008 => 0x5334
  | 0x00C => b.hubPos
  | 0x010 => b.nibs + 2 ^ 9 * b.splitters + 2 ^ 15 * b2n b.mirrored + 2 ^ 16 * b.stitchers + 2 ^ 21 * b.engineQueues
  | 0x014 => b.hclkMax + 2 ^ 12 * b.nclkMax
  | 0x018 => b.buildId.toNat
  | 0x01C => s.mgmt.fwVersion.toNat
  | 0x100 => s.htp.discards.toNat
  | 0x104 => s.htp.lastBad.toNat
  | 0x108 => s.bells.drops.toNat
  | 0x10C => s.bells.lastDrop.toNat
  | _ => 0

/-- IGA registers (R416, R417). -/
def State.readIga (s : State) (off : Nat) : Nat :=
  let g := s.iga
  if off = 0 then b2n g.compat
  else if off = 4 then g.stray.toNat
  else if off = 8 then g.strayLast.toNat
  else if off = 0x10 ∨ off = 0x14 then g.sw.toNat
  else if 0x100 ≤ off ∧ off < 0x180 then bitmap 32 fun b => g.levels.contains ((off - 0x100) / 4 * 32 + b)
  else if 0x180 ≤ off ∧ off < 0x200 then
    bitmap 32 fun b => match g.stateOf ((off - 0x180) / 4 * 32 + b) with | .inService _ => true | _ => false
  else if 0x1000 ≤ off ∧ off < 0x3000 then
    let c := g.cfgOf ((off - 0x1000) / 8)
    if off % 8 = 0 then c.priority else c.targets.toNat
  else if 0x4000 ≤ off ∧ off < 0x4200 then
    let t := (off - 0x4000) / 0x10
    if off % 0x10 = 0 then tgetD g.thresholds t 0
    else if off % 0x10 = 4 then g.claimValue t
    else if off % 0x10 = 0xC then b2n (g.out t) + 2 * b2n (g.withdrawn.contains t)
    else 0
  else 0

/-- DUC registers (R61 to R66). -/
def State.readDuc (s : State) (agent off : Nat) : Nat :=
  let d := s.ductus
  let t := s.trace
  match off with
  | 0x00 => s.now % 2 ^ 32
  | 0x04 => (tgetD d.hiLatch agent 0).toNat
  | 0x08 => d.load.toNat % 2 ^ 32
  | 0x0C => d.load.toNat / 2 ^ 32
  | 0x10 => b2n (d.epoch == .armed) + 2 * b2n t.en + 4 * b2n t.wrap
  | 0x14 => d.epoch.code + 4 * b2n d.loadRefused + 8 * b2n d.epochMissed + 16 * b2n d.offsetBad
      + 32 * b2n (d.slew != 0) + 64 * b2n (t.idle && !t.en) + 128 * b2n t.full
  | 0x18 => d.offset.toNat
  | 0x1C => d.edges.toNat
  | 0x20 => t.base.toNat % 2 ^ 32
  | 0x24 => t.base.toNat / 2 ^ 32
  | 0x28 => t.log2
  | 0x2C => t.wr.toNat
  | 0x30 => t.rd.toNat
  | 0x34 => t.mask.toNat
  | 0x38 => t.rate.toNat
  | 0x3C => t.drop.toNat
  | 0x40 => t.pasid.toNat
  | 0x44 => t.mopSel.toNat
  | 0x48 => d.alignWorst.toNat
  | 0x4C => d.alignFaults.toNat
  | _ => 0

/-- FEED registers of width 32 (R400, R401). -/
def State.readFeed (s : State) (off : Nat) : Nat :=
  let f := s.feed
  let sel := f.partSel.toNat
  if off = 0 then f.ctrl.toNat
  else if off = 4 then f.mask + 2 ^ 8 * b2n f.halt + 2 ^ 9 * b2n f.capExceeded + 2 ^ 10 * b2n f.trimExhausted
    + 2 ^ 11 * b2n f.calClamped + 2 ^ 12 * b2n f.senseMissed
  else if off = 8 then (s.live.limits.map FeedLimits.peakCapW).getD 0
  else if off = 0xC then (s.live.limits.map FeedLimits.sustainedCapW).getD 0
  else if off = 0x10 then f.hostLimit.toNat
  else if off = 0x14 then s.feedWatts.1
  else if off = 0x18 then s.feedWatts.2.1
  else if off = 0x1C then s.feedWatts.2.2
  else if off = 0x20 then f.wakes.length
  else if off = 0x24 then s.lentWatts
  else if 0x80 ≤ off ∧ off < 0xC0 then
    match f.rails[(off - 0x80) / 4]? with | some r => s.railReg r | none => 0
  else if 0xC0 ≤ off ∧ off < 0x100 then
    match f.rails[(off - 0xC0) / 4]? with | some r => r.corr + 2 ^ 16 * r.corrCount | none => 0
  else if 0x100 ≤ off ∧ off < 0x140 then
    match f.rails[(off - 0x100) / 4]? with | some r => r.trimWanted | none => 0
  else if off = 0x200 then sel
  else if off = 0x204 then match tget s.parts sel with | some x => s.partState sel x | none => 0
  else if off = 0x208 then match tget s.parts sel with | some x => s.partBudget x | none => 0
  else if off = 0x300 then f.qeSel.toNat + 2 ^ 31 * b2n f.qeReady
  else 0

/-- FLT registers of width 32 (R487). -/
def State.readFlt (s : State) (off : Nat) : Nat :=
  let f := s.flt
  match off with
  | 0x00 => b2n f.en
  | 0x04 => f.device.toNat
  | 0x18 => f.log2
  | 0x1C => f.pasid.toNat
  | 0x20 => f.wr.toNat
  | 0x24 => f.rd.toNat
  | 0x28 => f.lost.toNat
  | 0x2C => f.held.length
  | 0x30 => f.stale.toNat
  | _ => 0

/-- The ports that CFG_CAP_SEL selects: the Nib where it is present, and the selected core's queues (R464). -/
def State.capSelected (s : State) : Option (Nib × Option (List Nat × List Nat)) :=
  match s.nibs[bits s.cfg.capSel.toNat 7 0]? with
  | some b => if b.present then some (b, b.ports[bits s.cfg.capSel.toNat 11 8]?) else none
  | none => none

/-- CFG registers of width 32 (R463, R464). -/
def State.readCfg (s : State) (off : Nat) : Nat :=
  let c := s.cfg
  if off = 0 then c.state.code + 8 * b2n c.ready + 16 * b2n c.check.isSome + 32 * b2n s.launchHeld
    + 2 ^ 16 * c.firstFail.toNat
  else if off = 8 then b2n c.launchEn
  else if off = 0xC then c.detail.toNat
  else if off = 0x10 then (if s.live.sealed then s.live.sealCrc.toNat else 0)
  else if off = 0x14 then c.breaks.toNat
  else if off = 0x20 then c.dozeUs.toNat
  else if off = 0x24 then c.sleepUs.toNat
  else if off = 0x28 then c.nibOffUs.toNat
  else if 0x40 ≤ off ∧ off < 0x60 then bitmap 32 fun b =>
    match s.nibs[(off - 0x40) / 4 * 32 + b]? with | some n => n.present | none => false
  else if off = 0x60 then bitmap 32 fun b => match s.splitters[b]? with | some x => x.link == .up | none => false
  else if off = 0x100 then c.capSel.toNat
  else if off = 0x104 then
    match s.capSelected with
    | some (b, core) => 1 + 2 * b.ports.length + 2 ^ 6 * (core.map fun p => p.2.length).getD 0 + 2 ^ 11 * b.die
        + 2 ^ 18 * b2n ((core.map fun p => p.2.any (· == 7)).getD false)
    | none => 0
  else if 0x108 ≤ off ∧ off < 0x114 then
    match s.capSelected with
    | some (_, some p) => total ((List.range 8).map fun b => p.2.getD ((off - 0x108) / 4 * 8 + b) 0 * 2 ^ (4 * b))
    | _ => 0
  else 0

/-- CPB registers of width 32 (R440, R441). -/
def State.readCpb (s : State) (off : Nat) : Nat :=
  let c := s.cpb
  match off with
  | 0x00 => b2n c.start
  | 0x04 => c.state.code + 8 * b2n c.patchLoaded + 2 ^ 16 * c.lastStatus.toNat
  | 0x08 => c.henpenOffset.toNat
  | 0x0C => c.henpenLen.toNat
  | 0x10 => c.patchOffset.toNat
  | 0x14 => c.patchLen.toNat
  | 0x18 => c.detail.toNat
  | 0x1C => c.keyCounter.toNat
  | 0x20 => c.patchInfo.toNat
  | 0x24 => c.patchRollback.toNat
  | 0x28 => c.henpenRollback.toNat
  | 0x2C => c.eccCorrected.toNat
  | 0x30 => c.mcodeFault.toNat + bitmap 8 fun d => match s.dmes[d]? with | some x => x.stopped | none => false
  | _ => 0

/-- MIR registers of width 32; all but ROLE read 0 in a build without mirroring (R489, R490). -/
def State.readMir (s : State) (off : Nat) : Nat :=
  let m := s.mir
  if ¬s.build.mirrored then 0
  else match off with
    | 0x00 => m.role.code + 8 * b2n m.partnerOk + 16 * b2n m.mismatch + 2 ^ 8 * m.cause
    | 0x08 => m.failovers.toNat
    | 0x0C => m.benign.toNat
    | 0x18 => m.interruptNs.toNat
    | 0x1C => (m.sent - m.acked) % 65536
    | 0x20 => m.inDoubt.toNat
    | _ => 0

/-- DBG registers of width 32 (R297, R360). -/
def State.readDbg (s : State) (off : Nat) : Nat :=
  let d := s.dbg
  match off with
  | 0x00 => d.qCtrl.toNat
  | 0x04 => d.qCount.toNat
  | 0x08 => d.qLeft.toNat
  | 0x10 => d.nCtrl.toNat
  | 0x14 => d.nCount.toNat
  | 0x18 => d.nLeft.toNat
  | 0x20 => d.stops.toNat
  | 0x38 => d.nfSource.toNat
  | 0x3C => d.nfCount.toNat
  | 0x100 => d.syncCtrl.toNat
  | 0x104 => d.syncIndex.toNat
  | 0x108 => d.syncPasid.toNat
  | 0x120 => d.syncResult.toNat
  | 0x148 => d.syncFaults.toNat
  | _ => 0

/-- MBX registers (R87). -/
def State.readMbx (s : State) (off : Nat) : Nat :=
  if off < 0x400 then
    match s.mbx.boxes[off / 0x40]? with | some b => b.reg (off % 0x40) | none => 0
  else if off = 0x404 then s.mbx.discards.toNat
  else if off = 0x408 then s.mbx.inkDiscards.toNat
  else 0

/-- What a register of width 32 reads as, before any effect of the read. -/
def State.reg32 (s : State) (agent off : Nat) : Nat :=
  let o := off % 0x10000
  match off / 0x10000 with
  | 0 => s.readIdn o
  | 1 => s.readMbx o
  | 2 => s.readIga o
  | 3 => s.readDuc agent o
  | 4 => s.readFeed o
  | 5 => s.readFlt o
  | 6 => s.readCfg o
  | 7 => s.readCpb o
  | 8 => s.readMir o
  | 9 => s.readDbg o
  | _ => 0

/-- What a register of width 64 reads as; none where no such register begins at the offset. -/
def State.reg64 (s : State) (off : Nat) : Option Nat :=
  let sel := tget s.parts s.feed.partSel.toNat
  if off % 8 ≠ 0 then none
  else if 0x40040 ≤ off ∧ off < 0x40080 then some (s.feed.reasonNs.getD ((off - 0x40040) / 8) 0).toNat
  else if off = 0x40210 then some ((sel.map fun x => x.energyUj % 2 ^ 64).getD 0)
  else if off = 0x40218 then some ((sel.map fun x => x.purlUj % 2 ^ 64).getD 0)
  else if 0x40240 ≤ off ∧ off < 0x40280 then
    some ((sel.map fun x => x.reasonNs.getD ((off - 0x40240) / 8) 0).getD 0)
  else if off = 0x40308 then some s.feed.qeUj.toNat
  else if off = 0x50010 then some s.flt.base.toNat
  else if off = 0x60018 then some s.cfg.holdNs.toNat
  else if 0x70040 ≤ off ∧ off < 0x70070 then some (bits s.cpb.patchDigest.toNat ((off - 0x70040) * 8 + 63) ((off - 0x70040) * 8))
  else if 0x70100 ≤ off ∧ off < 0x70300 then
    some (match tget s.cpb.matchRegs ((off - 0x70100) / 8) with
      | some m => m.copybook + 2 ^ 16 * m.margin + 2 ^ 63
      | none => 0)
  else if off = 0x80010 then some (if s.build.mirrored then s.mir.lastFailover.toNat else 0)
  else if off = 0x90030 then some s.dbg.nfStamp.toNat
  else if off = 0x90110 then some s.dbg.syncAddr.toNat
  else if off = 0x90118 then some s.dbg.syncValue.toNat
  else if off = 0x90128 then some s.dbg.syncOld.toNat
  else if off = 0x90130 then some (s.dbg.syncFault.toNat % 2 ^ 64)
  else if off = 0x90138 then some (s.dbg.syncFault.toNat / 2 ^ 64)
  else if off = 0x90140 then some s.dbg.syncFaultStamp.toNat
  else none

/-- The effect of a 32-bit read: RC counters clear, a time read latches, a claim claims (R15, R66, R298, R360, R407). -/
def State.readEffect (s : State) (agent off : Nat) : State :=
  match off with
  | 0x00100 => { s with htp := { s.htp with discards := 0 } }
  | 0x00108 => { s with bells := { s.bells with drops := 0 } }
  | 0x10404 => { s with mbx := { s.mbx with discards := 0 } }
  | 0x10408 => { s with mbx := { s.mbx with inkDiscards := 0 } }
  | 0x20004 => { s with iga := { s.iga with stray := 0 } }
  | 0x30000 => { s with ductus := { s.ductus with
      hiLatch := tset s.ductus.hiLatch agent (BitVec.ofNat 32 (s.now / 2 ^ 32)) } }
  | 0x3003C => { s with trace := { s.trace with drop := 0 } }
  | 0x3004C => { s with ductus := { s.ductus with alignFaults := 0 } }
  | 0x50028 => { s with flt := { s.flt with lost := 0 } }
  | 0x50030 => { s with flt := { s.flt with stale := 0 } }
  | 0x60014 => { s with cfg := { s.cfg with breaks := 0 } }
  | 0x7002C => { s with cpb := { s.cpb with eccCorrected := 0 } }
  | 0x80008 => { s with mir := { s.mir with failovers := 0 } }
  | 0x8000C => { s with mir := { s.mir with benign := 0 } }
  | 0x80020 => { s with mir := { s.mir with inDoubt := 0 } }
  | 0x9003C => { s with dbg := { s.dbg with nfCount := 0 } }
  | 0x90148 => { s with dbg := s.dbg.clearSyncFaults }
  | _ =>
    if 0x24004 ≤ off ∧ off < 0x24200 ∧ off % 0x10 = 4 then (s.claim ((off - 0x24000) / 0x10)).2 else s

/-! ## Which offsets are assigned -/

/-- Whether a 4-byte word of the register blocks belongs to an assigned register (R14, R528). -/
def assignedWord (off : Nat) : Bool :=
  let o := off % 0x10000
  let upTo (a b : Nat) : Bool := decide (a ≤ o) && decide (o < b)
  match off / 0x10000 with
  | 0 => upTo 0 0x20 || upTo 0x100 0x110
  | 1 => (decide (o < 0x400) && decide (o % 0x40 < 0x24)) || upTo 0x400 0x40C || upTo 0x1000 0x2000
  | 2 => upTo 0 0xC || upTo 0x10 0x18 || upTo 0x100 0x200 || upTo 0x1000 0x3000 || upTo 0x4000 0x4200
  | 3 => upTo 0 0x50
  | 4 => upTo 0 0x28 || upTo 0x40 0x140 || upTo 0x200 0x20C || upTo 0x210 0x220 || upTo 0x240 0x280 || upTo 0x300 0x304
      || upTo 0x308 0x310
  | 5 => upTo 0 0xC || upTo 0x10 0x34
  | 6 => upTo 0 0x2C || upTo 0x40 0x64 || upTo 0x100 0x114
  | 7 => upTo 0 0x34 || upTo 0x40 0x70 || upTo 0x100 0x300
  | 8 => upTo 0 0x24
  | 9 => upTo 0 0xC || upTo 0x10 0x1C || upTo 0x20 0x28 || upTo 0x30 0x40 || upTo 0x100 0x10C || upTo 0x110 0x124
      || upTo 0x128 0x14C
  | _ => false

/-- Whether a byte of the control aperture is assigned (R14, R526). -/
def assignedByte (off : Nat) : Bool :=
  if off < 0xA0000 then assignedWord (off / 4 * 4)
  else decide (0x100000 ≤ off) && decide (off < 0x240000)

end Sys2Proof.Machine
end

