-- ==== Sys2Proof/Machine/HostPort.lean ====
section
/-! DEFINITION. The Host Target Port (03): which accesses it accepts, holds or refuses, its latches and staged halves, and
what a Hub that is not primary does with an access (R481). Every command of a host access is one call of `hostAccess`
(log 6). -/

namespace Sys2Proof.Machine

open Sys2Proof

/-- Bytes of an access by HREQ_SIZE (R498). -/
def accessBytes : Nat → Option Nat
  | 2 => some 4 | 3 => some 8 | 4 => some 16 | 5 => some 32 | 6 => some 64 | _ => none

/-- The write data of an access: byte lanes from its offset mod 64 on (R498). -/
def HtpAccess.bytes (a : HtpAccess) (n : Nat) : List Byte :=
  (List.range n).map fun i => BitVec.ofNat 8 (a.data.toNat / 2 ^ (8 * ((a.offset + i) % 64)))

/-- Bytes in the lanes of an offset (R498). -/
def inLanes (offset : Nat) (l : List Byte) : BitVec 512 := BitVec.ofNat 512 (leNat l * 2 ^ (8 * (offset % 64)))

/-- Whether R67 accepts an access of `n` bytes at an offset. -/
def accepted (offset n : Nat) : Bool :=
  offset % n == 0 &&
  if 0x11000 ≤ offset ∧ offset < 0x12000 then true
  else if offset < 0x100000 then n == 4 || n == 8
  else if offset < 0x200000 then true
  else n == 8

/-- A read's response (R498). -/
def State.respond (s : State) (a : HtpAccess) (err : Bool) (data : BitVec 512) : State :=
  { s with htp := { s.htp with resp := some { agent := a.agent, err := err, data := data } } }

/-- An access refused (R68): counted and recorded; a read is answered 0 with the error response. -/
def State.refuse (s : State) (a : HtpAccess) : State :=
  let s := { s with htp := { s.htp with
    discards := sat32 s.htp.discards 1
    lastBad := BitVec.ofNat 32 (a.offset % 2 ^ 24 + 2 ^ 24 * (a.agent % 16) + 2 ^ 28 * b2n a.write) } }
  if a.write then s else s.respond a true 0

/-! ## Reads -/

/-- A 32-bit read of an assigned register or of unassigned space (R14, R69): its value and the state after its effect. -/
def State.read32 (s : State) (agent off : Nat) : Nat × State :=
  match s.reg64 off with
  | some v =>
    (v % 2 ^ 32, { s with htp := { s.htp with
      latches := tset s.htp.latches agent { offset := off, high := BitVec.ofNat 32 (v / 2 ^ 32) } } })
  | none =>
    match s.reg64 (off - 4) with
    | some _ =>
      (match tget s.htp.latches agent with
        | some l => if l.offset = off - 4 then l.high.toNat else 0
        | none => 0, s)
    | none => if assignedByte off then (s.reg32 agent off, s.readEffect agent off) else (0, s)

/-- A read of register space of 4 or 8 bytes. An 8-byte read of DUC_TIME changes no latch (R66); of two other registers of
width 32 it is two reads, the low one first (log 127). -/
def State.readRegs (s : State) (agent off n : Nat) : Nat × State :=
  if n = 4 then s.read32 agent off
  else match s.reg64 off with
    | some v => (v, s)
    | none =>
      if off = 0x30000 then (s.now, s)
      else
        let lo := s.read32 agent off
        let hi := lo.2.read32 agent (off + 4)
        (lo.1 + 2 ^ 32 * hi.1, hi.2)

/-- An accepted read (R67). -/
def State.serveRead (s : State) (a : HtpAccess) (n : Nat) : State :=
  let off := a.offset
  if 0x11000 ≤ off ∧ off < 0x12000 then
    s.respond a false (inLanes off (s.mbxDataRead a.agent (off - 0x11000) n))
  else if off < 0x100000 then
    let r := s.readRegs a.agent off n
    r.2.respond a false (inLanes off (leBytes n r.1))
  else if off < 0x200000 then s.respond a false (inLanes off (s.inkRead a.agent (off - 0x100000) n))
  else s.respond a false (inLanes off (leBytes 8 (s.word ((off - 0x200000) / 8)).toNat))

/-! ## Writes -/

/-- A 32-bit write in register space: the halves of a 64-bit register are staged and committed (R69). -/
def State.write32Staged (s : State) (agent off v : Nat) : State :=
  let w := BitVec.ofNat 32 v
  match s.reg64 off with
  | some _ =>
    let rest := s.htp.staged.filter fun x => !(x.agent == agent && x.offset == off)
    { s with htp := { s.htp with staged := ⟨agent, off, w⟩ :: rest } }
  | none =>
    match s.reg64 (off - 4) with
    | some cur =>
      let mine (x : StagedLow) : Bool := x.agent == agent && x.offset == off - 4
      let low := match s.htp.staged.find? mine with | some x => x.low.toNat | none => cur % 2 ^ 32
      State.write64 { s with htp := { s.htp with staged := s.htp.staged.filter fun x => !mine x } } (off - 4)
        (BitVec.ofNat 64 (low + 2 ^ 32 * (v % 2 ^ 32)))
    | none => s.write32 agent off v

/-- A write of register space of 4 or 8 bytes. A whole write of a 64-bit register is a commit (log 24); an 8-byte access to two
registers of width 32 is two accesses of 4 bytes, the low one first, each with its effect (log 127). -/
def State.writeRegs (s : State) (agent off n v : Nat) : State :=
  if n = 4 then s.write32Staged agent off (v % 2 ^ 32)
  else match s.reg64 off with
    | some _ =>
      let rest := s.htp.staged.filter fun x => !(x.agent == agent && x.offset == off)
      State.write64 { s with htp := { s.htp with staged := rest } } off (BitVec.ofNat 64 v)
    | none => (s.write32Staged agent off (v % 2 ^ 32)).write32Staged agent (off + 4) (v / 2 ^ 32)

/-- An accepted write (R67). -/
def State.serveWrite (s : State) (a : HtpAccess) (n : Nat) : State :=
  let off := a.offset
  let data := a.bytes n
  if 0x11000 ≤ off ∧ off < 0x12000 then s.mbxDataWrite a.agent (off - 0x11000) data
  else if off < 0x100000 then s.writeRegs a.agent off n (leNat data)
  else if off < 0x200000 then s.inkWrite a.agent (off - 0x100000) data
  else s.synWindow ((off - 0x200000) / 8) (BitVec.ofNat 64 (leNat data))

/-! ## A Hub that is not primary -/

/-- Registers whose RW write has a behaviour that waits until the Hub is primary (R481): DUC_CTRL, FEED_TRIM,
FEED_QE_SEL and the stop controls. -/
def deferredOffset (off : Nat) : Bool :=
  off == 0x30010 || (decide (0x40100 ≤ off) && decide (off < 0x40140)) || off == 0x40300 ||
  off == 0x90000 || off == 0x90004 || off == 0x90010 || off == 0x90014

/-- Registers whose writes a Hub that is not primary discards without counting (R481). -/
def discardedOffset (off : Nat) : Bool :=
  off == 0x30008 || off == 0x3000C || off == 0x60004 || off == 0x20010 || off == 0x20014 || off == 0x90024 ||
  (decide (0x24000 ≤ off) && decide (off < 0x24200) && off % 0x10 == 8)

/-- A write access to register space on a Hub that is not primary (R481): what is left of each 4-byte half of it. -/
def State.followerHalf (s : State) (agent off v : Nat) : State :=
  if discardedOffset off then s
  else if deferredOffset off then
    let a : HtpAccess := { agent := agent, write := true, offset := off, size := 2,
                           data := inLanes off (leBytes 4 (if off = 0x30010 then v / 2 * 2 else v)) }
    { s with htp := { s.htp with mirrorHeld := s.htp.mirrorHeld ++ [a] } }
  else if off = 0x90100 then s.write32Staged agent off (v % 2 ^ 31)
  else s.write32Staged agent off v

/-- An accepted access on a Hub that is not primary (R481). -/
def State.serveFollower (s : State) (a : HtpAccess) (n : Nat) : State :=
  let blk := a.offset / 0x10000
  let none_ := if a.write then s else s.respond a false 0
  if blk = 0 ∨ blk = 5 ∨ blk = 8 then (if a.write then s.serveWrite a n else s.serveRead a n)
  else if blk = 7 ∨ (0x10 ≤ blk ∧ blk < 0x20) then
    if s.cpb.state = .running then none_ else if a.write then s.serveWrite a n else s.serveRead a n
  else if blk = 1 ∨ 0x20 ≤ blk then none_
  else if a.write then
    let v := leNat (a.bytes n)
    if n = 4 then s.followerHalf a.agent a.offset v
    else match s.reg64 a.offset with
      | some _ => s.serveWrite a n
      | none => (s.followerHalf a.agent a.offset (v % 2 ^ 32)).followerHalf a.agent (a.offset + 4) (v / 2 ^ 32)
  else if 0x24000 ≤ a.offset ∧ a.offset < 0x24200 ∧ a.offset % 0x10 < 8 ∧ 4 < a.offset % 0x10 + n then
    let v := if n = 4 then 0x3FF else (s.reg32 a.agent a.offset) + 2 ^ 32 * 0x3FF
    (s.claimNothing ((a.offset - 0x24000) / 0x10)).respond a false (inLanes a.offset (leBytes n v))
  else s.serveRead a n

/-! ## The port -/

/-- A control-aperture access that the HTP serves now (R14, R67, R68). -/
def State.serveAccess (s : State) (a : HtpAccess) : State :=
  match accessBytes a.size with
  | none => s.refuse a
  | some n =>
    if (List.range n).all fun i => !assignedByte (a.offset + i) then (if a.write then s else s.respond a false 0)
    else if ¬accepted a.offset n then s.refuse a
    else if ¬s.primary then s.serveFollower a n
    else if a.write then s.serveWrite a n
    else s.serveRead a n

/-- A control-aperture access (R70, R71, R443): held before REFCLK_OK; in DOZE and SLEEP an access outside IDN waits for
HCLK, and so does one behind it of the same agent; otherwise served. -/
def State.hostAccess (s : State) (a : HtpAccess) : State :=
  if ¬s.ductus.refOk ∨ s.power.testMode then { s with htp := { s.htp with waiting := s.htp.waiting ++ [a] } }
  else if ¬s.awake ∧ (0x10000 ≤ a.offset ∨ s.htp.held.any fun b => b.agent == a.agent) then
    { s with htp := { s.htp with held := s.htp.held ++ [a] } }
  else s.serveAccess a

/-- The command of a host access. -/
def hostDone (s : State) (a : HtpAccess) : Host.Outcome State Fault Refusal := done s (s.hostAccess a).settled

/-- A 32-bit write access. -/
def write4 (agent off : Nat) (v : W32) : HtpAccess :=
  { agent := agent, write := true, offset := off, size := 2, data := inLanes off (leBytes 4 v.toNat) }

/-- A 32-bit read access. -/
def read4 (agent off : Nat) : HtpAccess := { agent := agent, write := false, offset := off, size := 2, data := 0 }

/-! ## Commands -/

/-- CONTROL_REGISTER_WRITE (R15). -/
def execControlRegisterWrite (agent offset size : Nat) (data : BitVec 512) (s : State) :
    Host.Outcome State Fault Refusal := hostDone s ⟨agent, true, offset, size, data⟩

/-- HTP_REFUSED_ACCESS (R68). -/
def execHtpRefusedAccess (agent : Nat) (write : Bool) (offset size : Nat) (data : BitVec 512) (s : State) :
    Host.Outcome State Fault Refusal := hostDone s ⟨agent, write, offset, size, data⟩

/-- LOW_HALF_READ (R69). -/
def execLowHalfRead (agent offset : Nat) (s : State) : Host.Outcome State Fault Refusal := hostDone s (read4 agent offset)

/-- DUC_TIME_LO_READ (R66). -/
def execDucTimeLoRead (agent : Nat) (s : State) : Host.Outcome State Fault Refusal := hostDone s (read4 agent 0x30000)

/-- READ_CLEAR_REGISTER (R15). -/
def execReadClearRegister (agent offset : Nat) (s : State) : Host.Outcome State Fault Refusal :=
  hostDone s (read4 agent offset)

/-- MBX_ACQUIRE (R81). -/
def execMbxAcquire (agent n : Nat) (value : W32) (s : State) : Host.Outcome State Fault Refusal :=
  hostDone s (write4 agent (0x10004 + n % 16 * 0x40) value)

/-- MBX_RELEASE (R83). -/
def execMbxRelease (agent n : Nat) (value : W32) (s : State) : Host.Outcome State Fault Refusal :=
  hostDone s (write4 agent (0x10008 + n % 16 * 0x40) value)

/-- MBX_DOORBELL (R83). -/
def execMbxDoorbell (agent n : Nat) (value : W32) (s : State) : Host.Outcome State Fault Refusal :=
  hostDone s (write4 agent (0x1000C + n % 16 * 0x40) value)

/-- MBX_ACK (R83). -/
def execMbxAck (agent n : Nat) (value : W32) (s : State) : Host.Outcome State Fault Refusal :=
  hostDone s (write4 agent (0x10014 + n % 16 * 0x40) value)

/-- MBX_FORCE_FREE (R83). -/
def execMbxForceFree (agent : Nat) (value : W32) (s : State) : Host.Outcome State Fault Refusal :=
  hostDone s (write4 agent 0x10400 value)

/-- MBX_INK_WRITE (R90). -/
def execMbxInkWrite (agent n : Nat) (value : W32) (s : State) : Host.Outcome State Fault Refusal :=
  hostDone s (write4 agent (0x1001C + n % 16 * 0x40) value)

/-- MBX_DATA_WRITE (R82): at an offset from the first mailbox buffer. -/
def execMbxDataWrite (agent offset size : Nat) (data : BitVec 512) (s : State) : Host.Outcome State Fault Refusal :=
  hostDone s ⟨agent, true, 0x11000 + offset % 0x1000, size, data⟩

/-- INKWELL_HOST_WRITE (R94): at an offset from the start of Inkwell. -/
def execInkwellHostWrite (agent offset size : Nat) (data : BitVec 512) (s : State) : Host.Outcome State Fault Refusal :=
  hostDone s ⟨agent, true, 0x100000 + offset % 0x100000, size, data⟩

/-- SYN_WINDOW_WRITE (R329). -/
def execSynWindowWrite (agent index : Nat) (value : W64) (s : State) : Host.Outcome State Fault Refusal :=
  let off := 0x200000 + index % 32768 * 8
  hostDone s ⟨agent, true, off, 3, inLanes off (leBytes 8 value.toNat)⟩

/-- DUC_ARM_WRITE (R36). -/
def execDucArmWrite (agent : Nat) (value : W32) (s : State) : Host.Outcome State Fault Refusal :=
  hostDone s (write4 agent 0x30010 value)

/-- DUC_TRACE_ENABLE (R50). -/
def execDucTraceEnable (agent : Nat) (value : W32) (s : State) : Host.Outcome State Fault Refusal :=
  hostDone s (write4 agent 0x30010 value)

/-- DUC_TRACE_DISABLE (R60). -/
def execDucTraceDisable (agent : Nat) (value : W32) (s : State) : Host.Outcome State Fault Refusal :=
  hostDone s (write4 agent 0x30010 value)

/-- CFG_SEAL_WRITE (R452). -/
def execCfgSealWrite (agent : Nat) (value : W32) (s : State) : Host.Outcome State Fault Refusal :=
  hostDone s (write4 agent 0x60004 value)

/-- CFG_LAUNCH_EN_WRITE (R459). -/
def execCfgLaunchEnWrite (agent : Nat) (value : W32) (s : State) : Host.Outcome State Fault Refusal :=
  hostDone s (write4 agent 0x60008 value)

/-- CPB_START (R437). -/
def execCpbStart (agent : Nat) (value : W32) (s : State) : Host.Outcome State Fault Refusal :=
  hostDone s (write4 agent 0x70000 value)

/-- FLT_RESET_WRITE (R474). -/
def execFltResetWrite (agent : Nat) (value : W32) (s : State) : Host.Outcome State Fault Refusal :=
  hostDone s (write4 agent 0x50008 value)

/-- MIR_FAILOVER_ACK (R490). -/
def execMirFailoverAck (agent : Nat) (value : W32) (s : State) : Host.Outcome State Fault Refusal :=
  hostDone s (write4 agent 0x80004 value)

/-- MIR_REJOIN (R490). -/
def execMirRejoin (agent : Nat) (value : W32) (s : State) : Host.Outcome State Fault Refusal :=
  hostDone s (write4 agent 0x80004 value)

/-- MIR_HUB_RESET (R490). -/
def execMirHubReset (agent : Nat) (value : W32) (s : State) : Host.Outcome State Fault Refusal :=
  hostDone s (write4 agent 0x80004 value)

/-- Offset of a stop-count register (R297). -/
def stopOffset : StopReg → Nat
  | .qCtrl => 0x90000 | .qCount => 0x90004 | .nCtrl => 0x90010 | .nCount => 0x90014

/-- DBG_STOP_ARM (R295). -/
def execDbgStopArm (agent : Nat) (reg : StopReg) (value : W32) (s : State) : Host.Outcome State Fault Refusal :=
  hostDone s (write4 agent (stopOffset reg) value)

/-- DBG_RESUME (R295). -/
def execDbgResume (agent : Nat) (value : W32) (s : State) : Host.Outcome State Fault Refusal :=
  hostDone s (write4 agent 0x90024 value)

/-- STOP_COUNT_REACHED (R295): an armed count has run out; the queue or Nib stops. -/
def execStopCountReached (nibStop : Bool) (s : State) : Host.Outcome State Fault Refusal :=
  let d := s.dbg
  if nibStop then
    if d.nCtrl.getLsbD 31 ∧ d.nCount ≠ 0 ∧ d.nLeft = 0 ∧ ¬d.stops.getLsbD 1 then
      done s { s with dbg := { d with stops := d.stops ||| 2, stopNib := bits d.nCtrl.toNat 7 0 } }
    else skip s
  else if d.qCtrl.getLsbD 31 ∧ d.qCount ≠ 0 ∧ d.qLeft = 0 ∧ ¬d.stops.getLsbD 0 then
    done s (State.latchQueue { s with dbg := { d with stops := d.stops ||| 1, stopQueue := bits d.qCtrl.toNat 19 0 } } (bits d.qCtrl.toNat 19 0)
      fun m => { m with stopCount := true })
  else skip s

/-- DBG_SYNC_GO (R359). -/
def execDbgSyncGo (agent : Nat) (value : W32) (s : State) : Host.Outcome State Fault Refusal :=
  hostDone s (write4 agent 0x90100 value)

/-- DBG_NF_COUNT_READ (R298). -/
def execDbgNfCountRead (agent : Nat) (s : State) : Host.Outcome State Fault Refusal := hostDone s (read4 agent 0x9003C)

/-- DBG_SYNC_FAULT_COUNT_READ (R360). -/
def execDbgSyncFaultCountRead (agent : Nat) (s : State) : Host.Outcome State Fault Refusal :=
  hostDone s (read4 agent 0x90148)

/-- IGA_CLAIM (R407). -/
def execIgaClaim (agent target : Nat) (s : State) : Host.Outcome State Fault Refusal :=
  hostDone s (read4 agent (0x24004 + target % 32 * 0x10))

/-- IGA_COMPLETE (R408). -/
def execIgaComplete (agent target : Nat) (value : W32) (s : State) : Host.Outcome State Fault Refusal :=
  hostDone s (write4 agent (0x24008 + target % 32 * 0x10) value)

/-- IGA_SW_SET (R402). -/
def execIgaSwSet (agent : Nat) (value : W32) (s : State) : Host.Outcome State Fault Refusal :=
  hostDone s (write4 agent 0x20010 value)

/-- IGA_SW_CLR (R402). -/
def execIgaSwClr (agent : Nat) (value : W32) (s : State) : Host.Outcome State Fault Refusal :=
  hostDone s (write4 agent 0x20014 value)

/-- FEED_QE_SEL_WRITE (R401). -/
def execFeedQeSelWrite (agent : Nat) (value : W32) (s : State) : Host.Outcome State Fault Refusal :=
  hostDone s (write4 agent 0x40300 value)

/-- QUEUE_ENERGY_READY (R401): FEED_QE_UJ takes the selected queue's counter, or 0. -/
def execQueueEnergyReady (s : State) : Host.Outcome State Fault Refusal :=
  if s.feed.qeReady then skip s
  else
    let v := match tget s.queues s.feed.qeSel.toNat with | some x => x.energyUj | none => 0
    done s { s with feed := { s.feed with qeUj := BitVec.ofNat 64 v, qeReady := true } }

/-- FEED_TRIM_WRITE (R393). -/
def execFeedTrimWrite (agent group : Nat) (value : W32) (s : State) : Host.Outcome State Fault Refusal :=
  hostDone s (write4 agent (0x40100 + group % 16 * 4) value)

/-! ## Doorbells -/

/-- A doorbell dropped (R78, R79). -/
def State.dropDoorbell (s : State) (page index reason : Nat) : State :=
  { s with bells := { s.bells with
      drops := sat32 s.bells.drops 1
      lastDrop := BitVec.ofNat 32 (page + 2 ^ 14 * index + 2 ^ 24 * reason) } }

/-- A well-formed doorbell of a bound page is latched (R80): replaced in place, or last in the catcher; none where the
catcher is full. -/
def Bells.latch (b : Bells) (d : Doorbell) : Option Bells :=
  if b.catcher.any fun e => e.page == d.page && e.index == d.index then
    some { b with catcher := b.catcher.map fun e => if e.page = d.page ∧ e.index = d.index then d else e }
  else if b.catcher.length < 4096 then some { b with catcher := b.catcher ++ [d] }
  else none

/-- A well-formed doorbell write reaches the catcher: dropped as UNBOUND, latched, or held while the catcher is full
(R78, R80). -/
def State.catchDoorbell (s : State) (page index : Nat) (tail : W32) : State :=
  match tget s.bells.binds page with
  | none => s.dropDoorbell page index 0
  | some h =>
    let d : Doorbell := { page := page, index := index, tail := tail, handle := h, stamp := s.aoNow, ao := !s.awake,
                          traced := s.trace.admits 0x01 false }
    match s.bells.latch d with
    | some b => { s with bells := b }
    | none => { s with bells := { s.bells with held := s.bells.held ++ [⟨page, index, tail, true⟩] } }

/-- A doorbell write reaches the catcher, which looks at its shape first (R78). -/
def State.takeDoorbell (s : State) (d : HeldDoorbell) : State :=
  if d.formed then s.catchDoorbell d.page d.index d.tail else s.dropDoorbell d.page d.index 1

/-- Whether a doorbell write leaves the channel now: the catcher drops it, replaces an entry with it, or has room (R78,
R80). -/
def Bells.clears (b : Bells) (d : HeldDoorbell) : Bool :=
  !d.formed || (tget b.binds d.page).isNone || decide (b.catcher.length < 4096) ||
    b.catcher.any fun e => e.page == d.page && e.index == d.index

/-- Doorbell writes that back-pressure has held reach the catcher in order, each as soon as it can (R80). -/
def State.catchHeld : Nat → State → State
  | 0, s => s
  | fuel + 1, s =>
    match s.bells.held with
    | [] => s
    | d :: rest =>
      if s.bells.clears d then State.catchHeld fuel (State.takeDoorbell { s with bells := { s.bells with held := rest } } d)
      else s

/-- DOORBELL_WRITE (R77, R78, R80): HDB_SIZE 4 B or 8 B at a multiple of 8, [63:32] zero. Writes behind a held one wait
with it on the doorbell channel; before REFCLK_OK all are held (R443). -/
def execDoorbellWrite (offset size : Nat) (data : W64) (s : State) : Host.Outcome State Fault Refusal :=
  let page := offset / 4096 % 16384
  let index := offset % 4096 / 8
  let high := if size = 2 then 0 else data.toNat / 2 ^ 32
  let formed : Bool := (size == 2 || size == 3) && offset % 8 == 0 && high == 0
  let d : HeldDoorbell := ⟨page, index, data.setWidth 32, formed⟩
  if ¬s.ductus.refOk ∨ s.power.testMode ∨ s.bells.held ≠ [] then
    done s { s with bells := { s.bells with held := s.bells.held ++ [d] } }
  else done s (s.takeDoorbell d)

end Sys2Proof.Machine
end

