-- ==== Sys2Proof/Machine/Queue.lean ====
section
/-! DEFINITION. The Queue Engine (06): resident records and paging, doorbells and tails, read-ahead, the checks of ring
entries, and arbitration. -/

namespace Sys2Proof.Machine

open Sys2Proof

/-! ## Reading ahead -/

/-- Address of the ring entry at an index (R169). -/
def Queue.entryAddr (x : Queue) (i : W32) : W64 := x.ringBase + BitVec.ofNat 64 (i.toNat % 2 ^ x.ringLog2 * 64)

/-- The entries from FETCH up to the tail are read, at most 64 beyond FETCH, in bursts of up to 16 that do not run past
the ring's end (R172). -/
def State.readAheadN : Nat → State → Nat → State
  | 0, s, _ => s
  | fuel + 1, s, q =>
    match tget s.queues q, s.ctxOfQueue q with
    | some x, some (_, c) =>
      let want := min (x.tail - x.fetch).toNat 64
      if x.ra.length < want ∧ x.enabled ∧ ¬x.faulted ∧ c.served then
        let i := x.fetch + BitVec.ofNat 32 x.ra.length
        let n := min (min 16 (want - x.ra.length)) (2 ^ x.ringLog2 - i.toNat % 2 ^ x.ringLog2)
        let s := s.readMem (.ringEntry q) c.pasid c.partition (x.entryAddr i) (64 * n) false
        State.readAheadN fuel (s.modQueue q fun x => { x with ra := x.ra ++ List.replicate n .reading }) q
      else s
    | _, _ => s

/-- Read-ahead of a queue (R172): at most 4 bursts and one split at the ring's end. -/
def State.readAhead (s : State) (q : Nat) : State := State.readAheadN 8 s q

/-! ## The tail (R174, R175) -/

/-- The tail word is read under the context's PASID (R175). -/
def State.readTail (s : State) (q : Nat) : State :=
  match tget s.queues q, s.ctxOfQueue q with
  | some x, some (_, c) =>
    if c.served then
      let p := x.tailProc.map fun p => { p with reading := true }
      (s.readMem (.tailWord q) c.pasid c.partition x.tailAddr 8 false).modQueue q fun x => { x with tailProc := p }
    else s
  | _, _ => s

/-- The tail procedure for a doorbell tail (R175): it begins, or replaces D and counts reads afresh. A faulted queue
fetches nothing more (R190), and the Hub owns a device producer's tail (R181). -/
def State.bell (s : State) (q : Nat) (d : W32) : State :=
  match tget s.queues q with
  | none => s
  | some x =>
    if x.faulted ∨ ¬x.enabled ∨ x.device then s
    else match x.tailProc with
      | some p => s.modQueue q fun x => { x with tailProc := some { p with d := d, reads := 0 } }
      | none => (s.modQueue q fun x => { x with tailProc := some ⟨d, 0, false, 0⟩ }).readTail q

/-- Whether a tail word is accepted (R174). -/
def Queue.tailOk (x : Queue) (w : W64) : Bool :=
  let t : W32 := w.setWidth 32
  w.toNat / 2 ^ 32 == 0 && decide ((x.fetch - x.head).toNat ≤ (t - x.head).toNat) &&
    decide ((t - x.head).toNat ≤ 2 ^ x.ringLog2)

/-- A tail word that fails the check (R174): nothing read ahead stays, and the queue but the admin queue faults at the
fence of the first unfetched submission (R190). -/
def State.tailInvalid (s : State) (q : Nat) : State :=
  match tget s.queues q with
  | none => s
  | some x =>
    ((s.recordFault unitQe Code.tailInvalid q).modQueue q Queue.discardRa).faultQueue q
      (x.seq + BitVec.ofNat 64 (x.subs.length + 1)) Code.tailInvalid

/-- A tail word returns for the procedure `p` (R174, R175). -/
def State.tailReturned (s : State) (q : Nat) (x : Queue) (p : TailProc) (w : W64) : State :=
  if ¬x.tailOk w then s.tailInvalid q
  else
    let t : W32 := w.setWidth 32
    let reads := p.reads + 1
    let exceeds : Bool := decide (2 ^ x.ringLog2 < (p.d - x.fetch).toNat) || decide ((p.d - x.fetch).toNat ≤ (t - x.fetch).toNat)
    let lag : Bool := !exceeds && reads == 8
    let next : Option TailProc := if exceeds || lag then none else some ⟨p.d, reads, false, s.now⟩
    let s := (s.modQueue q fun x => { x with tail := t, tailProc := next }).readAhead q
    if lag then s.recordFault unitQe Code.tailLag (q + 2 ^ 20 * p.d.toNat + 2 ^ 52 * t.toNat) else s

/-- TAIL_WORD_RETURN (R174, R175): the tail word, or a memory error, which is context-fatal (R150). -/
def execTailWordReturn (q : Nat) (word : Option W64) (s : State) : Host.Outcome State Fault Refusal :=
  match s.answered (.tailWord q) with
  | none => late s (.tailWord q)
  | some (r, t) =>
    match word, tget t.queues q with
    | none, some x =>
      let t := t.modQueue q fun y =>
        if x.tailDrop = 0 then { y with tailProc := none } else { y with tailDrop := x.tailDrop - 1 }
      done s (t.pasidFault r.pasid Code.memoryError).settled
    | some w, some x =>
      if 0 < x.tailDrop then done s (t.modQueue q fun x => { x with tailDrop := x.tailDrop - 1 })
      else match x.tailProc with
        | some p => done s (t.tailReturned q x p w).settled
        | none => done s t
    | _, none => done s t

/-- TAIL_REREAD (R175): 1 µs after the last read returned. -/
def execTailReread (q : Nat) (s : State) : Host.Outcome State Fault Refusal :=
  match (tget s.queues q).bind Queue.tailProc with
  | some p => if !p.reading && decide (p.returned + 1000 ≤ s.now) then done s (s.readTail q) else skip s
  | none => skip s

/-! ## Resident records (R166 to R168) -/

/-- The queue that a QUEUE_* command in progress names (R112, R166). -/
def Prog.queue (p : Prog) : Option Nat :=
  let command := le p.request 0 2
  if 0x302 ≤ command ∧ command ≤ 0x305 then some (le p.request 0x20 4) else none

/-- Whether a fetch of a queue is in progress (R166): a read of its tail word, its entries or its bytes, the tail procedure, a
scan, or a chain that only waits for its grant. -/
def State.fetching (s : State) (q : Nat) (x : Queue) : Bool :=
  s.waitsFor (.tailWord q) || s.waitsFor (.ringEntry q) || s.waitsFor (.commandBytes q) || x.tailProc.isSome || !x.scans.isEmpty ||
    (x.enabled && !x.faulted && (chainAt (q == 0) x.ra).isSome)

/-- Whether a resident record is pinned (R166). -/
def State.pinned (s : State) (q : Nat) : Bool :=
  q == 0 || (s.mgmt.progs.any fun p => p.queue == some q) ||
    match tget s.queues q with
    | some x => !x.subs.isEmpty || x.parked || x.wbFlight || x.wbPending || s.fetching q x
    | none => true

/-- Resident states in use: held or being filled. -/
def State.residentUsed (s : State) : Nat := s.qe.resident.length + s.qe.loads.length

/-- Address of a queue's record in the queue table (R164). -/
def State.recordAddr (s : State) (q : Nat) : W64 := s.mgmt.queueBase + BitVec.ofNat 64 (q * Config.queueRecordBytes)

/-- A record's read begins (R168); `d` is the tail of the doorbell that asked, if one did. -/
def State.loadRecord (s : State) (q : Nat) (d : Option W32) : State :=
  ({ s with qe := { s.qe with loads := tset s.qe.loads q d } }).readMem (.queueRecord q) 0 none (s.recordAddr q)
    Config.queueRecordBytes true

/-- The oldest doorbells of the paging list ask for their records while states are free (R168). -/
def State.pageInN : Nat → State → State
  | 0, s => s
  | fuel + 1, s =>
    match s.qe.paging with
    | (q, d) :: rest =>
      if s.residentUsed < 8192 then
        let t : State := { s with qe := { s.qe with paging := rest } }
        State.pageInN fuel (match tget t.queues q with
          | some x =>
            if x.resident then t.bell q d
            else if (tget t.qe.loads q).isSome then { t with qe := { t.qe with loads := tset t.qe.loads q (some d) } }
            else t.loadRecord q (some d)
          | none => t)
      else s
    | [] => s

/-- Resident states that are free are filled from the paging list, in list order (R168). -/
def State.pageIn (s : State) : State := State.pageInN s.qe.paging.length s

/-- Resident queues that a DME serves (R179). -/
def State.dmeLoad (s : State) (d : Nat) : Nat := s.queues.countP fun e => e.2.resident && e.2.dme == d

/-- The DME that a queue becoming resident gets (R179). -/
def State.pickDme (s : State) : Nat :=
  (List.range 8).foldl (fun b d => if s.dmeLoad d < s.dmeLoad b then d else b) 0

/-- A record becomes resident (R168, R179). -/
def State.makeResident (s : State) (q : Nat) : State :=
  let d := s.pickDme
  let s := s.modQueue q fun x => { x with resident := true, loading := false, dme := d }
  { s with qe := { s.qe with resident := s.qe.resident ++ [q], loads := tdel s.qe.loads q } }

/-- A doorbell, or another need, for a queue (R168): its record is used, read, or waits in the paging list. -/
def State.needRecord (s : State) (q : Nat) (d : W32) : State :=
  match tget s.queues q with
  | none => s
  | some x =>
    if x.resident then s.bell q d
    else if (tget s.qe.loads q).isSome then { s with qe := { s.qe with loads := tset s.qe.loads q (some d) } }
    else if s.residentUsed < 8192 ∧ s.qe.paging.isEmpty then s.loadRecord q (some d)
    else { s with qe := { s.qe with paging := s.qe.paging ++ [(q, d)] } }

/-- DOORBELL_TAKE (R78, R168, R175): the oldest catcher entry, unless HCLK is stopped, this Hub does not serve, the device
is halted (R394) or restarting, or the paging list is full. The record of a doorbell carries its latch stamp, and was generated
then if its category was enabled (R45, R60). -/
def execDoorbellTake (s : State) : Host.Outcome State Fault Refusal :=
  match s.bells.catcher with
  | [] => skip s
  | e :: rest =>
    if s.awake ∧ s.primary ∧ ¬s.feed.halt ∧ ¬s.mgmt.warmReset ∧ s.qe.paging.length < 256 then
      let t : State := { s with bells := { s.bells with catcher := rest } }
      let t := State.catchHeld t.bells.held.length t
      if tget s.bells.binds e.page ≠ some e.handle then done s (t.dropDoorbell e.page e.index 3)
      else
        match s.queues.find? fun x => x.2.dbPage == e.page && x.2.dbIndex == e.index && x.2.handle == e.handle with
        | none => done s (t.dropDoorbell e.page e.index 2)
        | some (q, x) =>
          if ¬x.enabled then done s (t.dropDoorbell e.page e.index 4)
          else
            let t := t.recordWhen (t.trace.en && e.traced) unitQe 0x01 e.stamp (q + 2 ^ 20 * (e.tail.toNat % 2 ^ 28)) false e.ao
            if x.device then done s t
            else done s ((t.modQueue q fun x => { x with lastBell := e.stamp }).needRecord q e.tail).settled
    else skip s

/-- QUEUE_RECORD_LOADED (R168, R179). -/
def execQueueRecordLoaded (q : Nat) (s : State) : Host.Outcome State Fault Refusal :=
  match s.answered (.queueRecord q), tget s.qe.loads q with
  | some (_, t), some d =>
    let t := t.makeResident q
    match d with
    | some d => done s ((t.bell q d).readAhead q)
    | none => done s (t.readAhead q)
  | some (_, t), none => done s t
  | none, _ => late s (.queueRecord q)

/-- The evictable record with the oldest last doorbell, the lower queue ID on equal age (R167). -/
def State.evictable (s : State) : Option Nat :=
  (s.queues.foldl (fun (b : Option (Nat × Nat)) e =>
    if e.2.resident && !s.pinned e.1 then
      match b with
      | some (_, t) => if e.2.lastBell < t then some (e.1, e.2.lastBell) else b
      | none => some (e.1, e.2.lastBell)
    else b) none).map Prod.fst

/-- The fields of a queue's record as it is written back, in the order of R163. -/
def Queue.recordFields (x : Queue) (q : Nat) : List Nat :=
  [ q, x.handle.toNat, x.cls, b2n x.kernel, b2n x.device, x.weight, x.timeoutUs, x.ringBase.toNat, x.ringLog2, x.tailAddr.toNat
  , x.wbAddr.toNat, x.irqSource, b2n x.irqEn, x.dbPage, x.dbIndex, x.head.toNat, x.fetch.toNat, x.tail.toNat, x.seq.toNat
  , unsignedOf 32 x.deficit ] ++
  (match x.error with | some (f, code) => [1, code.toNat, f.toNat] | none => [0, 0, 0]) ++
  [ b2n x.enabled, b2n x.parked, b2n x.faulted ]

/-- QUEUE_EVICTION (R167): the record is written back, and its state is free for the paging list. -/
def execQueueEviction (s : State) : Host.Outcome State Fault Refusal :=
  if 8176 < s.residentUsed then
    match s.evictable with
    | none => skip s
    | some q =>
      let t := s.modQueue q fun x => { x.discardRa with resident := false }
      let t : State := { t with qe := { t.qe with resident := t.qe.resident.filter (· != q) } }
      let fields := match tget s.queues q with | some x => x.recordFields q | none => []
      let record := padTo Config.queueRecordBytes (Config.queueRecord fields)
      done s (t.writePrivate (s.recordAddr q) record).pageIn
  else skip s

/-! ## Ring entries (R170 to R172) -/

/-- Ring indices of the first entries of the complete chains among the entries read ahead. -/
def chainStarts (admin : Bool) : Nat → List RaEntry → W32 → List W32
  | 0, _, _ => []
  | fuel + 1, ra, i =>
    match chainAt admin ra with
    | some c => i :: chainStarts admin fuel (ra.drop c.entries) (i + BitVec.ofNat 32 c.entries)
    | none => []

/-- Returned entries take the places of the oldest reads. -/
def fillRa : List RaEntry → List RaEntry → List RaEntry
  | ra, [] => ra
  | [], _ => []
  | .reading :: r, g :: gs => g :: fillRa r gs
  | e :: r, gs => e :: fillRa r gs

/-- A positive DEFICIT is 0 once the queue has no complete chain left: every entry that the tail covers has returned, and they
hold none (R178). -/
def Queue.spend (x : Queue) (admin : Bool) : Queue :=
  if (chainAt admin x.ra).isNone && !x.ra.any (· == .reading) && decide (min (x.tail - x.fetch).toNat 64 ≤ x.ra.length) then
    { x with deficit := min x.deficit 0 }
  else x

/-- Entries return to a queue: discarded where they were read before a discard, else checked; each chain that is
complete now gets its FETCH record (R45, R172). -/
def State.entriesReturned (s : State) (q : Nat) (got : List RaEntry) : State :=
  match tget s.queues q with
  | none => s
  | some x =>
    if 0 < x.raDrop then s.modQueue q fun x => { x with raDrop := x.raDrop - got.length }
    else
      let before := chainStarts (q == 0) 64 x.ra x.fetch
      let ra := fillRa x.ra got
      let after := chainStarts (q == 0) 64 ra x.fetch
      let s := s.modQueue q fun x => Queue.spend { x with ra := ra } (q == 0)
      (after.drop before.length).foldl (fun s i => s.record unitQe 0x02 (q + 2 ^ 20 * (i.toNat % 2 ^ 28))) s

/-- RING_ENTRY_RETURN (R172): the entries of the oldest burst. -/
def execRingEntryReturn (q : Nat) (entries : List (Option (List Byte))) (s : State) : Host.Outcome State Fault Refusal :=
  match s.answered (.ringEntry q) with
  | none => late s (.ringEntry q)
  | some (r, t) =>
    let got := (List.range (r.len / 64)).map fun i =>
      match entries.getD i none with
      | some b => RaEntry.got (padTo 64 b) t.now
      | none => RaEntry.error t.now
    done s (t.entriesReturned q got)

/-! ## Readiness and arbitration (R176 to R178) -/

/-- The lowest-numbered class with a ready queue (R177). -/
def State.readyClass (s : State) : Option Nat :=
  lowest 8 fun k => s.queues.any fun e => e.2.cls == k && s.ready e.1

/-- The next ready queue of a class after a queue ID, from the lowest again after the highest (R178). -/
def State.nextReady (s : State) (k after : Nat) : Option Nat :=
  let ids := s.queues.filterMap fun e => if e.2.cls == k && s.ready e.1 then some e.1 else none
  match ids.find? fun q => decide (after < q) with
  | some q => some q
  | none => ids.head?

/-- DEFICIT between its limits (R178). -/
def clampDeficit (d : Int) : Int := max (-(2 ^ 31)) (min (2 ^ 31 - 1) d)

/-- The submission that a chain of a queue becomes (R171, R189, R212). -/
def Chain.sub (c : Chain) (x : Queue) : Sub :=
  { first := x.fetch, entries := c.entries, seq := x.seq + BitVec.ofNat 64 (x.subs.length + 1), fetched := c.stamp,
    segs := c.segs, held := [], asked := 0, pos := 0, header := false, explicit := false, chains := 0,
    params := List.replicate 16 0, const := none, version := 0, cmds := [], parsed := false, failed := none,
    retired := none }

/-- The grant of a queue's next chain (R172, R178): its cost is charged, FETCH passes it, a chain that failed a check
retires with error at once. -/
def State.grant (s : State) (q : Nat) (c : Chain) : State :=
  match tget s.queues q with
  | none => s
  | some x =>
    let u := c.sub x
    let s := s.modQueue q fun x => Queue.spend
      { x with deficit := clampDeficit (x.deficit - c.cost), fetch := x.fetch + BitVec.ofNat 32 c.entries
               ra := x.ra.drop c.entries, subs := x.subs ++ [u] } (q == 0)
    let s := match c.code with
      | some code =>
        let s := s.failSub q u.seq code false [] unitQe
        if code = Code.memoryError then s.queueCtxFault q code else s
      | none => s
    (s.readAhead q).cbFetch q

/-- A visit ends as its queue stops being ready or has no DEFICIT left (R178); the arbiter sees it in every HCLK cycle. -/
def State.endVisits (s : State) : State :=
  { s with qe := { s.qe with visits := tmap s.qe.visits fun _ v =>
      { v with visiting := v.visiting && s.ready v.queue && match tget s.queues v.queue with | some x => decide (0 < x.deficit) | none => false } } }

/-- A visit of a class begins, or goes on, at a queue (R178). -/
def State.setVisit (s : State) (k q : Nat) (open_ : Bool) : State :=
  { s with qe := { s.qe with visits := tset s.qe.visits k ⟨q, open_⟩ } }

/-- ARBITER_GRANT (R176 to R178): one HCLK cycle, in which the open visit grants a chain, or the next ready queue of the
class is visited and, its DEFICIT topped up, granted one if the DEFICIT is positive. -/
def execArbiterGrant (s : State) : Host.Outcome State Fault Refusal :=
  if s.awake ∧ s.primary ∧ ¬s.feed.halt ∧ ¬s.mgmt.warmReset then
    match s.readyClass with
    | none => skip s
    | some k =>
      let v := tget s.qe.visits k
      let goOn : Option Nat := match v with
        | some v =>
          match tget s.queues v.queue with
          | some x => if v.visiting && x.cls == k && s.ready v.queue && decide (0 < x.deficit) then some v.queue else none
          | none => none
        | none => none
      let target : Option Nat := match goOn with
        | some q => some q
        | none => match v with
          | some v => s.nextReady k v.queue
          | none => (s.queues.find? fun e => e.2.cls == k && s.ready e.1).map Prod.fst
      match target with
      | none => skip s
      | some q =>
        let t := if goOn.isSome then s
          else (s.setVisit k q true).modQueue q fun x =>
            if x.deficit ≤ 0 then { x with deficit := clampDeficit (x.deficit + x.weight) } else x
        match tget t.queues q with
        | none => skip s
        | some x =>
          match chainAt (q == 0) x.ra with
          | some c => if 0 < x.deficit then done s (t.grant q c).settled else done s t
          | none => skip s
  else skip s

end Sys2Proof.Machine
end

