-- ==== Sys2Proof/Machine/Parse.lean ====
section
/-! DEFINITION. Reading and parsing command buffers (R192 to R203, R225 to R229), registering waits (R303 to R307), and the
commands that only parsing completes. -/

namespace Sys2Proof.Machine

open Sys2Proof

/-! ## Command bytes -/

/-- Bytes read for a queue reach the stream that asked for them, or are dropped (R192, R225). -/
def State.bytesReturned (s : State) (q : Nat) (got : List (Option Byte)) : State :=
  match tget s.queues q, s.ctxOfQueue q with
  | some x, some (slot, c) =>
    if 0 < x.cbDrop then s.modQueue q fun x => { x with cbDrop := x.cbDrop - 1 }
    else
      match takeFirst (fun sc => sc.asked != 0) x.scans with
      | some (sc, rest) =>
        let w := Scan.walk (sc.held.length + got.length + 1) { sc with held := sc.held ++ got, asked := 0 } []
        let s := s.modQueue q fun x => { x with scans := w.2.toList ++ rest }
        if c.killed then s else s.errorEvents slot w.1 sc.code
      | none =>
        s.modQueue q fun x => { x with subs := x.subs.map fun u =>
          if u.asked ≠ 0 then { u with held := u.held ++ got, asked := 0 } else u }
  | _, _ => s

/-- CB_READ_RETURN (R225): an error response is kept with the bytes it covers, and raises nothing until parsing reaches
them. -/
def execCbReadReturn (q : Nat) (bytes : Option (List Byte)) (s : State) : Host.Outcome State Fault Refusal :=
  match s.answered (.commandBytes q) with
  | none => late s (.commandBytes q)
  | some (r, t) =>
    let got := match bytes with
      | some l => (padTo r.len l).map some
      | none => List.replicate r.len none
    done s ((t.bytesReturned q got).cbFetch q).settled

/-! ## The front of a queue's stream -/

/-- Whether a DME runs: HCLK is on, this Hub serves, the engine is not stopped (R423), no warm reset is under way
(R474). -/
def State.dmeRuns (s : State) (d : Nat) : Bool :=
  s.awake && s.primary && !s.mgmt.warmReset && (match s.dmes[d]? with | some m => !m.stopped | none => false)

/-- The submission a queue's DME parses now, unless parsing pauses (R203): the queue, the submission, the context's slot
and the context. -/
def State.front (s : State) (q : Nat) : Option (Queue × Sub × Nat × Ctx) :=
  match tget s.queues q, s.ctxOfQueue q with
  | some x, some (slot, c) =>
    match x.subs.find? fun u => !u.parsed && u.retired.isNone with
    | some u =>
      if q != 0 && s.dmeRuns x.dme && u.failed.isNone && !x.fenced && decide (x.windowUsed < 64)
          && decide (s.poolUsed < 16384) && c.served then some (x, u, slot, c) else none
    | none => none
  | _, _ => none

/-- A submission fails at the parse point (R192, R197); a byte whose read drew an error makes it context-fatal (R225). -/
def State.parseFail (s : State) (q : Nat) (n : W64) (code : W16) : State :=
  let s := s.failSub q n code false [] (s.dmeUnit q)
  if code = Code.memoryError then s.queueCtxFault q code else s

/-- Bytes parsed leave the stream; a stream at its end is parsed (R193, R196). -/
def State.consume (s : State) (q : Nat) (n : W64) (len : Nat) : State :=
  s.modSub q n fun u =>
    let segs := dropSegs u.segs len
    { u with segs := segs, held := u.held.drop len, pos := u.pos + len, parsed := segBytes segs == 0 }

/-- Bytes without the marks of failed reads. -/
def plain (l : List (Option Byte)) : List Byte := l.map fun b => b.getD 0

/-- Where the first byte lies whose read failed. -/
def firstBad (l : List (Option Byte)) : Option Nat := l.findIdx? Option.isNone

/-- BUFFER_HEADER (R194). -/
def execBufferHeader (q : Nat) (s : State) : Host.Outcome State Fault Refusal :=
  match s.front q with
  | none => skip s
  | some (_, u, _, _) =>
    if u.header ∨ u.held.length < 16 then skip s
    else
      let raw := u.held.take 16
      let b := plain raw
      let checks : List Check :=
        [ (0, le b 0 2 == 1, Code.cbHeaderBad), (if le b 2 1 < 2 then 3 else 2, decide (le b 2 2 < 2), Code.reservedSet) ]
          ++ reservedAt b 4 12
      let code : Option W16 := match firstFail checks, firstBad raw with
        | some (o, c), some e => some (if o < e then c else Code.memoryError)
        | some (_, c), none => some c
        | none, some _ => some Code.memoryError
        | none, none => none
      match code with
      | some c => done s (s.parseFail q u.seq c).settled
      | none =>
        let t := s.consume q u.seq 16
        let t := t.modSub q u.seq fun u => { u with header := true, explicit := bit (le b 2 2) 0 }
        done s ((t.maybeRetire q u.seq).cbFetch q).settled

/-- The command at the parse point: its opcode and, by checks 1 to 4 of R197, its code or its bytes; none while they have
not all been read. An opcode the table does not list is every row's business. -/
def Sub.next (u : Sub) (user : Bool) : Option (Option Nat × Except W16 (List (Option Byte))) :=
  if !u.header || decide (u.held.length < 4) then none
  else if (firstBad (u.held.take 4)).isSome then some (none, .error Code.memoryError)
  else
    let h := le (plain (u.held.take 4)) 0 4
    let opcode := bits h 31 24
    let len := 16 * bits h 23 16
    let known := opcodeLen opcode (bits h 11 0)
    let row := if known.isSome then some opcode else none
    if len = 0 ∨ segBytes u.segs < len then some (row, .error Code.cmdLength)
    else if 0x80 ≤ opcode ∧ user then some (row, .error Code.privileged)
    else match known with
      | none => some (row, .error Code.opcodeUnknown)
      | some n =>
        if opcode ≠ 0 ∧ len ≠ 16 * n then some (row, .error Code.cmdLength)
        else if u.held.length < len then none
        else some (row, .ok (u.held.take len))

/-- The verdict of checks 5 and 6 of R197 on a command's bytes. -/
def verdict (raw : List (Option Byte)) (c5 c6 : List Check) : Option W16 :=
  match firstFail c5, firstBad raw with
  | some (o, c), some e => some (if o < e then c else Code.memoryError)
  | some (_, c), none => some c
  | none, some _ => some Code.memoryError
  | none, none => (lowestFail c6).map Prod.snd

/-- A parse row (R197): the front command of a queue, if it is of the row's opcode or of none, fails, or leaves the stream
and takes the effect of its parse. `none` where the row's command is not at the front. -/
def State.parseRow (s : State) (q opcode : Nat) (c5 : List Byte → List Check) (c6 : Sub → Nat → Ctx → List Byte → List Check)
    (effect : Queue → Sub → Nat → Ctx → List Byte → State → State) : Option State :=
  match s.front q with
  | none => none
  | some (x, u, slot, c) =>
    match u.next !x.kernel with
    | none => none
    | some (row, r) =>
      if row ≠ none ∧ row ≠ some opcode then none
      else match r with
        | .error code => some (s.parseFail q u.seq code)
        | .ok raw =>
          let b := plain raw
          match verdict raw (c5 b) (c6 u slot c b) with
          | some code => some (s.parseFail q u.seq code)
          | none => some (((effect x u slot c b (s.consume q u.seq raw.length)).maybeRetire q u.seq).cbFetch q)

/-- A command enters the window (R202, R204). -/
def State.addCmd (s : State) (q : Nat) (u : Sub) (op : CmdOp) (waits : List CmdWait) : State :=
  let c : Cmd := { off := u.pos, parseNo := s.parseNo, stamp := s.now, op := op, waits := waits, state := .parsed,
                   withheld := none, granted := false, rest := [] }
  { s.modSub q u.seq fun u => { u with cmds := u.cmds ++ [c] } with parseNo := s.parseNo + 1 }

/-- No check 6. -/
def noChecks (_ : Sub) (_ : Nat) (_ : Ctx) (_ : List Byte) : List Check := []

/-- The answer of a row that only parses. -/
def parsed (s : State) (r : Option State) : Host.Outcome State Fault Refusal :=
  match r with
  | some t => done s t.settled
  | none => skip s

/-! ## Waits (R301 to R307) -/

/-- Whether a command has waits that are not registered. -/
def Cmd.unregistered (c : Cmd) : Bool := c.waits.any fun w => w.state == .unregistered

/-- The oldest command, by parse stamp, whose waits are not registered (R305). -/
def State.oldestUnregistered (s : State) : Option (Nat × W64 × Cmd) :=
  s.queues.foldl (fun b e => e.2.subs.foldl (fun b u => u.cmds.foldl (fun b c =>
    if c.unregistered then
      match b with
      | some (_, _, d) => if c.parseNo < d.parseNo then some (e.1, u.seq, c) else b
      | none => some (e.1, u.seq, c)
    else b) b) b) none

/-- The waits of a command just parsed register if entries are free and none waits for them longer (R303, R305). -/
def State.registerNew (s : State) (q : Nat) (n : W64) (off : Nat) : State :=
  match s.oldestUnregistered with
  | some (q', n', c) =>
    if q' = q ∧ n' = n ∧ c.off = off ∧ c.waits.length + s.waitsUsed ≤ 32768 then s.registerCmd q n c else s
  | none => s

/-- SCOREBOARD_LATE_REGISTRATION (R305). -/
def execScoreboardLateRegistration (s : State) : Host.Outcome State Fault Refusal :=
  match s.oldestUnregistered with
  | some (q, n, c) => if c.waits.length + s.waitsUsed ≤ 32768 then done s (s.registerLater q n c).settled else skip s
  | none => skip s

/-- EVENT_STORE_READ_RETURN (R299, R307): the event's state is in the scoreboard, and the commands for which it was the last to
come register their waits. -/
def execEventStoreReadReturn (slot event : Nat) (s : State) : Host.Outcome State Fault Refusal :=
  match s.answered (.eventState slot event) with
  | none => late s (.eventState slot event)
  | some (_, t) =>
    done s (t.modCtx slot fun c => { c with events := tmod c.events event fun e => { e with cached := true } }).settled

/-! ## Parse-class commands -/

/-- NOP (R229). -/
def execNop (q : Nat) (s : State) : Host.Outcome State Fault Refusal :=
  parsed s (s.parseRow q 0x00 (fun b => headerCheck b 0) noChecks fun _ _ _ _ _ t => t)

/-- CHAIN (R228): the stream continues at the target; the rest of its own segments is never parsed. -/
def execChain (q : Nat) (s : State) : Host.Outcome State Fault Refusal :=
  parsed s (s.parseRow q 0x01 chainChecks (fun u _ _ _ => [(0, decide (u.chains < 255), Code.chainLimit)])
    fun _ u _ _ b t =>
      let drop := match t.subOf q u.seq with | some v => v.asked != 0 | none => false
      let t := t.modSub q u.seq fun v =>
        { v with segs := [(le64 b 8, le b 0x10 4)], held := [], asked := 0, chains := v.chains + 1, parsed := false }
      if drop then t.modQueue q fun x => { x with cbDrop := x.cbDrop + 1 } else t)

/-- PATCH_PARAMS (R213, R214). -/
def execPatchParams (q : Nat) (s : State) : Host.Outcome State Fault Refusal :=
  parsed s (s.parseRow q 0x12 patchParamsChecks noChecks fun _ u _ _ b t =>
    t.modSub q u.seq fun v =>
      { v with params := overlay v.params (patchEntries b 0x10 (bits (flagsOf b) 4 0)) 0, version := v.version + 1 })

/-- SET_CONSTANTS (R213, R214). -/
def execSetConstants (q : Nat) (s : State) : Host.Outcome State Fault Refusal :=
  parsed s (s.parseRow q 0x13 setConstantsChecks (fun _ _ _ b => constChecks b 8 0x10) fun _ u _ _ b t =>
    t.modSub q u.seq fun v => { v with const := constRef b 8 0x10, version := v.version + 1 })

/-- HINT_PHASE (R224): no effect in a context without a partition. -/
def execHintPhase (q : Nat) (s : State) : Host.Outcome State Fault Refusal :=
  parsed s (s.parseRow q 0x40 hintPhaseChecks noChecks fun _ _ _ c b t =>
    match c.partition with
    | some p => t.takeHint p (le b 4 2) (le b 6 2) (le b 8 4) (le b 0xC 1)
    | none => t)

/-- FENCE_FETCH (R226): parsing stops at it. -/
def execFenceFetch (q : Nat) (s : State) : Host.Outcome State Fault Refusal :=
  parsed s (s.parseRow q 0x50 fenceFetchChecks noChecks fun _ u _ _ _ t => t.addCmd q u .fenceFetch [])

/-- What a queue holds after a fence is discarded and read afresh (R226). -/
def Queue.refetch (x : Queue) : Queue :=
  { x with
    subs := x.subs.map fun u => if u.parsed then u else { u with held := [], asked := 0 }
    cbDrop := x.cbDrop + x.subs.countP fun u => !u.parsed && u.asked != 0 }

/-- FENCE_FETCH_COMPLETE (R226): every earlier command of the queue, of every submission, is complete. -/
def execFenceFetchComplete (q : Nat) (s : State) : Host.Outcome State Fault Refusal :=
  match tget s.queues q with
  | none => skip s
  | some x =>
    match x.subs.findSome? fun u => (u.cmds.find? fun c => c.op == .fenceFetch).map fun c => (u, c) with
    | some (u, c) =>
      if (x.subs.foldl (fun n u => n + u.cmds.length) 0) = 1 ∧ s.dmeRuns x.dme then
        done s (((s.modQueue q Queue.refetch).completeCmd q u.seq c.off).cbFetch q).settled
      else skip s
    | none => skip s

/-! ## Launches and event commands at parse -/

/-- EVENT_RANGE at parse for an event of the launching context (R207, R209, R217). -/
def eventCheck (c : Ctx) (off ev : Nat) : Check := (off, (tget c.events ev).isSome, Code.eventRange)

/-- EVENT_RANGE for the wait entries that name the launching context, by 0 or by its handle (R207). -/
def waitRangeChecks (slot : Nat) (c : Ctx) (b : List Byte) (off n : Nat) : List Check :=
  (List.range n).filterMap fun i =>
    let w := waitEntry b (off + 8 * i)
    if w.handle = 0 ∨ w.handle = handleOf slot c.gen then some (eventCheck c (off + 8 * i + 4) w.event) else none

/-- Check 6 of a launch (R207, R209) and of a replay, whose members must exist where its group is live (R216). -/
def launchChecks6 (opcode slot : Nat) (c : Ctx) (b : List Byte) : List Check :=
  let f := flagsOf b
  let n := bits f 2 0
  let base := 0x20 + 16 * ((n + 1) / 2)
  let group : Option Nat := match tget c.patterns (le b 4 2) with
    | some p => if p.gen = le b 6 2 then match p.content with | .group ms => some ms.length | _ => none else none
    | none => none
  constChecks b 8 0x10 ++ (if bit f 3 then [eventCheck c 0x12 (le b 0x12 2)] else []) ++ waitRangeChecks slot c b 0x20 n ++
  match group with
  | some k =>
    if opcode = 0x11 then (List.range (launchPatches opcode f)).map fun i =>
      (base + 16 * i + 1, decide ((patchEntry b (base + 16 * i)).member < k), Code.badValue)
    else []
  | none => []

/-- A launch or replay enters the window with its event armed and its waits registered (R206, R214, R216, R300, R303). -/
def State.addLaunch (s : State) (q opcode : Nat) (u : Sub) (slot : Nat) (b : List Byte) : State :=
  let f := flagsOf b
  let n := bits f 2 0
  let patches := patchEntries b (0x20 + 16 * ((n + 1) / 2)) (launchPatches opcode f)
  let const := match constRef b 8 0x10 with | some r => some r | none => u.const
  let event := if bit f 3 then some (le b 0x12 2) else none
  let op : CmdOp := if opcode = 0x10 then .launch (le32 b 4) const event (overlay u.params patches 0)
    else .replay (le32 b 4) const event u.params patches 0
  let s := match event with | some e => s.armEvent slot e | none => s
  (s.addCmd q u op (waitEntries b 0x20 n)).registerNew q u.seq u.pos

/-- LAUNCH (R206 to R209). -/
def execLaunch (q : Nat) (s : State) : Host.Outcome State Fault Refusal :=
  parsed s (s.parseRow q 0x10 (launchChecks 0x10) (fun _ slot c b => launchChecks6 0x10 slot c b) fun _ u slot _ b t =>
    t.addLaunch q 0x10 u slot b)

/-- LAUNCH_REPLAY (R216). -/
def execLaunchReplay (q : Nat) (s : State) : Host.Outcome State Fault Refusal :=
  parsed s (s.parseRow q 0x11 (launchChecks 0x11) (fun _ slot c b => launchChecks6 0x11 slot c b) fun _ u slot _ b t =>
    t.addLaunch q 0x11 u slot b)

/-- EVENT_WAIT (R218): it completes through its waits (log 8). -/
def execEventWait (q : Nat) (s : State) : Host.Outcome State Fault Refusal :=
  parsed s (s.parseRow q 0x21 eventWaitChecks (fun _ slot c b => waitRangeChecks slot c b 0x10 (bits (flagsOf b) 2 0))
    fun _ u _ _ b t =>
      (t.addCmd q u .eventWait (waitEntries b 0x10 (bits (flagsOf b) 2 0))).registerNew q u.seq u.pos)

/-! ## Window commands -/

/-- The opcode of a window command (R198). -/
def CmdOp.opcode : CmdOp → Nat
  | .launch .. => 0x10 | .replay .. => 0x11 | .eventRecord _ => 0x20 | .eventWait => 0x21 | .syncOp .. => 0x22
  | .syncWait .. => 0x23 | .barrier .. => 0x24 | .writeImm .. => 0x30 | .fenceFetch => 0x50 | .partControl .. => 0x80
  | .feedSet _ => 0x81 | .traceSet .. => 0x82 | .privWrite .. => 0x83 | .syncConfig .. => 0x84

end Sys2Proof.Machine
end

