-- ==== Sys2Proof/Machine/Launch.lean ====
section
/-! DEFINITION. Dispatch of launches (R204, R209 to R216, R260 to R263, R290, R374 to R378), and the moments at which Feed
decides again on the launches it withholds. -/

namespace Sys2Proof.Machine

open Sys2Proof

/-! ## The checks of R209 -/

/-- A handle of a context's pattern table: what it resolves to (R129, R147, R206). -/
def Ctx.resolve (c : Ctx) (h : W32) : PatContent :=
  match tget c.patterns (bits h.toNat 15 0) with
  | some p => if p.gen = bits h.toNat 31 16 then p.content else .empty
  | none => .empty

/-- Whether a value lies in a parameter register's bounds (R209, R234). -/
def withinBounds (isSigned : Bool) (b : W64 × W64) (v : W64) : Bool :=
  if isSigned then decide (b.1.toInt ≤ v.toInt) && decide (v.toInt ≤ b.2.toInt)
  else decide (b.1.toNat ≤ v.toNat) && decide (v.toNat ≤ b.2.toNat)

/-- Whether the effective parameter values are within a pattern's bounds (R209). -/
def Pattern.admits (p : Pattern) (params : List W64) : Bool :=
  (List.range 16).all fun i =>
    !p.paramUsed.getLsbD i || withinBounds (p.paramSigned.getLsbD i) (p.bounds.getD i (0, 0)) (params.getD i 0)

/-- The present Nibs of a context's partition that are in use (R210, R454). -/
def State.placeable (s : State) (c : Ctx) : List Nat :=
  match c.partition.bind (tget s.parts) with
  | some x => x.nibs.filter fun n => (s.nibs[n]?.map Nib.present).getD false && s.live.useNibs.contains n
  | none => []

/-- Checks 2 to 4 of R209 on a pattern with the launch's effective values. -/
def State.launchCheck (s : State) (c : Ctx) (p : Pattern) (params : List W64) (const : ConstRef) : Option W16 :=
  if (s.placeable c).length < p.body.targetNibs ∨ c.partition.isNone then some Code.noPlacement
  else if !p.admits params then some Code.patchBound
  else if (match const with | some r => r.2 | none => 0) < p.constMin then some Code.constBad
  else none

/-- What a launch command is to dispatch now: its members with their pattern index and effective parameter values, or the
code of a failed check (R209, R216). The head is dispatched next. -/
def State.members (s : State) (c : Ctx) (d : Cmd) : Except W16 (List (Nat × Pattern × List W64)) :=
  match d.op with
  | .launch h const _ params =>
    match c.resolve h with
    | .pattern p => match s.launchCheck c p params const with
      | some code => .error code
      | none => .ok [(bits h.toNat 15 0, p, params)]
    | _ => .error Code.badHandle
  | .replay h const _ params patches member =>
    if d.rest.isEmpty then
      match c.resolve h with
      | .group ms =>
        let found := ms.zipIdx.map fun m => match c.resolve m.1 with
          | .pattern p =>
            let ps := overlay params patches m.2
            match s.launchCheck c p ps const with
            | some code => (some code, 0, p, ps)
            | none => (none, bits m.1.toNat 15 0, p, ps)
          | _ => (some Code.badHandle, 0, ⟨0, 0, 0, 0, 0, [], 0, ⟨0, 0, 0, 0, 0, false, 0, [], none, none, [], [], []⟩⟩, [])
        match found.findSome? fun f => f.1 with
        | some code => .error code
        | none => .ok (found.map fun f => f.2)
      | _ => .error Code.badHandle
    else .ok (d.rest.zipIdx.map fun m => (m.1.1, m.1.2, overlay params patches (member + m.2)))
  | _ => .error Code.badHandle

/-! ## Placement (R210, R263) -/

/-- Tasks that the Hub knows a Nib to hold (R263). -/
def State.held (s : State) (n : Nat) : Nat := s.tasks.countP fun e => e.2.positions.any fun p => p.nib == n && !p.counted

/-- The Nibs in order of tasks held, the lower ID on equal counts (R210). -/
def State.byLoad (s : State) (nibs : List Nat) : List Nat := (List.range 5).flatMap fun k => nibs.filter fun n => s.held n == k

/-- The Nibs a launch of `n` Nibs is placed on, ascending (R210). -/
def State.place (s : State) (c : Ctx) (n : Nat) : List Nat := sortNats ((s.byLoad (s.placeable c)).take n)

/-- Whether every chosen Nib has room for a task (R263). -/
def State.room (s : State) (nibs : List Nat) : Bool := nibs.all fun n => decide (s.held n < 4)

/-- The launch's part of each rail group (R375): a Nib that holds a task adds nothing. -/
def State.launchParts (s : State) (v : Variant) (nibs : List Nat) : List (Nat × Nat) :=
  let weight := v.cores * (v.templates.foldl (fun m t => max m (rampOf s.live.energy t.activity)) 0)
  let groups := sortNats (nibs.map s.railOf)
  groups.map fun g => (g, weight * nibs.countP fun n => s.railOf n == g && s.held n == 0)

/-! ## Which launch is next (R204) -/

/-- Whether a stop-count holds a queue (R295): the queue stopped holds until its bit is cleared, and the named one dispatches
nothing once its count has run out. -/
def State.queueStopped (s : State) (q : Nat) : Bool :=
  let d := s.dbg
  (d.stops.getLsbD 0 && q == d.stopQueue) ||
    (q == bits d.qCtrl.toNat 19 0 && d.qCtrl.getLsbD 31 && d.qCount != 0 && d.qLeft == 0)

/-- The launch of a queue that may request allowance, or holds one (R200, R204): the first eligible one in stream order, its
waits satisfied, none before it withheld. -/
def State.launchable (s : State) (q : Nat) (x : Queue) : Option (Sub × Cmd) :=
  if s.queueStopped q then none
  else
    let all := x.subs.flatMap fun u => if u.failed.isSome then [] else u.cmds.map fun d => (u, d)
    let free := all.takeWhile fun p => !(p.2.op.isLaunch && p.2.withheld.isSome && p.2.state != .begun)
    free.find? fun p => p.2.op.isLaunch && p.2.state == .parsed && p.2.waits.all CmdWait.met && x.eligible p.1 p.2

/-- What a DME can do for a launch now. -/
inductive LaunchMove where
  | fail (code : W16)
  | wake (nibs : List Nat)
  | withhold (reason : Nat)
  | go (member : Nat × Pattern × List W64) (rest : List (Nat × Pattern)) (nibs : List Nat) (parts : List (Nat × Nat))
  deriving DecidableEq, Repr

/-- Whether a partition's launches are held by PART_CONTROL (R230). -/
def State.partHeld (s : State) (c : Ctx) : Bool := match c.partition.bind (tget s.parts) with | some x => x.hold | none => false

/-- Of some Nibs, those in OFF. -/
def State.offNibs (s : State) (nibs : List Nat) : List Nat :=
  nibs.filter fun n => match s.nibs[n]? with | some b => b.power == .off | none => false

/-- Whether a Nib has an entry in the wake scheduler, or has been released by it (R377). -/
def State.wakeAsked (s : State) (n : Nat) : Bool :=
  (s.feed.wakes.any fun w => w.nib == n) || (match s.nibs[n]? with | some b => b.waking | none => false)

/-- The move for an eligible launch: none while LAUNCH_HELD (R457, R459) or its partition's hold keeps it in the window, unless
it has been granted its allowance (R205), while it waits for room (R210, R263) or for its Nibs to wake (R377), and in the halt
(R394). -/
def State.launchMove (s : State) (c : Ctx) (d : Cmd) : Option LaunchMove :=
  if s.feed.halt ∨ (¬d.granted ∧ (s.launchHeld ∨ s.partHeld c)) then none
  else match s.members c d with
    | .error code => some (.fail code)
    | .ok [] => none
    | .ok (m :: rest) =>
      let p := m.2.1
      let nibs := s.place c p.body.targetNibs
      if nibs.length < p.body.targetNibs then some (.fail Code.noPlacement)
      else if ¬s.room nibs then none
      else
        let off := s.offNibs nibs
        if off.any fun n => !s.wakeAsked n then some (.wake (off.filter fun n => !s.wakeAsked n))
        else if ¬off.isEmpty then none
        else
          let parts := s.launchParts p.body nibs
          let go : LaunchMove := .go m (rest.map fun r => (r.1, r.2.1)) nibs parts
          if d.granted then some go
          else match s.allowance (c.partition.getD 0) nibs parts false with
            | some r => some (.withhold r)
            | none => some go

/-- R204's order: the lower class first, then the older parse stamp. -/
def ranksFirst (a b : Nat × Nat) : Bool := decide (a.1 < b.1) || (a.1 == b.1 && decide (a.2 ≤ b.2))

/-- A launch that can move: its queue, submission and context, and its move. -/
abbrev LaunchPick := Nat × Queue × Sub × Cmd × Nat × Ctx × LaunchMove

/-- Class and parse order of a launch that can move. -/
def LaunchPick.rank (x : LaunchPick) : Nat × Nat := (x.2.1.cls, x.2.2.2.1.parseNo)

/-- The launch that comes first in R204's order among those of a DME that can move. -/
def State.bestLaunch (s : State) (dme : Nat) : Option LaunchPick :=
  let all := s.queues.filterMap fun e =>
    if e.2.dme = dme ∧ e.1 ≠ 0 then
      match s.ctxOf e.2.handle, s.launchable e.1 e.2 with
      | some (slot, c), some (u, d) => if c.killed then none else (s.launchMove c d).map fun m => (e.1, e.2, u, d, slot, c, m)
      | _, _ => none
    else none
  all.foldl (fun b x => match b with
    | none => some x
    | some y => if ranksFirst (LaunchPick.rank y) (LaunchPick.rank x) then some y else some x) none

/-- Whether a command takes effect by a dispatch of its own, launches apart (R200). -/
def CmdOp.joins : CmdOp → Bool
  | .launch .. => false
  | .replay .. => false
  | .eventWait => false
  | .fenceFetch => false
  | _ => true

/-- Class and parse order of a DME's eligible commands other than launches (R200, R204). -/
def State.joins (s : State) (dme : Nat) : List (Nat × Nat) :=
  s.queues.flatMap fun e =>
    if e.2.dme = dme ∧ (s.ctxOf e.2.handle).isSome then
      e.2.subs.flatMap fun u => if u.failed.isSome then [] else
        (u.cmds.filter fun d => d.op.joins && d.state == .parsed && e.2.eligible u d).map fun d => (e.2.cls, d.parseNo)
    else []

/-- Whether a DME chooses an eligible command that is no launch (R204). -/
def State.chosen (s : State) (x : Queue) (d : Cmd) : Bool :=
  let mine := (x.cls, d.parseNo)
  (s.joins x.dme).all (ranksFirst mine) &&
    (match s.bestLaunch x.dme with | some b => ranksFirst mine (LaunchPick.rank b) | none => true)

/-- The launch that a DME dispatches next (R204), if it is the first eligible command of all; `later` picks replays under way. -/
def State.nextLaunch (s : State) (dme : Nat) (later : Bool) : Option LaunchPick :=
  (s.bestLaunch dme).filter fun b => (later == !b.2.2.2.1.rest.isEmpty) && (s.joins dme).all (ranksFirst (LaunchPick.rank b))

/-! ## Dispatch (R260, R261, R290) -/

/-- The parameter values that a task message carries: of the registers in PARAM_USED, ascending (R261). -/
def Pattern.values (p : Pattern) (params : List W64) : List W64 :=
  (List.range 16).filterMap fun i => if p.paramUsed.getLsbD i then some (params.getD i 0) else none

/-- The constant-buffer reference of a launch. -/
def CmdOp.const : CmdOp → ConstRef
  | .launch _ c _ _ => c
  | .replay _ c _ _ _ _ => c
  | _ => none

/-- The stop-count counts a dispatched task (R295). -/
def Dbg.countTask (d : Dbg) (q : Nat) : Dbg :=
  if d.qCtrl.getLsbD 31 && d.qCount != 0 && q == bits d.qCtrl.toNat 19 0 && !(d.stops.getLsbD 0 && q == d.stopQueue) then { d with qLeft := d.qLeft - 1 }
  else d

/-- The splitters of some Nibs. -/
def State.splittersOf (s : State) (nibs : List Nat) : List Nat :=
  sortNats (nibs.map fun n => match s.nibs[n]? with | some b => b.via | none => 0)

/-- The task message on Yarn (R260, R261): 128 bytes, or 192 where more than 8 registers are named. -/
def TaskMsg.bytes (m : TaskMsg) : List Byte :=
  let ext : Bool := decide (8 < m.params.length)
  let flags := b2n m.migrated + 2 * b2n m.const.isNone + 4 * b2n ext
  let const := match m.const with | some (addr, len) => addr.toNat / 64 * 64 + (len / 64 - 1) | none => 0
  let values (l : List W64) : List Byte := padTo 64 (l.flatMap fun v => leBytes 8 v.toNat)
  leBytes 1 1 ++ leBytes 1 flags ++ leBytes 1 (if m.migrated then m.position else 0) ++ leBytes 1 0 ++
    leBytes 4 (m.pasid + 2 ^ 20 * m.partition) ++ leBytes 2 m.tag ++ leBytes 2 m.patIndex ++ leBytes 4 m.epoch.toNat ++
    leBytes 4 m.storeEntry ++ leBytes 4 m.stateTag.toNat ++ leBytes 8 const ++
    leBytes 32 ((sortNats m.placement).foldl (fun a n => a + 2 ^ n) 0) ++ values (m.params.take 8) ++
    (if ext then values (m.params.drop 8) else [])

/-- A task is dispatched on Nibs (R260, R290): its message goes down to each splitter that serves one of them, and is stamped
(R45). -/
def State.dispatch (s : State) (q : Nat) (u : Sub) (d : Cmd) (slot : Nat) (c : Ctx) (m : Nat × Pattern × List W64)
    (rest : List (Nat × Pattern)) (nibs : List Nat) : State :=
  match lowest 65536 fun t => (tget s.tasks t).isNone with
  | none => s
  | some tag =>
    let p := m.2.1
    let part := c.partition.getD 0
    let epoch := s.epoch + 1
    let task : Task :=
      { queue := q, sub := u.seq, off := d.off, slot := slot, pasid := c.pasid, partition := part, patIndex := m.1,
        storeEntry := p.storeEntry, stateTag := p.stateTag, const := d.op.const, params := p.values m.2.2,
        paramUsed := p.paramUsed, positions := nibs.map fun n => ⟨n, epoch, false, false, none⟩, status := 0, rank := 0,
        nf := none }
    let msg : TaskMsg :=
      { migrated := false, position := 0, pasid := c.pasid, partition := part, tag := tag, patIndex := m.1, epoch := epoch,
        storeEntry := p.storeEntry, stateTag := p.stateTag, const := d.op.const, placement := nibs, paramUsed := p.paramUsed,
        params := p.values m.2.2 }
    let dme := match tget s.queues q with | some x => x.dme | none => 0
    let s := { s with tasks := tset s.tasks tag task, epoch := epoch, dbg := s.dbg.countTask q }
    let s := s.modCmd q u.seq d.off fun d =>
      { d with
        state := .begun
        withheld := none
        granted := false
        rest := rest
        op := match d.op with | .replay h k e ps pt i => .replay h k e ps pt (i + 1) | o => o }
    ((s.splittersOf nibs).foldl (fun s sp => s.emit (.down sp (.task msg))) s).emit
      (.stamp (unitDme dme) 0x03 (q + 2 ^ 20 * m.1 + 2 ^ 36 * part))

/-- A DME's launch takes its move. A request of a lender's launch reclaims its share (R382). -/
def State.moveLaunch (s : State) (q : Nat) (u : Sub) (d : Cmd) (slot : Nat) (c : Ctx) : LaunchMove → State
  | .fail code => s.failCmd q u.seq d.off code (s.dmeUnit q)
  | .wake nibs => nibs.foldl (fun s n => s.askWake n c.partition) s
  | .withhold r => (s.reclaim (c.partition.getD 0)).modCmd q u.seq d.off fun d => { d with withheld := some r }
  | .go m rest nibs parts =>
    let s := if d.granted then s else (s.reclaim (c.partition.getD 0)).chargeRamp parts
    s.dispatch q u d slot c m rest nibs

/-- A DME's dispatch of a launch (R204). -/
def State.launchStep (s : State) (dme : Nat) (later : Bool) : Host.Outcome State Fault Refusal :=
  if s.dmeRuns dme then
    match s.nextLaunch dme later with
    | some (q, _, u, d, slot, c, m) => done s ((s.moveLaunch q u d slot c m).cbFetch q).settled
    | none => skip s
  else skip s

/-- LAUNCH_DISPATCH (R204, R209, R210): the DME's next eligible launch, or replay's first member, is failed, withheld, or
dispatched. -/
def execLaunchDispatch (dme : Nat) (s : State) : Host.Outcome State Fault Refusal := s.launchStep dme false

/-- REPLAY_MEMBER_DISPATCH (R216): the next member of a replay whose previous member is complete. -/
def execReplayMemberDispatch (dme : Nat) (s : State) : Host.Outcome State Fault Refusal := s.launchStep dme true

/-! ## Feed decides again (R374) -/

/-- The launches withheld, in the order in which Feed decides (R204, R374): lowest class, then DME, then parse order. -/
def State.withheldLaunches (s : State) : List (Nat × W64 × Nat) :=
  let all := s.queues.flatMap fun e => e.2.subs.flatMap fun u => u.cmds.filterMap fun d =>
    if d.withheld.isSome && d.state == .parsed && u.failed.isNone then some (e.2.cls, e.2.dme, d.parseNo, e.1, u.seq, d.off) else none
  (List.range 8).flatMap fun k => (List.range 8).flatMap fun m =>
    let mine := all.filter fun x => x.1 == k && x.2.1 == m
    (sortNats (mine.map fun x => x.2.2.1)).flatMap fun n => (mine.filter fun x => x.2.2.1 == n).map fun x => x.2.2.2

/-- One withheld launch is decided afresh (R374, R382): in the halt for COOLANT; one that may not request allowance now is withheld
no more (R458). -/
def State.decideLaunch (s : State) (atStart : Bool) (q : Nat) (n : W64) (off : Nat) : State :=
  match s.cmdOf q n off, s.ctxOfQueue q with
  | some d, some (_, c) =>
    if s.feed.halt then s.modCmd q n off fun d => { d with withheld := some reasonCoolant }
    else if s.launchHeld || s.partHeld c then s.modCmd q n off fun d => { d with withheld := none }
    else match s.members c d with
      | .ok (m :: _) =>
        let s := s.reclaim (c.partition.getD 0)
        let p := m.2.1
        let nibs := s.place c p.body.targetNibs
        let parts := s.launchParts p.body nibs
        if nibs.length < p.body.targetNibs then s.modCmd q n off fun d => { d with withheld := none }
        else match s.allowance (c.partition.getD 0) nibs parts atStart with
          | some r => (nibs.foldl (fun s n => s.askWake n c.partition) s).modCmd q n off fun d => { d with withheld := some r }
          | none => ((s.chargeRamp parts).modCmd q n off fun d => { d with withheld := none, granted := true }).latchQueue q
              fun m => { m with wake := true }
      | _ => s.modCmd q n off fun d => { d with withheld := none }
  | _, _ => s

/-- Every withheld launch is decided afresh, each charged before the next (R374); a Hub that is not primary decides none. -/
def State.decideAll (s : State) (atStart : Bool) : State :=
  if !s.primary then s else s.withheldLaunches.foldl (fun s x => s.decideLaunch atStart x.1 x.2.1 x.2.2) s

/-- Whether the interval that closes is the last of 1,024 (R390). -/
def State.reportDue (s : State) : Bool := decide (s.feed.served.getD 0 0 / 1024 < s.now / 1024 / 1024)

/-- What the Nibs of each rail group report at an interval's end, as the splitters sum it (R367). -/
def State.nibReports (s : State) : List Nat := (List.range 16).map fun g => total ((s.groupNibs g).map s.rawOf)

/-- FEED_INTERVAL_CLOSE (R366, R367, R371, R372, R390): Ductus time has crossed a multiple of 1,024 ns, and the reports that reach
the primary Hub are those of the energy metered. Only the primary Hub's Feed acts on them (R395). -/
def execFeedIntervalClose (reports : List Nat) (s : State) : Host.Outcome State Fault Refusal :=
  if s.due 0 1024 then
    let t := s.serve 0 1024
    if !s.primary then done s t.clearMeters
    else if reports = s.nibReports then done s ((t.closeInterval s.reportDue).decideAll false)
    else skip s
  else skip s

/-- A rail group at the start of a ramp window (R376). -/
def Rail.newWindow (r : Rail) (budget : Nat) : Rail :=
  if 0 < r.debt then { r with charge := budget, debt := r.debt - 1 } else { r with charge := 0 }

/-- RAMP_WINDOW_START (R376): Ductus time has crossed a multiple of 2,048 ns. -/
def execRampWindowStart (s : State) : Host.Outcome State Fault Refusal :=
  if s.due 1 2048 then
    let t := s.serve 1 2048
    match s.live.limits with
    | some l =>
      let rails := t.feed.rails.map fun r => r.newWindow l.rampBudget
      done s (State.decideAll { t with feed := { t.feed with rails := rails } } true)
    | none => done s t
  else skip s

/-- The engine queues of a Nib that wakes, as its ports advertised them (R274, R511). -/
def Nib.closedCores (b : Nib) : List (List EngineQueue) :=
  b.ports.map fun c => (c.1.zip c.2).map fun p =>
    { credits := p.1, cls := p.2, opened := false, buf := [], out := [], nextSeq := 0, abort := none, abortSince := 0, abortWaiting := [],
      mop := [], reply := [] }

/-- NIB_WAKE_DONE (R42, R378): a released Nib has run one alignment round of four exchanges and stepped its count to the
result; it is in IDLE (log 122). -/
def execNibWakeDone (nib : Nat) (probes : List Probe) (s : State) : Host.Outcome State Fault Refusal :=
  match s.nibs[nib]? with
  | some b =>
    if b.present ∧ b.waking ∧ s.roundFits (.nib nib) probes then
      let level := match s.feed.rails[s.railOf nib]? with | some r => r.level | none => 0
      let inc := match s.live.limits with | some l => l.nclkMhz.getD level 0 | none => 0
      let t := s.modNib nib fun b =>
        { b with power := .idle, waking := false, idleSince := s.now, offset := some (s.parentNow (.nib nib) - s.now)
                 alignedAt := some s.now, slew := 0, unaligned := false, cores := b.closedCores, openCores := 0
                 level := level, increment := inc }
      done s (t.decideAll false)
    else skip s
  | none => skip s

end Sys2Proof.Machine
end

