-- ==== Sys2Proof/Machine/Effects.lean ====
section
/-! DEFINITION. Commands that take effect after their parse, by the row that parses them (R200, R204, R217, R223, R230; log 8), and
the responses of posted writes. -/

namespace Sys2Proof.Machine

open Sys2Proof

/-- The first command of a queue of one opcode that is eligible to begin (R200), its submission and context. -/
def State.openCmd (s : State) (q opcode : Nat) : Option (Queue × Sub × Cmd × Nat × Ctx) :=
  match tget s.queues q, s.ctxOfQueue q with
  | some x, some (slot, c) =>
    if s.dmeRuns x.dme then
      (x.subs.findSome? fun u => if u.failed.isSome then none
        else (u.cmds.find? fun d => d.state == .parsed && d.op.opcode == opcode && x.eligible u d).map fun d => (u, d)).map
        fun p => (x, p.1, p.2, slot, c)
    else none
  | _, _ => none

/-- The same command where its DME chooses it: no other eligible command of the DME's queues is of a lower class, or of the same
and parsed earlier (R204). -/
def State.eligibleCmd (s : State) (q opcode : Nat) : Option (Queue × Sub × Cmd × Nat × Ctx) :=
  (s.openCmd q opcode).filter fun p => s.chosen p.1 p.2.2.1

/-- The answer of a row that puts its oldest eligible command into effect, or else parses. -/
def effectOr (s : State) (q opcode : Nat) (effect : Queue → Sub → Cmd → Nat → Ctx → State)
    (parse : Option State) : Host.Outcome State Fault Refusal :=
  match s.eligibleCmd q opcode with
  | some (x, u, d, slot, c) => done s ((effect x u d slot c).cbFetch q).settled
  | none => parsed s parse

/-- EVENT_RECORD (R217): every earlier command of its buffer is complete, and none failed, or it would be discarded. -/
def execEventRecord (q : Nat) (s : State) : Host.Outcome State Fault Refusal :=
  effectOr s q 0x20
    (fun _ u d slot _ => match d.op with
      | .eventRecord e => (s.recordEvent slot e Code.ok).completeCmd q u.seq d.off
      | _ => s)
    (s.parseRow q 0x20 eventRecordChecks (fun _ _ c b => [eventCheck c 4 (le b 4 2)]) fun _ u slot _ b t =>
      (t.armEvent slot (le b 4 2)).addCmd q u (.eventRecord (le b 4 2)) [])

/-- WRITE_IMM (R223): one single-copy atomic write. -/
def execWriteImm (q : Nat) (s : State) : Host.Outcome State Fault Refusal :=
  effectOr s q 0x30
    (fun _ u d _ c => match d.op with
      | .writeImm wide addr value =>
        (s.modCmd q u.seq d.off fun d => { d with state := .begun }).writeMem (some (.writeImm q)) c.pasid c.partition addr
          (leBytes (if wide then 8 else 4) value.toNat) true
      | _ => s)
    (s.parseRow q 0x30 writeImmChecks noChecks fun _ u _ _ b t =>
      t.addCmd q u (.writeImm (bit (flagsOf b) 0) (le64 b 8) (le64 b 0x10)) [])

/-- Whether a command is the issued WRITE_IMM that a write request is of. -/
def Cmd.issued (r : MemReq) (c : Cmd) : Bool :=
  match c.op with
  | .writeImm wide addr value =>
    c.state == .begun && addr == r.addr && r.data == leBytes (if wide then 8 else 4) value.toNat
  | _ => false

/-- The writes whose responses WRITE_IMM_VISIBLE delivers: WRITE_IMM's, and those for which no row stands in the table (log
128): a tail word (R181), a relay (R345), an admin response (R106), a private region (R164, R254, R299). -/
def MemWait.posted : MemWait → Bool
  | .writeImm _ => true
  | .tailStore _ => true
  | .relay _ => true
  | .adminAnswer _ => true
  | .privateWrite => true
  | _ => false

/-- The response of an issued WRITE_IMM (R223). -/
def State.writeImmEnds (s : State) (q : Nat) (r : MemReq) (ok : Bool) : State :=
  let cmd := (tget s.queues q).bind fun x => x.subs.findSome? fun u => (u.cmds.find? (Cmd.issued r)).map fun c => (u.seq, c.off)
  match cmd with
  | some (n, off) =>
    if ok then (s.completeCmd q n off).cbFetch q
    else (s.failCmd q n off Code.memoryError (s.dmeUnit q)).pasidFault r.pasid Code.memoryError
  | none => if ok then s else s.pasidFault r.pasid Code.memoryError

/-- The response of an admin submission is on its way no longer. -/
def State.dropAnswer (s : State) (n : Nat) : State :=
  { s with mgmt := { s.mgmt with answers := s.mgmt.answers.filter fun a => a.sub.toNat != n } }

/-- An admin submission whose response is visible retires (R106). -/
def State.adminRetires (s : State) (n : Nat) : State :=
  match s.mgmt.answers.find? fun a => a.sub.toNat == n with
  | some a => (s.dropAnswer n).retire 0 a.sub a.status
  | none => s

/-- The response of a relay write (R334, R345): waits on the address it has written are evaluated; an error has its sync fault
record (R340; log 134). -/
def State.relayEnds (s : State) (r : MemReq) (ok : Bool) : State :=
  if ok then s.evalWord (.mem r.pasid r.addr) (le64 r.data 0)
  else (s.syncFault Code.memoryError (syncObject (.mem r.pasid r.addr)) 0).pasidFault r.pasid Code.memoryError

/-- WRITE_IMM_VISIBLE (R223): a posted write is visible, so its command completes, or its admin submission retires (R106); an
error response is context-fatal (R150). -/
def execWriteImmVisible (write : MemWait) (ok : Bool) (s : State) : Host.Outcome State Fault Refusal :=
  if ¬MemWait.posted write then skip s
  else match s.answered write with
    | none => late s write
    | some (r, t) =>
      match write with
      | .writeImm q => done s (t.writeImmEnds q r ok).settled
      | .relay _ => done s (t.relayEnds r ok).settled
      | .adminAnswer n => done s (if ok then t.adminRetires n else (t.dropAnswer n).pasidFault r.pasid Code.memoryError).settled
      | _ => done s (if ok || r.phys then t else t.pasidFault r.pasid Code.memoryError).settled

/-- PART_CONTROL (R230): the partition is looked for as it takes effect. -/
def execPartControl (q : Nat) (s : State) : Host.Outcome State Fault Refusal :=
  effectOr s q 0x80
    (fun _ u d _ _ => match d.op with
      | .partControl p release =>
        if (tget s.parts p).isSome then (s.modPart p fun x => { x with hold := !release }).completeCmd q u.seq d.off
        else s.failCmd q u.seq d.off Code.badValue (s.dmeUnit q)
      | _ => s)
    (s.parseRow q 0x80 partControlChecks noChecks fun _ u _ _ b t =>
      t.addCmd q u (.partControl (le b 4 1 % 64) (le b 5 1 == 1)) [])

/-- FEED_SET (R230). -/
def execFeedSet (q : Nat) (s : State) : Host.Outcome State Fault Refusal :=
  effectOr s q 0x81
    (fun _ u d _ _ => match d.op with
      | .feedSet w => State.completeCmd { s with feed := { s.feed with hostLimit := w } } q u.seq d.off
      | _ => s)
    (s.parseRow q 0x81 feedSetChecks noChecks fun _ u _ _ b t => t.addCmd q u (.feedSet (le32 b 4)) [])

/-- TRACE_SET (R230): DUC_TRACE_MASK and DUC_MOP_SEL. -/
def execTraceSet (q : Nat) (s : State) : Host.Outcome State Fault Refusal :=
  effectOr s q 0x82
    (fun _ u d _ _ => match d.op with
      | .traceSet m p mask mop =>
        let t := if m then s.write32 0 0x30034 mask.toNat else s
        (if p then t.write32 0 0x30044 mop.toNat else t).completeCmd q u.seq d.off
      | _ => s)
    (s.parseRow q 0x82 traceSetChecks noChecks fun _ u _ _ b t =>
      t.addCmd q u (.traceSet (bit (flagsOf b) 0) (bit (flagsOf b) 1) (le32 b 4) (le32 b 8)) [])

/-- Blocks that PRIV_WRITE reaches (R231): IGA, DUC, FEED, FLT and DBG. -/
def privReach (off : Nat) : Bool := let b := off / 0x10000; b == 2 || b == 3 || b == 4 || b == 5 || b == 9

/-- The write of a PRIV_WRITE, as an HTP write of its size with no agent's latch (R231). -/
def privAccess (wide : Bool) (off : Nat) (v : W64) : HtpAccess :=
  { agent := 16, write := true, offset := off, size := if wide then 3 else 2,
    data := inLanes off (leBytes (if wide then 8 else 4) v.toNat) }

/-- PRIV_WRITE (R231). -/
def execPrivWrite (q : Nat) (s : State) : Host.Outcome State Fault Refusal :=
  effectOr s q 0x83
    (fun _ u d _ _ => match d.op with
      | .privWrite wide off v => (s.serveAccess (privAccess wide off v)).completeCmd q u.seq d.off
      | _ => s)
    (s.parseRow q 0x83 privWriteChecks
      (fun _ _ _ b =>
        let off := le b 4 4
        let half := !bit (flagsOf b) 0 && ((s.reg64 off).isSome || (decide (4 ≤ off) && (s.reg64 (off - 4)).isSome))
        [(4, privReach off, Code.privRange), (5, !half, Code.badValue)])
      fun _ u _ _ b t => t.addCmd q u (.privWrite (bit (flagsOf b) 0) (le b 4 4) (le64 b 8)) [])

end Sys2Proof.Machine
end

