-- ==== Sys2Proof/Machine/Skein.lean ====
section
/-! DEFINITION. Barriers and the Skein (R342 to R358), and the commands and requests that operate on words, wait on them or
arrive at barriers (R220 to R222, R230, R329 to R336). -/

namespace Sys2Proof.Machine

open Sys2Proof

/-! ## Instances -/

/-- The running instance of a barrier (R347). -/
def State.barrierRun (s : State) (b : Nat) : Option BarrierRun := s.sync.barriers.find? fun r => r.entry.barrier == b

/-- The entry that governs a barrier: its running instance's, else the sealed table's (R355). -/
def State.skeinEntry (s : State) (b : Nat) : Option SkeinEntry :=
  match s.barrierRun b with
  | some r => some r.entry
  | none => s.live.skein.find? fun e => e.barrier == b

/-- The present Nibs of a partition. -/
def State.partNibs (s : State) (p : Nat) : List Nat :=
  match tget s.parts p with
  | some x => x.nibs.filter fun n => (s.nibs[n]?.map Nib.present).getD false
  | none => []

/-- An instance that starts now (R346, R349). -/
def State.freshRun (s : State) (e : SkeinEntry) : BarrierRun :=
  { entry := e, gen := tgetD s.sync.gens e.barrier e.startGen, since := s.now, upWait := false,
    nibsWanted := if e.nibCores = 0 then [] else s.partNibs e.partition, nibsHere := [], arrivedQueues := 0,
    childDone := List.replicate e.children none, late := (s.live.deviceId, 0), lastPoll := none, resealed := false }

/-- The instances with one of them replaced, or added. -/
def SyncUnit.putRun (y : SyncUnit) (r : BarrierRun) : SyncUnit :=
  if y.barriers.any fun q => q.entry.barrier == r.entry.barrier then
    { y with barriers := y.barriers.map fun q => if q.entry.barrier = r.entry.barrier then r else q }
  else { y with barriers := y.barriers ++ [r] }

/-- An instance put in place. -/
def State.putRun (s : State) (r : BarrierRun) : State := { s with sync := s.sync.putRun r }

/-- Whether every expected local arrival is counted (R348, R386). -/
def BarrierRun.localDone (r : BarrierRun) : Bool :=
  (r.nibsWanted.all r.nibsHere.contains) && decide (r.entry.queueArrivals ≤ r.arrivedQueues)

/-- Whether an instance is complete (R348). -/
def BarrierRun.complete (r : BarrierRun) : Bool := r.localDone && r.childDone.all Option.isSome

/-- Whether this device is the root of a barrier's tree (R343). -/
def SkeinEntry.root (e : SkeinEntry) : Bool := e.parent.isNone

/-- Whether a Nib has sent its arrival at a barrier: it is counted, or on its way up Yarn, folded at its splitter or not
(R349, R353). -/
def State.nibSent (s : State) (r : BarrierRun) (n : Nat) : Bool :=
  let up (m : UpMsg) : Bool := match m with | .barrier nibs b _ => b == r.entry.barrier && nibs.contains n | _ => false
  r.nibsHere.contains n || (s.nibs.any fun b => b.up.any up) ||
    (s.splitters.any fun x => x.up.any up || x.barriers.any fun f => f.ident == r.entry.barrier && f.here.contains n) ||
    s.sync.late.any fun a => a.barrier == r.entry.barrier && a.nibs.contains n

/-- The missing participant of an instance: kind and identity (R353). -/
def State.missingOf (s : State) (r : BarrierRun) : Nat × Nat :=
  match r.childDone.findIdx? Option.isNone with
  | some k => (0, r.entry.childDevice.getD k 0)
  | none =>
    match r.nibsWanted.find? fun n => !s.nibSent r n with
    | some n => (1, n)
    | none =>
      if r.arrivedQueues < r.entry.queueArrivals then (2, r.entry.queueArrivals - r.arrivedQueues)
      else (3, r.entry.parent.getD 0xFFFF)

/-- The throttle reason mask of a partition for a barrier (R387). -/
def State.barrierMask (s : State) (p b : Nat) : Nat :=
  match tget s.parts p with
  | some x => (tgetD x.maskSince (b + 1) (tgetD x.maskSince 0 0) ||| s.reasonsOf p x) % 128
  | none => 0

/-- A BARRIER record (R49) of the Sync Unit. -/
def State.barrierRecord (s : State) (b device : Nat) (release : Bool) (mask : Nat) : State :=
  s.record unitSync 0x09 (b + 2 ^ 32 * (device % 4096) + 2 ^ 44 * b2n release + 2 ^ 45 * (mask % 256))

/-! ## Relay words (R345) -/

/-- An arrival slot of a complete instance (R350). -/
def slotOk (gen : W32) (late : Nat × Nat) : W64 :=
  BitVec.ofNat 64 (gen.toNat + 2 ^ 32 * (late.1 % 4096) + 2 ^ 44 * (late.2 % 256))

/-- An arrival slot with FAIL (R353). -/
def slotFail (gen : W32) (missing : Nat × Nat) : W64 :=
  BitVec.ofNat 64 (gen.toNat + 2 ^ 32 * (missing.2 % 2 ^ 20) + 2 ^ 52 + 2 ^ 53 * (missing.1 % 4))

/-- A release word. -/
def releaseWord (gen : W32) (fail : Option (Nat × Nat)) : W64 :=
  BitVec.ofNat 64 (gen.toNat + match fail with
    | some m => 2 ^ 32 + 2 ^ 33 * (m.1 % 4) + 2 ^ 35 * (m.2 % 2 ^ 20)
    | none => 0)

/-- A relay write: 8 bytes with the atomic marking under the entry's PASID (R345, R502). -/
def State.relay (s : State) (e : SkeinEntry) (addr v : W64) : State :=
  s.writeMem (some (.relay e.barrier)) e.pasid (some e.partition) addr (leBytes 8 v.toNat) true

/-- Whether the reserved fields of an arrival slot are 0 (R11, R345): a slot in which they are not is refused, which no code
reports (log 133). -/
def slotClean (v : Nat) : Bool := bits v 63 55 == 0 && (bit v 52 || bits v 54 53 == 0)

/-- Whether the reserved field of a release word is 0 (R11, R345; log 133). -/
def releaseClean (v : Nat) : Bool := bits v 63 55 == 0

/-! ## Release (R351, R358) -/

/-- ALIGN of one counter pair (R358): the state, and whether it matched. -/
def State.alignPair (s : State) (a : AlignPair) : State × Bool :=
  let p := s.word a.p
  let c := s.word a.c
  if c.toNat = 2 ^ a.k ∧ c.toNat ≤ p.toNat ∧ p.toNat - c.toNat ≤ a.slack then
    let words := wset (wset s.sync.words a.p (p - c)) a.c 0
    let s := { s with sync := { s.sync with words := words } }
    let s := (s.syncRecord (.sram a.p) 5 0 (.queue 0 0 0)).syncRecord (.sram a.c) 5 0 (.queue 0 0 0)
    ((s.evalWord (.sram a.p) (p - c)).evalWord (.sram a.c) 0, true)
  else (s.syncFault Code.alignMismatch (2 ^ 16 * 3 + 2 ^ 18 * a.p) 0, false)

/-- Every pair of an entry, in order; whether all matched. -/
def State.alignPairs (s : State) : List AlignPair → State × Bool
  | [] => (s, true)
  | a :: r =>
    let x := s.alignPair a
    let y := x.1.alignPairs r
    (y.1, x.2 && y.2)

/-- The waits on a barrier's release end: BARRIER commands complete or fail; engine requests are answered by their Nibs
(R351). -/
def State.releaseWaits (s : State) (b : Nat) (code : W16) : State :=
  let mine (w : SyncWait) : Bool := w.registered && w.word == .barrier b
  let hits := s.sync.waits.filter mine
  let s := { s with sync := { s.sync with waits := s.sync.waits.filter fun w => !mine w } }
  hits.foldl (fun s w => match w.party with
    | .queue .. => s.answerSync w.party code 0
    | _ => s) s

/-- The sync fault records of a failed instance (R340, R353): one for each local participant that waits, naming it and the
missing participant, or one with no waiter where none waits (R341). -/
def State.failRecords (s : State) (b : Nat) (m : Nat × Nat) : State :=
  let object := syncObject (.barrier b) + 2 ^ 50 * m.1 + 2 ^ 52 * (m.2 % 2 ^ 20)
  let waiters := (s.sync.waits.filter fun w => w.registered && w.word == .barrier b).map fun w => syncWaiter w.handle w.party
  (if waiters.isEmpty then [0] else waiters).foldl (fun s w => s.syncFault Code.syncTimeout object w) s

/-- The release multicast down Yarn to the partition's Nibs (R351). -/
def State.multicastRelease (s : State) (e : SkeinEntry) (gen : W32) (code : W16) : State :=
  let nibs := s.partNibs e.partition
  let via (n : Nat) : Nat := match s.nibs[n]? with | some b => b.via | none => 0
  (sortNats (nibs.map via)).foldl (fun s sp =>
    s.emit (.down sp (.release (nibs.filter fun n => via n == sp) e.partition e.barrier gen code))) s

/-- A local release (R351): alignment, the children's release words, the local participants, the release record; then the
generation moves on and PACE, the purl phase and the mask's period end (R346, R385 to R387). -/
def State.releaseRun (s : State) (r : BarrierRun) (fail : Option (Nat × Nat)) : State :=
  let e := r.entry
  let b := e.barrier
  let al := s.alignPairs e.pairs
  let s := al.1
  let s := e.childRelease.foldl (fun s a => s.relay e a (releaseWord r.gen fail)) s
  let code := if fail.isSome then Code.syncTimeout else if al.2 then Code.ok else Code.alignMismatch
  let s := match fail with
    | some m => s.failRecords b m
    | none => s
  let gens := if r.resealed then s.sync.gens else tset s.sync.gens b (r.gen + 1)
  let s := { s with sync := { s.sync with barriers := s.sync.barriers.filter fun q => q.entry.barrier != b, gens := gens } }
  let s := s.releaseWaits b code
  let s := s.multicastRelease e r.gen code
  let s := s.barrierRecord b r.late.1 true r.late.2
  (s.endPurl e.partition b).modPart e.partition fun x =>
    { x with pace := x.pace.filter (· != b), maskSince := tset x.maskSince (b + 1) 0 }

/-! ## Arrivals -/

/-- What follows a counted arrival (R348, R350, R386): PACE once all is local, the way up, or the root's release. -/
def State.afterArrival (s : State) (r : BarrierRun) : State :=
  let s := s.putRun r
  let s := if r.localDone then s.modPart r.entry.partition fun x => { x with pace := sortNats (r.entry.barrier :: x.pace) } else s
  if r.complete ∧ ¬r.upWait then
    if r.entry.root then s.releaseRun r none
    else (s.putRun { r with upWait := true, lastPoll := none }).relay r.entry r.entry.upAddr (slotOk r.gen r.late)
  else s

/-- The instance that an arrival joins: the running one, or a new one where fewer than 16 run (R347). -/
def State.joinRun (s : State) (b : Nat) : Option BarrierRun :=
  match s.barrierRun b with
  | some r => some r
  | none => if s.sync.barriers.length < 16 then (s.skeinEntry b).map s.freshRun else none

/-- The mask and record of a local arrival: stamped, and kept as the latest one (R350). -/
def State.localArrival (s : State) (r : BarrierRun) : State × BarrierRun :=
  let mask := s.barrierMask r.entry.partition r.entry.barrier
  (s.barrierRecord r.entry.barrier s.live.deviceId false mask, { r with late := (s.live.deviceId, mask) })

/-- The waits of a queue that has arrived count as registered. -/
def SyncUnit.markArrived (y : SyncUnit) (b : Nat) (p : SyncParty) : SyncUnit :=
  { y with waits := y.waits.map fun w => if w.word = .barrier b ∧ w.party = p then { w with registered := true } else w }

/-- A queue arrives, if the instance can run (R348, R349); the state is none where the arrival must wait (R347). -/
def State.arriveQueue (s : State) (b : Nat) (p : SyncParty) : Option State :=
  (s.joinRun b).map fun r =>
    let a := State.localArrival { s with sync := s.sync.markArrived b p } r
    a.1.afterArrival { a.2 with arrivedQueues := a.2.arrivedQueues + 1 }

/-- Nibs arrive whose cores have all arrived (R349). -/
def State.arriveNibs (s : State) (b : Nat) (nibs : List Nat) : Option State :=
  (s.joinRun b).map fun r =>
    let a := s.localArrival r
    a.1.afterArrival { a.2 with nibsHere := sortNats (a.2.nibsHere ++ nibs) }

/-- A core's request reaches the Sync Unit: it starts the instance, and with the first core arrival a purl phase starts or
is joined (R348, R384); the Nib's own message counts it. -/
def State.arriveCore (s : State) (b : Nat) (p : SyncParty) : Option State :=
  (s.joinRun b).map fun r =>
    let core (w : SyncWait) : Bool := w.registered && w.word == .barrier b && (match w.party with | .engine .. => true | _ => false)
    let first := r.nibsHere.isEmpty && !s.sync.waits.any core
    let s := { s.putRun r with sync := (s.putRun r).sync.markArrived b p }
    if first then s.startPurl r.entry.partition b else s

/-- An arrival taken in, or left waiting for room (R347). -/
def State.orLate (s : State) (a : LateArrival) (r : Option State) : State :=
  match r with
  | some t => t
  | none => { s with sync := { s.sync with late := s.sync.late ++ [a] } }

/-- An arrival that waited is taken in, if it can be now. -/
def State.takeIn (s : State) (a : LateArrival) : Option State :=
  match a.party with
  | some (.queue q n off) => s.arriveQueue a.barrier (.queue q n off)
  | some p => s.arriveCore a.barrier p
  | none => s.arriveNibs a.barrier a.nibs

/-- The sync fault record of an arrival refused under R354 (R340); it names no missing participant. -/
def State.barrierRefused (s : State) (a : LateArrival) (code : W16) (handle : W32) : State :=
  match a.party with
  | some p => s.syncFault code (syncObject (.barrier a.barrier)) (syncWaiter handle p)
  | none => s

/-- Waiting arrivals are taken in, in order, as instances end (R332, R347). One whose barrier the table no longer holds
is refused (R354). -/
def State.admitLate : Nat → State → State
  | 0, s => s
  | fuel + 1, s =>
    match takeFirst (fun a => (s.takeIn a).isSome || (s.skeinEntry a.barrier).isNone) s.sync.late with
    | none => s
    | some (a, rest) =>
      let t := { s with sync := { s.sync with late := rest } }
      match t.takeIn a with
      | some t => State.admitLate fuel t
      | none =>
        let gone (w : SyncWait) : Bool := w.word == .barrier a.barrier && !w.registered && some w.party == a.party
        let handle := match t.sync.waits.find? gone with | some w => w.handle | none => 0
        let t : State := { t with sync := { t.sync with waits := t.sync.waits.filter fun w => !gone w } }
        State.admitLate fuel (match a.party with
          | some (.queue q n off) => (t.barrierRefused a Code.badValue handle).failCmd q n off Code.badValue unitSync
          | some (.engine nib core eq mopSeq reqTag _) =>
            (t.barrierRefused a Code.syncTimeout handle).sendNib nib
              (.syncReply { nib := nib, core := core, eq := eq, mopSeq := mopSeq, reqTag := reqTag, result := 3, value := 0,
                            code := Code.syncTimeout })
          | _ => t)

/-- The state once every arrival that can be has been taken in, and every satisfied wait has acted. -/
def State.quiet (s : State) : State := (State.admitLate s.sync.late.length s).settled

/-! ## Commands of queues -/

/-- A wait of a command of a queue (R221, R222, R336): its timeout counts from its parse; 0 leaves it to the queue's. -/
def Cmd.syncWaitOf (c : Cmd) (h : W32) (part : Option Nat) (q : Nat) (n : W64) (word : WordRef) (op : Nat) (value mask : W64)
    (timeoutUs pollUs : Nat) : SyncWait :=
  { ident := 0, handle := h, partition := part, word := word, op := op, value := value, mask := mask,
    party := .queue q n c.off, since := c.stamp, timeoutUs := timeoutUs, pollUs := pollUs, registered := false, held := true }

/-- A word of a SYNC command (R220, R221). -/
def syncWord (c : Ctx) (mem : Bool) (index : Nat) (addr : W64) : WordRef := if mem then .mem c.pasid addr else .sram index

/-- The wait of a SYNC_WAIT or a BARRIER that has just been parsed, the last command of its submission: its timeout runs
(R336). -/
def State.holdLast (s : State) (h : W32) (c : Ctx) (q : Nat) (n : W64) : State :=
  match (s.subOf q n).bind fun u => u.cmds.getLast? with
  | none => s
  | some d =>
    match d.op with
    | .syncWait op mem index addr value mask timeoutUs pollUs =>
      s.holdWait (d.syncWaitOf h c.partition q n (syncWord c mem index addr) op value mask timeoutUs pollUs)
    | .barrier b timeoutUs => s.holdWait (d.syncWaitOf h c.partition q n (.barrier b) 6 0 0 timeoutUs 0)
    | _ => s

/-- A command begins to wait, its queue PARKED (R221, R222). -/
def State.park (s : State) (q : Nat) (n : W64) (off : Nat) : State :=
  let s := (s.modCmd q n off fun d => { d with state := .begun }).modQueue q fun x => { x with parked := true }
  { s with sync := s.sync.arrive (.queue q n off) }

/-- A SYNC_WAIT begins to wait (R221). -/
def State.beginWait (s : State) (q : Nat) (u : Sub) (d : Cmd) : State :=
  let s := s.park q u.seq d.off
  match s.sync.waits.find? fun w => w.party == .queue q u.seq d.off with
  | some w => s.enter w.ident
  | none => s

/-- SYNC_OP (R220). -/
def execSyncOp (q : Nat) (s : State) : Host.Outcome State Fault Refusal :=
  effectOr s q 0x22
    (fun x u d _ c => match d.op with
      | .syncOp op mem index addr value =>
        let s := s.modCmd q u.seq d.off fun d => { d with state := .begun }
        let p : SyncParty := .queue q u.seq d.off
        if mem then (s.modQueue q fun x => { x with parked := true }).memOp (op == 1) c.pasid c.partition addr value x.handle p
        else s.sramOp (op == 1) index value x.handle p
      | _ => s)
    (s.parseRow q 0x22 syncOpChecks noChecks fun _ u _ _ b t =>
      let f := flagsOf b
      t.addCmd q u (.syncOp (bits f 2 0) (bit f 3) (le b 4 4 % 32768) (le64 b 8) (le64 b 0x10)) [])

/-- SYNC_WAIT (R221); in EXPLICIT mode it waits from its parse (R200). -/
def execSyncWait (q : Nat) (s : State) : Host.Outcome State Fault Refusal :=
  effectOr s q 0x23
    (fun _ u d _ _ => s.beginWait q u d)
    (s.parseRow q 0x23 syncWaitChecks noChecks fun x u _ c b t =>
      let f := flagsOf b
      let t := t.addCmd q u (.syncWait (bits f 2 0) (bit f 3) (le b 4 4 % 32768) (le64 b 8) (le64 b 0x10) (le64 b 0x18)
        (le b 0x20 4) (le b 0x24 4)) []
      let t := t.holdLast x.handle c q u.seq
      if u.explicit then
        match t.openCmd q 0x23 with
        | some (_, v, d, _, _) => if v.seq = u.seq ∧ d.off = u.pos then t.beginWait q u d else t
        | none => t
      else t)

/-- A BARRIER command arrives (R222, R349, R354): refused with BAD_VALUE, or counted with its queue PARKED. -/
def State.beginBarrier (s : State) (x : Queue) (q : Nat) (u : Sub) (d : Cmd) (c : Ctx) : State :=
  match d.op with
  | .barrier b _ =>
    let p : SyncParty := .queue q u.seq d.off
    if (s.skeinEntry b).any fun e => c.partition == some e.partition then
      let s := s.park q u.seq d.off
      s.orLate ⟨b, [], some p⟩ (s.arriveQueue b p)
    else (s.barrierRefused ⟨b, [], some p⟩ Code.badValue x.handle).failCmd q u.seq d.off Code.badValue unitSync
  | _ => s

/-- BARRIER (R222). -/
def execBarrier (q : Nat) (s : State) : Host.Outcome State Fault Refusal :=
  effectOr s q 0x24
    (fun x u d _ c => (s.beginBarrier x q u d c).quiet)
    (s.parseRow q 0x24 barrierChecks noChecks fun x u _ c b t =>
      (t.addCmd q u (.barrier (le b 4 4) (le b 8 4)) []).holdLast x.handle c q u.seq)

/-- A range of Sync SRAM words and their attribute set (R230): each word has its record (R329), and its waits are evaluated on its
value (R327). -/
def State.syncConfig (s : State) (local_ : Bool) (first count : Nat) (v : W64) (h : W32) (p : SyncParty) : State :=
  let range := (List.range count).map (first + ·)
  let words := (s.sync.words.filter fun e => decide (e.1 < first)) ++ (if v = 0 then [] else range.map fun i => (i, v)) ++
    (s.sync.words.filter fun e => decide (first + count ≤ e.1))
  let attr := (s.sync.taskLocal.filter fun i => decide (i < first)) ++ (if local_ then range else []) ++
    (s.sync.taskLocal.filter fun i => decide (first + count ≤ i))
  let s := { s with sync := { s.sync with words := words, taskLocal := attr } }
  range.foldl (fun s i => (s.syncRecord (.sram i) 0 h p).evalWord (.sram i) v) s

/-- SYNC_CONFIG (R230). -/
def execSyncConfig (q : Nat) (s : State) : Host.Outcome State Fault Refusal :=
  effectOr s q 0x84
    (fun x u d _ _ => match d.op with
      | .syncConfig local_ first count v =>
        (s.syncConfig local_ first count v x.handle (.queue q u.seq d.off)).completeCmd q u.seq d.off
      | _ => s)
    (s.parseRow q 0x84 syncConfigChecks noChecks fun _ u _ _ b t =>
      t.addCmd q u (.syncConfig (bit (flagsOf b) 0) (le b 4 2) (le b 6 2) (le64 b 8)) [])

/-! ## Requests of engines (R329, R330) -/

/-- An engine's SYNC request at the Sync Unit, for the task it acts for (R330, R336): a timeout of 0 is the launching
queue's. -/
def State.engineSync (s : State) (r : SyncReq) (k : Task) : State :=
  let h := match tget s.ctxs k.slot with | some c => handleOf k.slot c.gen | none => 0
  let p : SyncParty := .engine r.nib r.core r.eq r.mopSeq r.reqTag r.tag
  let timeout := if r.timeoutUs = 0 then (match tget s.queues k.queue with | some x => x.timeoutUs | none => 0) else r.timeoutUs
  let word : WordRef := if r.op = 6 then .barrier r.index else if r.inMemory then .mem k.pasid r.addr else .sram r.index
  let w : SyncWait := { ident := s.sync.nextWait, handle := h, partition := some k.partition, word := word, op := r.op,
                        value := r.value, mask := r.mask, party := p, since := r.since, timeoutUs := timeout,
                        pollUs := r.pollUs, registered := false, held := false }
  if r.op ≤ 1 then
    if r.inMemory then s.memOp (r.op == 1) k.pasid (some k.partition) r.addr r.value h p
    else s.sramOp (r.op == 1) r.index r.value h p
  else if r.op = 6 then
    let s := { s with sync := { s.sync with waits := s.sync.waits ++ [w], nextWait := s.sync.nextWait + 1 } }
    s.orLate ⟨r.index, [], some p⟩ (s.arriveCore r.index p)
  else s.addWait w

/-- Whether a task has been aborted (R151, R394, R474): its Nibs answer what is open of it ABORTED. -/
def State.aborted (s : State) (k : Task) : Bool :=
  (match tget s.ctxs k.slot with | some c => c.killed | none => true) || s.feed.halt || s.mgmt.warmReset

/-- SYNC_REQUEST_AT_SYNC_UNIT (R330, R338): the SYNC request, or the residue request, at the front of a splitter's
up-stream. A wait or arrival whose task has been aborted, and any request whose task is no longer in flight, takes no entry:
its Nib answers it ABORTED (R331). -/
def execSyncRequestAtSyncUnit (sp : Nat) (s : State) : Host.Outcome State Fault Refusal :=
  match s.hubFront sp with
  | some (.sync r, t) =>
    match tget t.tasks r.tag with
    | some k => done s (if 2 ≤ r.op ∧ t.aborted k then t else t.engineSync r k).quiet
    | none => done s t
  | some (.residue nib tag epoch words, t) =>
    done s (t.sendNib nib (.residue nib tag epoch (words.map t.word)))
  | _ => skip s

/-- BARRIER_ARRIVAL_HUB (R348, R349): Nibs whose cores have all arrived are counted. -/
def execBarrierArrivalHub (sp : Nat) (s : State) : Host.Outcome State Fault Refusal :=
  match s.hubFront sp with
  | some (.barrier nibs b _, t) =>
    match t.skeinEntry b with
    | some _ => done s (t.orLate ⟨b, nibs, none⟩ (t.arriveNibs b nibs)).quiet
    | none => done s t
  | _ => skip s

/-! ## Polls and the instance timer (R348) -/

/-- Polls of the child slots of an entry that a list names and that are not being read. -/
def State.pollChildren (s : State) (e : SkeinEntry) (ks : List Nat) : State :=
  (ks.filter fun k => !s.waitsFor (.barrierPoll e.barrier (some k))).foldl (fun t k =>
    t.readMem (.barrierPoll e.barrier (some k)) e.pasid (some e.partition) (e.arriveBase + BitVec.ofNat 64 (8 * k)) 8 false) s

/-- BARRIER_POLL (R348): the child slots, or the release word, 200 ns after the last poll. A barrier without
a running instance is polled for a child's first arrival (log 26). -/
def execBarrierPoll (barrier : Nat) (s : State) : Host.Outcome State Fault Refusal :=
  match s.barrierRun barrier with
  | none =>
    match s.skeinEntry barrier with
    | some e => if 0 < e.children ∧ s.primary then done s (s.pollChildren e (List.range e.children)) else skip s
    | none => skip s
  | some r =>
    let due : Bool := match r.lastPoll with | some t => decide (t + 200 ≤ s.now) | none => true
    let e := r.entry
    if due ∧ (r.upWait ∨ 0 < e.children) then
      let t := s.putRun { r with lastPoll := some s.now }
      if r.upWait then
        if s.waitsFor (.barrierPoll barrier none) then done s t
        else done s (t.readMem (.barrierPoll barrier none) e.pasid (some e.partition) e.releaseAddr 8 false)
      else
        done s (t.pollChildren e (List.range e.children))
    else skip s

/-- A child's arrival slot read while gathering (R346, R348, R350). A child that has been counted may still give its subtree up;
its slot then holds the generation (R353). -/
def State.childSlot (s : State) (r : BarrierRun) (k v : Nat) : State :=
  let e := r.entry
  if v % 2 ^ 32 ≠ r.gen.toNat ∨ r.upWait ∨ ¬slotClean v then s
  else if bit v 52 then
    let m := (bits v 54 53, bits v 51 32)
    if e.root then s.releaseRun r (some m)
    else (s.putRun { r with upWait := true, lastPoll := none, childDone := r.childDone.set k (some (0, 0)) }).relay e e.upAddr
      (BitVec.ofNat 64 v)
  else if (r.childDone.getD k none).isSome then s
  else
    let late := (bits v 43 32, bits v 51 44)
    let s := s.barrierRecord e.barrier (e.childDevice.getD k 0) false late.2
    s.afterArrival { r with childDone := r.childDone.set k (some late), late := late }

/-- The release word read while waiting for the tree (R348). -/
def State.releaseRead (s : State) (r : BarrierRun) (v : Nat) : State :=
  if v % 2 ^ 32 ≠ r.gen.toNat ∨ ¬r.upWait ∨ ¬releaseClean v then s
  else if bit v 32 then s.releaseRun r (some (bits v 34 33, bits v 54 35))
  else s.releaseRun r none

/-- BARRIER_POLL_RETURN (R348): an error response has its sync fault record (R340; log 134), and is context-fatal for the
entry's PASID (R150). -/
def execBarrierPollReturn (barrier : Nat) (word : Option Nat) (answer : Option W64) (s : State) :
    Host.Outcome State Fault Refusal :=
  match s.answered (.barrierPoll barrier word) with
  | none => late s (.barrierPoll barrier word)
  | some (req, t) =>
    match answer, t.barrierRun barrier with
    | none, _ =>
      done s ((t.syncFault Code.memoryError (syncObject (.mem req.pasid req.addr)) 0).pasidFault req.pasid Code.memoryError).quiet
    | some v, none =>
      match word, t.joinRun barrier with
      | some k, some r =>
        if v.toNat % 2 ^ 32 = r.gen.toNat ∧ slotClean v.toNat then done s ((t.putRun r).childSlot r k v.toNat).quiet else done s t
      | _, _ => done s t
    | some v, some r =>
      match word with
      | some k => done s (t.childSlot r k v.toNat).quiet
      | none => done s (t.releaseRead r v.toNat).quiet

/-- BARRIER_INSTANCE_TIMEOUT (R348, R353). -/
def execBarrierInstanceTimeout (barrier : Nat) (s : State) : Host.Outcome State Fault Refusal :=
  match s.barrierRun barrier with
  | none => skip s
  | some r =>
    let e := r.entry
    if r.since + 1000 * e.timeoutUs ≤ s.now then
      let m := if r.upWait then (3, e.parent.getD 0xFFFF) else s.missingOf r
      let t := if e.root then s else s.relay e e.upAddr (slotFail r.gen m)
      done s (t.releaseRun r (some m)).quiet
    else skip s

/-! ## Expiry of waits (R336) -/

/-- OBJ_KIND and OBJECT of the record of a wait that ends without success: a barrier's names the missing participant
(R340, R353). -/
def State.waitObject (s : State) (w : SyncWait) : Nat :=
  match w.word with
  | .barrier b =>
    let m : Nat × Nat := match s.barrierRun b with
      | some r => s.missingOf r
      | none => match s.skeinEntry b with | some e => s.missingOf (s.freshRun e) | none => (3, 0)
    syncObject w.word + 2 ^ 50 * m.1 + 2 ^ 52 * (m.2 % 2 ^ 20)
  | _ => syncObject w.word

/-- SYNC_WAIT_EXPIRY (R336, R353): the wait fails with SYNC_TIMEOUT; an arrival already counted stays counted. -/
def execSyncWaitExpiry (waitId : Nat) (s : State) : Host.Outcome State Fault Refusal :=
  match s.sync.waits.find? fun w => w.ident == waitId with
  | none => skip s
  | some w =>
    if 0 < w.timeoutUs ∧ w.since + 1000 * w.timeoutUs ≤ s.now then
      let late := s.sync.late.filter fun a => !(a.party == some w.party && w.word == .barrier a.barrier)
      let t := { s with sync := SyncUnit.prune { s.sync with
        waits := s.sync.waits.filter fun v => v.ident != waitId
        late := late } }
      let t := t.syncFault Code.syncTimeout (s.waitObject w) (syncWaiter w.handle w.party)
      done s (t.answerSync w.party Code.syncTimeout 0).quiet
    else skip s

/-! ## Queue timeouts (R182, R183) -/

/-- The record of a SYNC_WAIT or BARRIER that a queue's own timeout overtakes (R336). -/
def State.overtaken (s : State) (q : Nat) : State :=
  (s.sync.waits.filter fun w => match w.party with | .queue q' _ _ => q' == q | _ => false).foldl (fun s w =>
    s.syncFault Code.queueTimeout (s.waitObject w) (syncWaiter w.handle w.party)) s

/-- QUEUE_TIMEOUT (R182, R183): the oldest fetched submission has not retired TIMEOUT_US after its FETCH stamp. The admin
queue's expired submission retires alone, and firmware's later response is discarded. -/
def execQueueTimeout (q : Nat) (s : State) : Host.Outcome State Fault Refusal :=
  match (tget s.queues q).bind fun x => (x.subs.find? fun u => u.retired.isNone).map fun u => (x, u) with
  | none => skip s
  | some (x, u) =>
    if u.fetched + 1000 * x.timeoutUs ≤ s.now then
      if q = 0 then done s (s.retire 0 u.seq Code.queueTimeout).settled
      else if (match s.ctxOfQueue q with | some (_, c) => c.killed | none => true) then skip s
      else done s ((s.overtaken q).queueCtxFault q Code.queueTimeout).quiet
    else skip s

end Sys2Proof.Machine
end

