-- ==== Sys2Proof/Machine/Tasks.lean ====
section
/-! DEFINITION. Tasks in flight: fan-in at the splitters (R310 to R313, R349), the count of positions at the Hub (R314,
R315), migration (R291 to R294) and the loss of a Nib (R160, R469). -/

namespace Sys2Proof.Machine

open Sys2Proof

/-! ## Folding (R312) -/

/-- Rank of a completion status (R312). -/
def statusRank (st : W16) : Nat :=
  if st = Code.ok then 0
  else if st = Code.nonfinite then 1
  else if st = Code.syncResidue ∨ st = Code.syncTimeout ∨ st = Code.syncUnderflow ∨ st = Code.alignMismatch then 2
  else 3

/-- The NONFINITE report that counts of two: the earlier stamp, then the lower engine address (R280, R312). -/
def firstReport : Option NonFinite → Option NonFinite → Option NonFinite
  | none, b => b
  | a, none => a
  | some a, some b => if b.stamp < a.stamp ∨ (b.stamp = a.stamp ∧ b.engine < a.engine) then some b else some a

/-- A fan-in counter with the share of a port counted. -/
def FanIn.add (c : FanIn) (nib : Nat) (m : DoneMsg) : FanIn :=
  let r := statusRank m.status
  { c with
    arrived := sortNats (nib :: c.arrived)
    status := if c.rank < r then m.status else c.status
    rank := max c.rank r
    nf := firstReport c.nf m.nf }

/-- A completion message on Yarn (R313): 64 bytes; ports are numbered by the low 4 bits of the Nib ID (R497). -/
def DoneMsg.bytes (m : DoneMsg) : List Byte :=
  let nf := m.nf.getD ⟨0, 0⟩
  leBytes 1 0x11 ++ leBytes 1 (b2n m.migrated + 2 * b2n m.folded) ++ leBytes 1 (m.splitter % 32) ++ leBytes 1 m.position ++
    leBytes 2 m.tag ++ leBytes 2 m.status.toNat ++ leBytes 4 m.epoch.toNat ++
    leBytes 2 ((sortNats (m.arrived.map (· % 16))).foldl (fun a p => a + 2 ^ p) 0) ++ leBytes 2 0 ++ leBytes 8 nf.stamp ++
    leBytes 4 (nf.engine % 2 ^ 17) ++ List.replicate 36 0

/-- The folded message of a counter (R313). -/
def FanIn.message (c : FanIn) (sp : Nat) : DoneMsg :=
  { migrated := false, folded := true, splitter := sp, position := 0, tag := c.tag, status := c.status, epoch := c.epoch,
    arrived := c.arrived, nf := c.nf }

/-- Whether a counter is ready: ARRIVED equals EXPECTED and is not 0 (R311). -/
def FanIn.full (c : FanIn) : Bool := c.arrived == c.expected && !c.expected.isEmpty

/-- A counter of a splitter put back after a change: freed with its folded message where it is full, freed with nothing
where EXPECTED is 0 (R311). -/
def State.putCounter (s : State) (sp : Nat) (c : FanIn) : State :=
  let s := s.modSplitter sp fun x =>
    { x with counters := x.counters.filterMap fun d =>
        if d.tag = c.tag ∧ d.epoch = c.epoch then (if c.full || c.expected.isEmpty then none else some c) else some d }
  if c.full then s.splitterUp sp (.done (c.message sp)) else s

/-- The counter of a splitter for a tag and an epoch. -/
def State.counterOf (s : State) (sp tag : Nat) (epoch : W32) : Option FanIn :=
  match s.splitters[sp]? with
  | some x => x.counters.find? fun c => c.tag == tag && c.epoch == epoch
  | none => none

/-- A port of a splitter will report no more on a placement: its bit of EXPECTED is cleared (R311). -/
def State.clearPort (s : State) (sp nib : Nat) (c : FanIn) : State :=
  if c.expected.contains nib && !c.arrived.contains nib then
    s.putCounter sp { c with expected := c.expected.filter (· != nib) }
  else s

/-- SPLITTER_TASK_PASS (R310): the task message at the front of a splitter's down-stream goes to its Nibs; an initial
placement takes a counter with a bit for each of them, a migrated one none (R294, R311). A port whose Nib has been lost meanwhile
reports no more, and its bit is cleared as the loss clears it (log 65). The Hub's down-port has a credit back (R426). -/
def execSplitterTaskPass (sp : Nat) (s : State) : Host.Outcome State Fault Refusal :=
  match s.splitters[sp]? with
  | none => skip s
  | some x =>
    match x.down with
    | .task m :: rest =>
      if x.link ≠ .up then skip s
      else
        let ports := m.placement.filter fun n => match s.nibs[n]? with | some b => b.via == sp | none => false
        let gone (n : Nat) : Bool := !(s.nibs[n]?.map Nib.present).getD false
        let c : FanIn := { tag := m.tag, epoch := m.epoch, expected := sortNats ports, arrived := [], status := 0, rank := 0, nf := none }
        let t := s.modSplitter sp fun x =>
          { x with
            down := rest
            forwarded := x.forwarded + 1
            counters := if m.migrated || ports.isEmpty then x.counters else x.counters ++ [c] }
        let t := ports.foldl (fun t n => t.modNib n fun b => if b.present then { b with down := b.down ++ [.task m] } else b) t
        let t := (ports.filter gone).foldl (fun t n => match t.counterOf sp m.tag m.epoch with
          | some c => t.clearPort sp n c
          | none => t) t
        done s ((t.passDown sp).latchAll fun m => { m with wake := true })
    | _ => skip s

/-- SPLITTER_COMPLETION (R311, R313): a Nib's completion message is counted, or passes unfolded. -/
def execSplitterCompletion (nib : Nat) (s : State) : Host.Outcome State Fault Refusal :=
  match s.splitterFront nib with
  | some (.done m, b, t) =>
    let m := { m with splitter := b.via, arrived := [nib], folded := false }
    let own : Option FanIn := (t.counterOf b.via m.tag m.epoch).filter fun c =>
      !m.migrated && c.expected.contains nib && !c.arrived.contains nib
    let t := match own with
      | some c => t.putCounter b.via (c.add nib m)
      | none => t.splitterUp b.via (.done m)
    done s (t.passUp nib)
  | _ => skip s

/-- SPLITTER_WITHDRAWN (R294, R311): the answer goes up, and the port's bit of EXPECTED is cleared. -/
def execSplitterWithdrawn (nib : Nat) (s : State) : Host.Outcome State Fault Refusal :=
  match s.splitterFront nib with
  | some (.withdrawn n tag epoch pos, b, t) =>
    let t := t.splitterUp b.via (.withdrawn n tag epoch pos)
    let t := match t.counterOf b.via tag epoch with
      | some c => t.clearPort b.via nib c
      | none => t
    done s (t.passUp nib)
  | _ => skip s

/-- SPLITTER_BARRIER_ARRIVAL (R349): the splitter folds the arrivals of its Nibs of a partition, and sends one upward. -/
def execSplitterBarrierArrival (nib : Nat) (s : State) : Host.Outcome State Fault Refusal :=
  match s.splitterFront nib with
  | some (.barrier nibs ident part, b, t) =>
    let sp := b.via
    let here := match t.splitters[sp]? with
      | some x => (x.barriers.find? fun f => f.ident == ident && f.partition == part).elim [] BarrierFold.here
      | none => []
    let here := sortNats (here ++ nibs)
    let want := (t.partNibs part).filter fun n => match t.nibs[n]? with | some b => b.via == sp | none => false
    let all : Bool := want.all here.contains
    let fold : BarrierFold := ⟨ident, part, here⟩
    let t := t.recordSplitter sp 0x09 (t.barrierPayload ident false)
    let t := t.modSplitter sp fun x =>
      { x with barriers := (x.barriers.filter fun f => !(f.ident == ident && f.partition == part)) ++ (if all then [] else [fold]) }
    let t := if all then t.splitterUp sp (.barrier here ident part) else t
    done s (t.passUp nib)
  | _ => skip s

/-! ## The count at the Hub (R314, R315) -/

/-- A STALE_EPOCH discard (R314): counted, with a FAULT record of the tag, the epoch and the position. -/
def State.staleEpoch (s : State) (tag : Nat) (epoch : W32) (pos : Nat) : State :=
  let s := { s with flt := { s.flt with stale := sat32 s.flt.stale 1 } }
  s.recordFault unitCu Code.staleEpoch (tag + 2 ^ 16 * epoch.toNat + 2 ^ 48 * pos)

/-- The NONFINITE report of a task that retires (R280, R298): a FAULT record with the report's stamp, engine address and
queue, and the DBG registers where they hold none since the count was read. -/
def State.noteNonFinite (s : State) (q : Nat) (r : NonFinite) : State :=
  let s := s.recordAs unitCu 0x0A r.stamp (Code.nonfinite.toNat + 2 ^ 16 * r.engine + 2 ^ 33 * q) false false
  let first := s.dbg.nfCount = 0
  { s with dbg := { s.dbg with
      nfStamp := if first then BitVec.ofNat 64 r.stamp else s.dbg.nfStamp
      nfSource := if first then BitVec.ofNat 32 (r.engine % 2 ^ 17 + 2 ^ 20 * (q % 4096)) else s.dbg.nfSource
      nfCount := sat32 s.dbg.nfCount 1 } }

/-- The launch, or replay member, of a task ends with a status (R211, R216, R300). In a context under the kill procedure
its event waits for step 6. -/
def State.endLaunch (s : State) (k : Task) (status : W16) : State :=
  match s.cmdOf k.queue k.sub k.off, tget s.ctxs k.slot, s.subOf k.queue k.sub with
  | some d, some c, some u =>
    if 2 ≤ statusRank status then s.failCmd k.queue k.sub k.off status unitCu
    else if d.rest.isEmpty then
      let s := match d.op.event with
        | some e => if c.killed then s else s.recordEvent k.slot e status
        | none => s
      s.completeCmd k.queue k.sub k.off
    else match u.failed with
      | some code =>
        let s := match d.op.event with
          | some e => if c.killed then s else s.recordEvent k.slot e code
          | none => s
        s.completeCmd k.queue k.sub k.off
      | none =>
        match c.kill with
        | some kill => s.failCmd k.queue k.sub k.off kill.cause unitFm
        | none => s.modCmd k.queue k.sub k.off fun d => { d with state := .parsed }
  | _, _, _ => s

/-- A task is complete (R315): its tag is free, its report is written, its launch ends. -/
def State.finishTask (s : State) (tag : Nat) (k : Task) : State :=
  let s := { s with tasks := tdel s.tasks tag }
  let s := match k.nf with
    | some r => s.noteNonFinite k.queue r
    | none => s
  (s.endLaunch k k.status).killEvents k.slot

/-- A task with a position counted and its status and report folded in (R314); a drain of the position runs on (R293). -/
def Task.count (k : Task) (pos : Nat) (status : W16) (nf : Option NonFinite) : Task :=
  let r := statusRank status
  { k with
    positions := lmod k.positions pos fun p => { p with counted := true }
    status := if k.rank < r then status else k.status
    rank := max k.rank r
    nf := firstReport k.nf nf }

/-- A position is counted; the last one completes the task (R315). -/
def State.countPos (s : State) (tag pos : Nat) (status : W16) (nf : Option NonFinite) : State :=
  match tget s.tasks tag with
  | none => s
  | some k =>
    let k' := k.count pos status nf
    if k'.positions.all Pos.counted then s.finishTask tag k' else { s with tasks := tset s.tasks tag k' }

/-- One port that a completion message reports (R314). -/
def State.judgePort (s : State) (m : DoneMsg) (nib : Nat) : State :=
  match tget s.tasks m.tag with
  | none => s.staleEpoch m.tag m.epoch m.position
  | some k =>
    match k.positions.findIdx? fun p => p.nib == nib with
    | none => s.staleEpoch m.tag m.epoch m.position
    | some i =>
      match k.positions[i]? with
      | some p =>
        if p.counted ∨ p.epoch ≠ m.epoch then s.staleEpoch m.tag m.epoch i
        else s.countPos m.tag i m.status m.nf
      | none => s

/-- A completion message at the Hub (R314): its ports are judged one by one; one for a tag not in flight is discarded
whole. -/
def State.taskDone (s : State) (m : DoneMsg) : State :=
  match tget s.tasks m.tag with
  | none => s.staleEpoch m.tag m.epoch m.position
  | some _ => m.arrived.foldl (fun s n => s.judgePort m n) s

/-- TASK_DONE_AT_HUB (R314). -/
def execTaskDoneAtHub (sp : Nat) (s : State) : Host.Outcome State Fault Refusal :=
  match s.hubFront sp with
  | some (.done m, t) => done s (t.taskDone m).quiet
  | _ => skip s

/-! ## Loss of a Nib (R160, R469) -/

/-- The Nib that an upward message is from, but for completion messages, which R314 judges. -/
def UpMsg.from : UpMsg → Option Nat
  | .done _ => none
  | .withdrawn n .. => some n
  | .started n .. => some n
  | .unknown n .. => some n
  | .sync r => some r.nib
  | .residue n .. => some n
  | .barrier .. => none
  | .enqueue n .. => some n
  | .entryWritten _ n .. => some n
  | .invalidated n _ => some n

/-- Whether a memory request is one of a Nib's own (R502). -/
def MemReq.ofNib (r : MemReq) (n : Nat) : Bool :=
  match r.wait with
  | some (.nibConstants m _) => m == n
  | some (.nibEntry m) => m == n
  | _ => false

/-- What is left of a Nib that is lost: what its ports showed, its wiring and its first report. -/
def Nib.lost (b : Nib) : Nib :=
  { Nib.reset with link := .absent, via := b.via, die := b.die, ports := b.ports, firstReport := b.firstReport, testMode := b.testMode }

/-- The hardware of a lost Nib is out of use: its messages are discarded, its requests answered by nobody. -/
def State.dropNib (s : State) (n : Nat) : State :=
  let s := s.modNib n Nib.lost
  { s with
    splitters := s.splitters.map fun x => { x with up := x.up.filter fun m => m.from != some n }
    mip := s.mip.filter fun r => !r.ofNib n
    feed := { s.feed with wakes := s.feed.wakes.filter fun w => w.nib != n }
    ductus := { s.ductus with sentOffsets := s.ductus.sentOffsets.filter fun o => o.1 != .nib n }
    xlat := { s.xlat with
      invs := s.xlat.invs.map fun i => { i with nibs := i.nibs.filter (· != n) }
      users := tmap s.xlat.users fun _ l => l.filter (· != n)
      reqs := s.xlat.reqs.map fun r => if r.nib = some n then { r with dead := true, asks := [] } else r } }

/-- The positions that a lost Nib holds are counted with NIB_LOST (log 27), except one whose share its splitter has folded
in already. -/
def State.countLost (s : State) (n sp : Nat) : State :=
  let counters := match s.splitters[sp]? with | some x => x.counters | none => []
  let folded (tag : Nat) (epoch : W32) : Bool := counters.any fun c => c.tag == tag && c.epoch == epoch && c.arrived.contains n
  let s := counters.foldl (fun s c => s.clearPort sp n c) s
  let open_ : List (Nat × Nat) := s.tasks.flatMap fun e => e.2.positions.zipIdx.filterMap fun p =>
    if p.1.nib == n && !p.1.counted && !folded e.1 p.1.epoch then some (e.1, p.2) else none
  open_.foldl (fun s p => s.countPos p.1 p.2 Code.nibLost none) s

/-- A Nib is lost with a cause of R469: it leaves its partition, the partition's contexts fault, a Blotter record is
written, and its shares end (R160). -/
def State.nibLost (s : State) (n cause : Nat) : State :=
  match s.nibs[n]? with
  | none => s
  | some b =>
    if ¬b.present then s
    else
      let part := s.partOfNib n
      let s := s.dropNib n
      let s := match part with
        | some p => s.modPart p fun x => { x with nibs := x.nibs.filter (· != n) }
        | none => s
      let s := s.blot Code.nibLost 0x06 unitFm (n + 2 ^ 8 * part.getD 0x3F + 2 ^ 16 * cause)
      let hit := s.ctxs.filterMap fun e => if part.isSome && e.2.partition == part && e.2.served then some e.1 else none
      let s := hit.foldl (fun s c => s.ctxFault c Code.nibLost) s
      s.countLost n b.via

/-- YLINK_DOWN (R469, R497, R510): a Nib whose active link falls is lost; with a splitter's link, so are its Nibs. -/
def execYlinkDown (link : YarnChild) (s : State) : Host.Outcome State Fault Refusal :=
  match link with
  | .nib n =>
    if (s.nibs[n]?.map Nib.present).getD false then done s (s.nibLost n 1).quiet else skip s
  | .splitter sp =>
    match s.splitters[sp]? with
    | some x =>
      if x.link = .up then
        let t := s.modSplitter sp fun x => { x with link := .absent, down := [], up := [] }
        let nibs := (List.range s.nibs.length).filter fun n => match s.nibs[n]? with | some b => b.via == sp | none => false
        done s (nibs.foldl (fun t n => t.nibLost n 1) t).quiet
      else skip s
    | none => skip s

/-- NIB_UNCORRECTABLE_ERROR (R469, cause 4). -/
def execNibUncorrectableError (nib : Nat) (s : State) : Host.Outcome State Fault Refusal :=
  if (s.nibs[nib]?.map Nib.present).getD false then done s (s.nibLost nib 4).quiet else skip s

/-! ## Migration (R291 to R294) -/

/-- A position changed. -/
def State.modPos (s : State) (tag pos : Nat) (f : Pos → Pos) : State :=
  s.modTask tag fun k => { k with positions := lmod k.positions pos f }

/-- The present Nibs of a task's partition to which none of its positions is placed, counted or not (R291). -/
def State.otherNibs (s : State) (k : Task) : List Nat :=
  (s.partNibs k.partition).filter fun n => !k.positions.any fun p => p.nib == n

/-- Whether a Nib holds no task and is not OFF (R291). -/
def State.idleNib (s : State) (n : Nat) : Bool :=
  s.held n == 0 && (match s.nibs[n]? with | some b => b.power != .off | none => false)

/-- Whether a position waits unstarted at its Nib for 64 µs (R291). -/
def State.stuck (s : State) (tag : Nat) (p : Pos) : Bool :=
  match s.nibs[p.nib]? with
  | some b => b.tasks.any fun k => k.msg.tag == tag && k.msg.epoch == p.epoch && !k.started && decide (k.arrivedAt + 64000 ≤ s.now)
  | none => false

/-- MIGRATION_TIMER (R291): the three conditions hold, and a WITHDRAW goes to the Nib. -/
def execMigrationTimer (tag position : Nat) (s : State) : Host.Outcome State Fault Refusal :=
  match tget s.tasks tag with
  | none => skip s
  | some k =>
    match k.positions[position]? with
    | none => skip s
    | some p =>
      if s.primary ∧ ¬p.counted ∧ p.drain.isNone ∧ s.stuck tag p ∧ (s.otherNibs k).any s.idleNib then
        let t := s.modPos tag position fun p => { p with drain := some s.now }
        done s (t.sendNib p.nib (.withdraw p.nib tag p.epoch position))
      else skip s

/-- The Nib that a withdrawn position goes to: the one with the fewest tasks among the partition's other Nibs, the lower ID
on equal counts; the Nib it was on where no other has room (R210, R263, R291). -/
def State.newHome (s : State) (k : Task) (old : Nat) : Nat :=
  ((s.byLoad (s.otherNibs k)).find? fun n => decide (s.held n < 4) && s.idleNib n).getD
    (((s.byLoad (s.otherNibs k)).find? fun n => decide (s.held n < 4)).getD old)

/-- A withdrawn position is placed anew under the next epoch (R290, R293). -/
def State.replace (s : State) (tag pos old : Nat) (k : Task) : State :=
  let n := s.newHome k old
  let epoch := s.epoch + 1
  let s := { s with epoch := epoch }
  let s := s.modPos tag pos fun _ => ⟨n, epoch, true, false, none⟩
  s.sendNib n (.task
    { migrated := true, position := pos, pasid := k.pasid, partition := k.partition, tag := tag, patIndex := k.patIndex,
      epoch := epoch, storeEntry := k.storeEntry, stateTag := k.stateTag, const := k.const, placement := [n],
      paramUsed := k.paramUsed, params := k.params })

/-- An answer to a WITHDRAW (R293): it counts only for the epoch that drains. A withdrawn position of a task under the kill
procedure, the coolant halt or a warm reset ends with the cause. -/
def State.withdrawAnswer (s : State) (withdrawn : Bool) (tag : Nat) (epoch : W32) (pos : Nat) : State :=
  match tget s.tasks tag with
  | none => s
  | some k =>
    match k.positions[pos]? with
    | none => s
    | some p =>
      if p.drain.isNone ∨ p.epoch ≠ epoch then s
      else if withdrawn ∧ ¬p.counted then
        match (tget s.ctxs k.slot).bind Ctx.kill with
        | some kill => s.countPos tag pos kill.cause none
        | none =>
          if s.feed.halt then s.countPos tag pos Code.coolantFault none
          else if s.mgmt.warmReset then s.countPos tag pos Code.deviceReset none
          else s.replace tag pos p.nib k
      else s.modPos tag pos fun p => { p with drain := none }

/-- WITHDRAW_ANSWER (R293). -/
def execWithdrawAnswer (sp : Nat) (s : State) : Host.Outcome State Fault Refusal :=
  match s.hubFront sp with
  | some (.withdrawn _ tag epoch pos, t) => done s (t.withdrawAnswer true tag epoch pos).quiet
  | some (.started _ tag epoch pos, t) => done s (t.withdrawAnswer false tag epoch pos)
  | some (.unknown _ tag epoch pos, t) => done s (t.withdrawAnswer false tag epoch pos)
  | _ => skip s

/-- WITHDRAW_DRAIN_TIMEOUT (R293): no answer for 100 µs; the drain closes, and the Nib is lost. -/
def execWithdrawDrainTimeout (tag position : Nat) (s : State) : Host.Outcome State Fault Refusal :=
  match (tget s.tasks tag).bind fun k => k.positions[position]? with
  | some p =>
    match p.drain with
    | some t0 =>
      if s.primary ∧ t0 + 100000 ≤ s.now then
        done s ((s.modPos tag position fun p => { p with drain := none }).nibLost p.nib 3).quiet
      else skip s
    | none => skip s
  | none => skip s

end Sys2Proof.Machine
end

