-- ==== Sys2Proof/Machine/Stitch.lean ====
section
/-! DEFINITION. The walk of a Stitcher: shares and points (R238 to R240), stream addresses (R242), the scalar program (R251,
R252), and the packets of a point (R246 to R249, R269, R273). -/

namespace Sys2Proof.Machine

open Sys2Proof

/-! ## Shares and points -/

/-- Into how many parts a level is split, and which of them belongs to position `p` and core `c` (R239). -/
def Variant.part (v : Variant) (l p c : Nat) : Nat × Nat :=
  if v.nibLevel = some l ∧ v.coreLevel = some l then (v.targetNibs * v.cores, p * v.cores + c)
  else if v.nibLevel = some l then (v.targetNibs, p)
  else if v.coreLevel = some l then (v.cores, c)
  else (1, 0)

/-- The share of a level (R239). -/
def Variant.share (v : Variant) (l : Nat) : Nat := v.counts.getD l 0 / (v.part l 0 0).1

/-- The first index of a share (R239). -/
def Variant.first (v : Variant) (p c l : Nat) : Nat := (v.part l p c).2 * v.share l

/-- Points of the levels deeper than `l` in a share. -/
def Variant.below (v : Variant) (l : Nat) : Nat := ((List.range v.depth).drop (l + 1)).foldl (fun n m => n * v.share m) 1

/-- Points of a Stitcher's walk (R240). -/
def Variant.points (v : Variant) : Nat := (List.range v.depth).foldl (fun n m => n * v.share m) 1

/-- The global indices of the point of a flat iteration count, the innermost level fastest (R239, R240). -/
def Variant.pointAt (v : Variant) (p c flat : Nat) : List Nat :=
  (List.range v.depth).map fun l => v.first p c l + flat / v.below l % max 1 (v.share l)

/-- Whether every level deeper than `l` is at the first index of its share (R248). -/
def Variant.enters (v : Variant) (p c : Nat) (idx : List Nat) (l : Nat) : Bool :=
  (List.range v.depth).all fun m => decide (m ≤ l) || idx.getD m 0 == v.first p c m

/-- Whether every level deeper than `l` is at the last index of its share (R248). -/
def Variant.exits (v : Variant) (p c : Nat) (idx : List Nat) (l : Nat) : Bool :=
  (List.range v.depth).all fun m => decide (m ≤ l) || idx.getD m 0 + 1 == v.first p c m + v.share m

/-- Templates of one edge and level, ascending. -/
def Variant.templatesAt (v : Variant) (exit : Bool) (l : Nat) : List Nat :=
  (List.range v.templates.length).filter fun t => match v.templates[t]? with
    | some x => x.exit == exit && x.level == l
    | none => false

/-- The templates that a point emits, in order (R248). -/
def Variant.emits (v : Variant) (p c : Nat) (idx : List Nat) : List Nat :=
  ((List.range v.depth).flatMap fun l => if v.enters p c idx l then v.templatesAt false l else []) ++
  ((List.range v.depth).reverse.flatMap fun l => if v.exits p c idx l then v.templatesAt true l else [])

/-! ## Values -/

/-- A parameter register as a Stitcher reads it (R261). -/
def TaskMsg.param (m : TaskMsg) (r : Nat) : W64 :=
  if m.paramUsed.getLsbD r then m.params.getD ((List.range r).countP fun i => m.paramUsed.getLsbD i) 0 else 0

/-- The address of a stream at a point (R242). -/
def Stream.addr (x : Stream) (param : Nat → W64) (idx : List Nat) : W64 :=
  let moved : Int := (idx.zip x.strides).foldl (fun a p => a + p.1 * p.2) x.baseOffset
  BitVec.ofInt 64 ((param x.baseReg).toNat + moved)

/-- Signed minimum and maximum. -/
def smin (a b : W64) : W64 := if a.toInt ≤ b.toInt then a else b
/-- Signed maximum. -/
def smax (a b : W64) : W64 := if a.toInt ≤ b.toInt then b else a

/-- What a scalar program sees beside its registers and data memory. -/
structure ScalarEnv where
  ops   : List ScalarOp
  param : Nat → W64
  idx   : List Nat
  core  : Nat
  pos   : Nat

/-- What LDX returns (R251). -/
def ScalarEnv.index (e : ScalarEnv) (i : Nat) : W64 :=
  BitVec.ofNat 64 (if i = 6 then e.core else if i = 7 then e.pos else e.idx.getD i 0)

/-- The value that an operation writes to DST (R251). -/
def ScalarEnv.value (e : ScalarEnv) (o : ScalarOp) (a b : W64) (dmem : List W64) : W64 :=
  let imm : W64 := BitVec.ofInt 64 o.imm
  match o.op with
  | 0x01 => imm
  | 0x02 => a + b
  | 0x03 => a - b
  | 0x04 => a * b
  | 0x05 => a &&& b
  | 0x06 => a ||| b
  | 0x07 => a ^^^ b
  | 0x08 => a <<< (b.toNat % 64)
  | 0x09 => a >>> (b.toNat % 64)
  | 0x0A => a.sshiftRight (b.toNat % 64)
  | 0x0B => a + imm
  | 0x0C => smin a b
  | 0x0D => smax a b
  | 0x10 => e.param o.a
  | 0x11 => e.index o.imm.toNat
  | _ => dmem.getD o.imm.toNat 0

/-- A run of the scalar program from an operation on (R251): the data memory it leaves. -/
def ScalarEnv.run (e : ScalarEnv) : Nat → Nat → List W64 → List W64 → List W64
  | 0, _, _, dmem => dmem
  | fuel + 1, pc, regs, dmem =>
    match e.ops[pc]? with
    | none => dmem
    | some o =>
      let a := regs.getD o.a 0
      let b := regs.getD o.b 0
      match o.op with
      | 0x00 => dmem
      | 0x19 => e.run fuel (pc + 1) regs (dmem.set o.imm.toNat a)
      | 0x20 => e.run fuel (if a = 0 then pc + o.imm.toNat else pc + 1) regs dmem
      | 0x21 => e.run fuel (if a ≠ 0 then pc + o.imm.toNat else pc + 1) regs dmem
      | _ => e.run fuel (pc + 1) (regs.set o.dst (e.value o a b dmem)) dmem

/-- A whole run (R252): working registers are 0 at its start. -/
def ScalarEnv.go (e : ScalarEnv) (dmem : List W64) : List W64 := e.run (e.ops.length + 1) 0 (List.replicate 16 0) dmem

/-- Payload bytes with a slot's value over its word (R247). -/
def putSlot (payload : List Byte) (pos : Nat) (v : W64) : List Byte :=
  payload.take (8 * pos) ++ leBytes 8 v.toNat ++ payload.drop (8 * pos + 8)

/-- A template's payload at a point (R247, R269). -/
def Template.form (t : Template) (streams : List Stream) (param : Nat → W64) (idx : List Nat) (dmem : List W64) : List Byte :=
  t.slots.foldl (fun l x =>
    if x.kind = 1 then match streams[x.source]? with
      | some st => putSlot l x.position (st.addr param idx)
      | none => l
    else putSlot l x.position (dmem.getD x.source 0)) t.payload

/-! ## Parts of a Nib -/

/-- An engine queue of a Nib. -/
def Nib.queue (b : Nib) (core eq : Nat) : Option EngineQueue := (b.cores[core]?).bind fun qs => qs[eq]?

/-- An engine queue changed. -/
def Nib.modEq (b : Nib) (core eq : Nat) (f : EngineQueue → EngineQueue) : Nib :=
  { b with cores := lmod b.cores core fun c => lmod c eq f }

/-- A Stitcher changed. -/
def Nib.modStitcher (b : Nib) (core : Nat) (f : Stitcher → Stitcher) : Nib :=
  { b with stitchers := b.stitchers.map fun x => if x.core = core then f x else x }

/-- The held task of a tag and epoch. -/
def Nib.task (b : Nib) (tag : Nat) (epoch : W32) : Option NibTask := b.tasks.find? fun k => k.msg.tag == tag && k.msg.epoch == epoch

/-- A held task changed. -/
def Nib.modTask (b : Nib) (tag : Nat) (epoch : W32) (f : NibTask → NibTask) : Nib :=
  { b with tasks := b.tasks.map fun k => if k.msg.tag = tag ∧ k.msg.epoch = epoch then f k else k }

/-- The translated form in a task's slot. -/
def Nib.body (b : Nib) (k : NibTask) : Option Variant := (b.slots[k.slot]?).bind StateSlot.body

/-- Whether a packet is of a share. -/
def Packet.of (p : Packet) (tag : Nat) (epoch : W32) : Bool := !p.purl && p.tag == tag && p.epoch == epoch

/-- Whether a packet of a core, by its uid, has yet to return its token (R249). -/
def Nib.pendingUid (b : Nib) (core uid : Nat) : Bool :=
  (b.cores.getD core []).any fun e => e.buf.any (fun p => p.uid == uid) || e.live.any fun o => o.packet.uid == uid

/-! ## Emission (R269, R271) -/

/-- One template's packet enters the issue buffer of its queue; none where the buffer is full. -/
def Nib.emitOne (b : Nib) (k : NibTask) (v : Variant) (x : Stitcher) (t : Nat) : Option (Nib × Stitcher) :=
  match v.templates[t]? with
  | none => some (b, x)
  | some tp =>
    match b.queue x.core tp.eq with
    | none => some (b, x)
    | some e =>
      if 4 ≤ e.buf.length then none
      else
        let p : Packet :=
          { uid := b.nextUid, tag := x.tag, epoch := x.epoch, pasid := k.msg.pasid, partition := k.msg.partition,
            template := t, activity := tp.activity, payload := tp.form v.streams k.msg.param x.index x.dmem,
            iter := x.flat, deps := tp.deps.filterMap (tget x.lastUid), purl := false }
        some ({ b.modEq x.core tp.eq fun e => { e with buf := e.buf ++ [p] } with nextUid := b.nextUid + 1 },
              { x with lastUid := tset x.lastUid t b.nextUid })

/-- Templates emitted one after another while there is room; what is left. -/
def Nib.emitAll (b : Nib) (k : NibTask) (v : Variant) (x : Stitcher) : List Nat → Nib × Stitcher × List Nat
  | [] => (b, x, [])
  | t :: r =>
    match b.emitOne k v x t with
    | none => (b, x, t :: r)
    | some (b', x') => Nib.emitAll b' k v x' r

/-- Whether the scalar program runs at the point where a Stitcher stands (R252). -/
def Variant.runsHere (v : Variant) (k : NibTask) (x : Stitcher) : Bool :=
  !v.ops.isEmpty && (if v.perEntry then v.enters k.position x.core x.index v.trigLevel else !x.ranOnce)

/-- A Stitcher that comes to a point: the scalar program has run, and the point's templates are to be emitted. -/
def Stitcher.begin (x : Stitcher) (k : NibTask) (v : Variant) : Stitcher :=
  match x.todo with
  | some _ => x
  | none =>
    let env : ScalarEnv := { ops := v.ops, param := k.msg.param, idx := x.index, core := x.core, pos := k.position }
    { x with
      dmem := if v.runsHere k x then env.go x.dmem else x.dmem
      ranOnce := true
      todo := some (v.emits k.position x.core x.index) }

/-- A Stitcher whose point is emitted moves on, or has ended its walk. -/
def Stitcher.next (x : Stitcher) (k : NibTask) (v : Variant) : Stitcher :=
  if x.flat + 1 < v.points then
    { x with flat := x.flat + 1, index := v.pointAt k.position x.core (x.flat + 1), todo := none }
  else { x with todo := some [], ended := true }

end Sys2Proof.Machine
end

