-- ==== Sys2Proof/Machine/Nib.lean ====
section
/-! DEFINITION. Nib execution (09): the tasks a Nib holds, their swap-in, emission and issue, tokens, the end of a share,
aborts, withdrawal, and the translation lookahead. -/

namespace Sys2Proof.Machine

open Sys2Proof

/-! ## Translations asked for (R282 to R284) -/

/-- An engine's TRANSLATE that no cached translation serves asks afresh (R284). -/
def State.askXlat (s : State) (n pasid page : Nat) (write : Bool) (ask : Nat × Nat × Nat × Nat × W64) : State :=
  let x := s.xlat
  let r : XReq := { tag := x.freshTag, nib := some n, pasid := pasid, page := page, write := write, since := s.now, core := none,
                    dirty := [], dead := false, asks := [ask] }
  { s with xlat := { x with reqs := x.reqs ++ [r], users := tset x.users pasid (sortNats (n :: tgetD x.users pasid [])) } }

/-- The pages and access of every stream at a point (R283). -/
def Variant.pagesAt (v : Variant) (param : Nat → W64) (idx : List Nat) : List (Nat × Bool) :=
  v.streams.flatMap fun st =>
    let a := (st.addr param idx).toNat
    let write := st.role == 1 || (st.role == 2 && (match v.streams[st.scaleOf]? with | some d => d.role == 1 | none => false))
    let p := a / 4096 * 4096
    let q := (a + st.span - 1) / 4096 * 4096
    if p = q then [(p, write)] else [(p, write), (q, write)]

/-- The lookahead of a Stitcher whose last emitted point is `flat` (R283); a parked one's cursor stands still (R289). -/
def State.lookAhead (s : State) (n : Nat) (k : NibTask) (v : Variant) (x : Stitcher) (flat : Nat) : State :=
  let top := min (flat + v.lookahead + 1) v.points
  let todo := ((List.range 65).map (x.ahead + ·)).filter fun f => decide (f < top)
  let s := todo.foldl (fun s f =>
    (v.pagesAt k.msg.param (v.pointAt k.position x.core f)).foldl (fun s p =>
      let cached : Bool := match s.nibs[n]? with
        | some b => b.cache.any fun e => e.serves k.msg.pasid p.1 p.2
        | none => true
      if cached then s
      else { s with xlat := s.xlat.ask s.now (some n) k.msg.pasid p.1 p.2 (some x.core) }) s) s
  s.modNib n fun b => b.modStitcher x.core fun y => { y with ahead := max y.ahead top }

/-! ## The end of a share (R278, R279) -/

/-- Whether a Nib has packets of a share in its buffers, outstanding, or with unanswered sync or enqueue requests (R278). -/
def Nib.holds (b : Nib) (tag : Nat) (epoch : W32) : Bool :=
  b.cores.any fun c => c.any fun e =>
    e.buf.any (fun p => p.of tag epoch) || e.out.any fun o => o.packet.of tag epoch && (!o.returned || o.reqs.any fun r => r.kind != 1)

/-- Whether every Stitcher of a share has ended (R278). -/
def Nib.walked (b : Nib) (tag : Nat) (epoch : W32) : Bool :=
  b.stitchers.all fun x => !(x.tag == tag && x.epoch == epoch) || x.ended

/-- STATUS of a share (R279). -/
def NibTask.status (k : NibTask) : W16 :=
  match k.fatal, k.abort, k.waiter, k.nf with
  | some c, _, _, _ => c
  | none, some c, _, _ => c
  | none, none, some c, _ => c
  | none, none, none, some _ => Code.nonfinite
  | none, none, none, none => Code.ok

/-- A Nib that holds no task and has no purl outstanding is in IDLE (R462). -/
def Nib.settle (b : Nib) (now : Nat) : Nib :=
  let purl : Bool := b.cores.any fun c => c.any fun e => e.live.any fun o => o.packet.purl
  if b.power = .off then b
  else if !b.tasks.isEmpty || purl then { b with power := .run }
  else if b.power = .run then { b with power := .idle, idleSince := now } else b

/-- A share completes (R278): its Nib reports its token energy (R390), its NIB_DONE carries the stamp of its last token (R45), and
the completion message leaves. -/
def State.completeShare (s : State) (n : Nat) (k : NibTask) : State :=
  let st := k.status
  let m := k.msg
  let s := s.reportEnergy n m.tag m.epoch
  let s := s.recordNibAs n (nibSource n) 0x06 (k.doneAt.getD (s.nibNow n)) (m.patIndex + 2 ^ 16 * (m.epoch.toNat % 65536) + 2 ^ 32 * st.toNat)
  let s := s.modNib n fun b =>
    Nib.settle { b with tasks := b.tasks.filter fun j => !(j.msg.tag == m.tag && j.msg.epoch == m.epoch) } s.now
  s.sendUp n (.done { migrated := m.migrated, folded := false, splitter := 0, position := k.position, tag := m.tag,
                      status := st, epoch := m.epoch, arrived := [], nf := k.nf })

/-- A share that has nothing left to do checks its residue, then completes (R278, R338). -/
def State.checkShare (s : State) (n tag : Nat) (epoch : W32) : State :=
  match (s.nibs[n]?).bind fun b => (b.task tag epoch).map fun k => (b, k) with
  | none => s
  | some (b, k) =>
    if (k.started || k.abort.isSome) && b.walked tag epoch && !b.holds tag epoch then
      if k.residueAsked then s
      else if k.residue.isEmpty then s.completeShare n k
      else
        (s.modNib n fun b => b.modTask tag epoch fun k => { k with residueAsked := true }).sendUp n
          (.residue n tag epoch (k.residue.map Prod.fst))
    else s

/-! ## Receiving a task (R262 to R266) -/

/-- The four state slots (R264). -/
def Nib.fourSlots (b : Nib) : List StateSlot := b.slots ++ List.replicate (4 - b.slots.length) ⟨none, 0, none, 0⟩

/-- The slot a task takes, and whether it holds the pattern (R264). -/
def Nib.chooseSlot (b : Nib) (stateTag : W32) : Nat × Bool :=
  let l := b.fourSlots
  match l.findIdx? fun x => x.tag == some stateTag with
  | some i => (i, true)
  | none =>
    let free := (List.range 4).filter fun i => !b.tasks.any fun k => k.slot == i
    let age (i : Nat) : Nat := match l[i]? with | some x => x.lastUsed | none => 0
    (free.foldl (fun best i => match best with
      | none => some i
      | some j => if age i < age j then some i else some j) none |>.getD 0, false)

/-- A Nib's position in a placement (R262). -/
def TaskMsg.positionAt (m : TaskMsg) (n : Nat) : Nat := if m.migrated then m.position else m.placement.countP fun i => decide (i < n)

/-- A task message is taken (R264, R265): a slot is chosen, or filled, and the constants are staged. -/
def State.takeTask (s : State) (n : Nat) (m : TaskMsg) : State :=
  match s.nibs[n]? with
  | none => s
  | some b =>
    let c := b.chooseSlot m.stateTag
    let mark (x : StateSlot) : StateSlot :=
      if c.2 then { x with lastUsed := s.now + 1 } else ⟨some m.stateTag, m.storeEntry, none, s.now + 1⟩
    let k : NibTask :=
      { msg := m, position := m.positionAt n, slot := c.1, constant := if m.const.isNone then some [] else none,
        started := false, arrivedAt := s.now, abort := none, fatal := none, waiter := none, residue := [],
        residuePending := [], residueAsked := false, doneAt := none, energy := 0, nf := none }
    let s := s.modNib n fun b =>
      Nib.settle { b with slots := lmod b.fourSlots c.1 mark, tasks := b.tasks ++ [k] } s.now
    let s := if c.2 then s
      else s.readMem (.nibSlot n c.1) 0 none (s.mgmt.patternBase + BitVec.ofNat 64 (m.storeEntry * 8192)) 8192 true
    match m.const with
    | some r => s.readMem (.nibConstants n m.tag) m.pasid (some m.partition) r.1 r.2 false
    | none => s

/-- NIB_TASK_RECEIVE (R264). A Nib in OFF receives nothing and is woken (R28, R462; log 16). -/
def execNibTaskReceive (nib : Nat) (s : State) : Host.Outcome State Fault Refusal :=
  match s.nibFront nib with
  | some (.task m, b, t) =>
    if b.power = .off then done s (s.askWake nib (s.partOfNib nib)) else done s (t.takeTask nib m)
  | _ => skip s

/-- STATE_SLOT_FILLED (R266): the slot holds the translated form of its pattern-store entry. -/
def execStateSlotFilled (nib slot : Nat) (s : State) : Host.Outcome State Fault Refusal :=
  match s.answered (.nibSlot nib slot) with
  | none => late s (.nibSlot nib slot)
  | some (_, t) =>
    done s (t.modNib nib fun b => { b with slots := lmod b.slots slot fun x =>
      { x with body := match tget t.mgmt.store x.entry with
          | some (tag, v) => if x.tag = some tag then some v else none
          | none => none } })

/-- CONSTANTS_STAGED (R265); an error response is context-fatal (R150). -/
def execConstantsStaged (nib tag : Nat) (bytes : Option (List Byte)) (s : State) : Host.Outcome State Fault Refusal :=
  match s.answered (.nibConstants nib tag) with
  | none => late s (.nibConstants nib tag)
  | some (r, t) =>
    match bytes with
    | some l => done s (t.modNib nib fun b => { b with tasks := b.tasks.map fun k =>
        if k.msg.tag = tag ∧ k.constant.isNone then { k with constant := some (padTo r.len l) } else k })
    | none => done s (t.pasidFault r.pasid Code.memoryError).quiet

/-! ## Swap-in (R267) -/

/-- Whether a pattern reads data memory, so that its constants must be staged (R266). -/
def Variant.readsDmem (v : Variant) : Bool := !v.ops.isEmpty || v.templates.any fun t => t.slots.any fun x => x.kind == 2

/-- Data memory at the start of a task: the constants, then zeros (R252, R265). -/
def startDmem (constant : List Byte) (bytes : Nat) : List W64 := (List.range (bytes / 8)).map fun i => le64 constant (8 * i)

/-- A Stitcher at its first point (R267). -/
def Variant.start (v : Variant) (k : NibTask) (core : Nat) : Stitcher :=
  { core := core, tag := k.msg.tag, epoch := k.msg.epoch, index := v.pointAt k.position core 0, flat := 0, todo := none,
    ended := false, dmem := startDmem (k.constant.getD []) v.dmemBytes, lastUid := [], parked := false, ahead := 0,
    ranOnce := false }

/-- The task that swaps in next, if its conditions hold (R267). -/
def Nib.swapsIn (b : Nib) : Option (NibTask × Variant) :=
  match b.tasks.find? fun k => !k.started with
  | none => none
  | some k =>
    match b.body k with
    | none => none
    | some v =>
      if b.stitchers.all Stitcher.ended && (k.constant.isSome || !v.readsDmem) && k.abort.isNone && b.power != .off then
        some (k, v)
      else none

/-- NIB_SWAP_IN (R267). -/
def execNibSwapIn (nib : Nat) (s : State) : Host.Outcome State Fault Refusal :=
  match (s.nibs[nib]?).bind fun b => if b.present then b.swapsIn.map fun p => (b, p) else none with
  | none => skip s
  | some (b, k, v) =>
    let fresh := (List.range v.cores).map fun c => v.start k c
    let rest := b.stitchers.filter fun x => decide (v.cores ≤ x.core)
    let m := k.msg
    let t := s.modNib nib fun b =>
      { b.modTask m.tag m.epoch fun k => { k with started := true } with stitchers := fresh ++ rest }
    done s (t.recordNib nib (nibSource nib) 0x04 (m.patIndex + 2 ^ 16 * (m.epoch.toNat % 65536)))

/-! ## Emission (R269 to R271, R283) -/

/-- STITCHER_EMIT (R269): a point's packets are formed, as far as their buffers have room; at the point's end the cursor
looks ahead. -/
def execStitcherEmit (nib core : Nat) (s : State) : Host.Outcome State Fault Refusal :=
  match s.nibs[nib]? with
  | none => skip s
  | some b =>
    match b.stitchers.find? fun x => x.core == core && !x.ended with
    | none => skip s
    | some x =>
      match (b.task x.tag x.epoch).bind fun k => (b.body k).map fun v => (k, v) with
      | none => skip s
      | some (k, v) =>
        let y := x.begin k v
        let r := b.emitAll k v y (y.todo.getD [])
        if x.todo = some r.2.2 ∧ r.2.2 ≠ [] then skip s
        else
          let z := { r.2.1 with todo := some r.2.2 }
          let z' := if r.2.2.isEmpty then z.next k v else z
          let t := s.modNib nib fun _ => r.1.modStitcher core fun _ => { z' with parked := false }
          let t := if r.2.2.isEmpty then t.lookAhead nib k v { z' with core := core } x.flat else t
          done s (t.checkShare nib x.tag x.epoch).quiet

/-! ## Issue (R271 to R274, R289, R295) -/

/-- The packet at the head of a queue's buffer, if it is ready (R271). -/
def Nib.readyHead (b : Nib) (core eq : Nat) : Option Packet :=
  match b.queue core eq with
  | none => none
  | some e =>
    match e.buf with
    | [] => none
    | p :: _ =>
      if e.opened && decide (e.live.length < e.credits) && !p.deps.any (b.pendingUid core) then some p else none

/-- The heads that the arbiter finds ready, in its visiting order (R272). -/
def Nib.readyHeads (b : Nib) : List (Nat × Nat) :=
  let n := b.cores.length
  ((List.range n).map fun i => (b.lastCore + 1 + i) % max 1 n).flatMap fun c =>
    ((List.range (b.cores.getD c []).length).filter fun q => (b.readyHead c q).isSome).map fun q => (c, q)

/-- How many macro-ops a Nib's stop-count lets it issue now (R295): the Nib stopped holds until its bit is cleared. -/
def State.issueRoom (s : State) (n : Nat) : Nat :=
  let d := s.dbg
  if d.stops.getLsbD 1 && n == d.stopNib then 0
  else if n ≠ bits d.nCtrl.toNat 7 0 then 4
  else if d.nCtrl.getLsbD 31 && d.nCount != 0 then d.nLeft.toNat
  else 4

/-- A macro-op counts for a stop-count (R295). -/
def Dbg.countMop (d : Dbg) (n : Nat) : Dbg :=
  if d.nCtrl.getLsbD 31 && d.nCount != 0 && n == bits d.nCtrl.toNat 7 0 && !(d.stops.getLsbD 1 && n == d.stopNib) then { d with nLeft := d.nLeft - 1 }
  else d

/-- Whether a Stitcher's issue is selected for trace (R65). -/
def Trace.mopSelects (t : Trace) (n core : Nat) : Bool :=
  let m := t.mopSel.toNat
  t.mask.getLsbD 3 && bits m 7 0 == n && (bit m 12 || bits m 11 8 == core)

/-- A MOP_ISSUE record, where the Stitcher is selected and its sample is due (R45, R65): of 2^SAMPLE issues the first is recorded
(log 135). -/
def State.traceIssue (s : State) (n core eq : Nat) (p : Packet) : State :=
  match s.nibs[n]? with
  | none => s
  | some b =>
    if s.trace.mopSelects n core then
      let count := tgetD b.sampled core 0
      let s' := s.modNib n fun b => { b with sampled := tset b.sampled core (count + 1) }
      if count % 2 ^ bits s.trace.mopSel.toNat 19 16 = 0 then
        s'.recordNib n (stitcherSource n core) 0x05 (eq + 2 ^ 5 * p.template + 2 ^ 11 * (p.iter % 2 ^ 32))
      else s'
    else s

/-- The 64 bytes of a macro-op packet (R273). -/
def Packet.bytes (p : Packet) (mopSeq : Nat) : List Byte :=
  padTo 40 p.payload ++ leBytes 4 (p.pasid + 2 ^ 20 * p.partition + 2 ^ 26 * p.activity) ++ leBytes 2 mopSeq ++
    leBytes 1 (p.template % 64) ++ leBytes 1 0 ++ leBytes 8 (p.iter % 2 ^ 48) ++ leBytes 8 0

/-- A packet is driven on its port (R273): it takes a credit and the queue's next MOP_SEQ. -/
def EngineQueue.issue (e : EngineQueue) (p : Packet) : EngineQueue :=
  { e with
    out := e.out ++ [{ mopSeq := e.nextSeq, packet := p, reqs := [], returned := false }]
    nextSeq := (e.nextSeq + 1) % 65536
    mop := p.bytes e.nextSeq }

/-- The head of a queue's buffer issues. -/
def State.issueHead (s : State) (n : Nat) (c : Nat × Nat) : State :=
  match (s.nibs[n]?).bind fun b => (b.queue c.1 c.2).bind fun e => e.buf.head? with
  | none => s
  | some p =>
    let s := s.modNib n fun b => { b.modEq c.1 c.2 fun e => { e.issue p with buf := e.buf.drop 1 } with lastBusy := s.now }
    let s := s.modPart p.partition fun x => { x with waitingSince := none }
    State.traceIssue { s with dbg := s.dbg.countMop n } n c.1 c.2 p

/-- The first FILLER-class queue of a core (R385). -/
def Nib.fillerOf (b : Nib) (core : Nat) : Option Nat := (b.cores.getD core []).findIdx? fun e => e.cls == 7

/-- The cores on which Feed keeps one purl macro-op outstanding and none is, with their queues (R385). -/
def Nib.purlDue (b : Nib) : List (Nat × Nat) :=
  let cores := (List.range b.cores.length).filterMap fun c => (b.fillerOf c).map fun q => (c, q)
  (cores.take b.purl).filter fun c => match b.queue c.1 c.2 with
    | some e => e.opened && decide (e.live.length < e.credits) && !e.live.any (fun o => o.packet.purl)
    | none => false

/-- A purl macro-op issues (R272, R385): FILL_PAYLOAD for the Nib's partition; its PASID, TEMPLATE and ITER are free (log 13). -/
def State.issuePurl (s : State) (n : Nat) (c : Nat × Nat) : State :=
  match s.live.limits with
  | none => s
  | some l =>
    let q (uid : Nat) : Packet :=
      { uid := uid, tag := 0, epoch := 0, pasid := Config.purlPasid.toNat, partition := (s.partOfNib n).getD 0,
        template := Config.purlTemplate.toNat, activity := l.fillClass, payload := l.fillPayload,
        iter := Config.purlIter.toNat, deps := [], purl := true }
    let s := s.modNib n fun b =>
      Nib.settle { (b.modEq c.1 c.2 fun e => e.issue (q b.nextUid)) with nextUid := b.nextUid + 1 } s.now
    State.traceIssue { s with dbg := s.dbg.countMop n } n c.1 c.2 (q 0)

/-- Whether a SYNC wait is outstanding for a macro-op (R289). -/
def OutMop.syncWaits (o : OutMop) : Bool := o.reqs.any OpenReq.syncWait

/-- Whether what blocks the head of a queue's buffer is held up by SYNC waits alone (R289). -/
def Nib.headParked (b : Nib) (core : Nat) (e : EngineQueue) : Bool :=
  match e.buf with
  | [] => true
  | p :: _ =>
    let deps := p.deps.filter (b.pendingUid core)
    let depHeld (u : Nat) : Bool := (b.cores.getD core []).any fun f => f.live.any fun o => o.packet.uid == u && o.syncWaits
    let noCredit : Bool := decide (e.credits ≤ e.live.length)
    (!deps.isEmpty || noCredit) && deps.all depHeld && (!noCredit || e.live.all OutMop.syncWaits) && e.opened

/-- Whether a Stitcher parks (R289). -/
def Nib.parks (b : Nib) (x : Stitcher) : Bool :=
  let queues := b.cores.getD x.core []
  let blocked : Bool := queues.any fun e => !e.buf.isEmpty
  let canEmit : Bool := !x.ended && match x.todo with
    | none => true
    | some [] => true
    | some (t :: _) =>
      match (b.task x.tag x.epoch).bind fun k => (b.body k).bind fun v => v.templates[t]? with
      | some tp => match b.queue x.core tp.eq with | some e => decide (e.buf.length < 4) | none => true
      | none => true
  blocked && !canEmit && queues.all (b.headParked x.core)

/-- Every Stitcher parked or not, as its buffers and waits now stand (R289). -/
def Nib.repark (b : Nib) : Nib := { b with stitchers := b.stitchers.map fun x => { x with parked := b.parks x } }

/-- Whether some Stitcher of a Nib is parked in one state and not in the next. -/
def Nib.unparks (before after : Nib) : Bool :=
  before.stitchers.any fun x => x.parked && after.stitchers.any fun y => y.core == x.core && !y.parked

/-- Ascending core, then engine queue: the order in which packets of one cycle issue (R272). -/
def issueOrder (l : List (Nat × Nat)) : List (Nat × Nat) :=
  (sortNats (l.map fun c => c.1 * 32 + c.2)).map fun i => (i / 32, i % 32)

/-- NIB_ISSUE (R272): one NCLK cycle. Up to 4 ready heads issue, purl takes the grants left over, and Stitchers that only
SYNC waits block park (R289). -/
def execNibIssue (nib : Nat) (s : State) : Host.Outcome State Fault Refusal :=
  match s.nibs[nib]? with
  | none => skip s
  | some b =>
    if ¬b.present ∨ b.power = .off then skip s
    else
      let room := min 4 (s.issueRoom nib)
      let granted := b.readyHeads.take room
      let last := match granted.getLast? with | some c => c.1 | none => b.lastCore
      let t := s.modNib nib fun b => { b with lastCore := last }
      let t := (issueOrder granted).foldl (fun t c => t.issueHead nib c) t
      let purl := match t.nibs[nib]? with | some b => b.purlDue.take (room - granted.length) | none => []
      let t := purl.foldl (fun t c => t.issuePurl nib c) t
      let t := t.modNib nib Nib.repark
      if t.nibs[nib]? = some b then skip s else done s t

/-! ## Aborts at a Nib (R151, R277, R511) -/

/-- Whether an abort indication covers a macro-op (R511). -/
def AbortCover.covers (a : AbortCover) (p : Packet) : Bool :=
  match a with
  | .all => true
  | .pasid q => p.pasid == q

/-- Whether a queue has a live macro-op of a PASID. -/
def EngineQueue.hasPasid (e : EngineQueue) (p : Nat) : Bool := e.live.any fun o => !o.packet.purl && o.packet.pasid == p

/-- EQ_ABORT of one context raised on a queue, or left to follow the abort the port carries (R151, R511). -/
def EngineQueue.raiseAbort (e : EngineQueue) (p now : Nat) : EngineQueue :=
  if ¬e.hasPasid p then e
  else match e.abort with
    | none => { e with abort := some (.pasid p), abortSince := now }
    | some (.pasid q) => if q = p ∨ e.abortWaiting.contains p then e else { e with abortWaiting := e.abortWaiting ++ [p] }
    | some .all => e

/-- An abort whose tokens have all returned falls, and the next one waiting is raised (R511). -/
def EngineQueue.lowerAbort : Nat → EngineQueue → Nat → EngineQueue
  | 0, e, _ => e
  | fuel + 1, e, now =>
    match e.abort with
    | none =>
      match e.abortWaiting with
      | [] => e
      | p :: r => EngineQueue.lowerAbort fuel (EngineQueue.raiseAbort { e with abortWaiting := r } p now) now
    | some a => if e.live.any fun o => a.covers o.packet then e else EngineQueue.lowerAbort fuel { e with abort := none } now

/-- The reply bytes of an engine request (R513). -/
def engineReply (kind result mopSeq reqTag value trans : Nat) : List Byte :=
  leBytes 1 kind ++ leBytes 1 result ++ leBytes 2 mopSeq ++ leBytes 1 reqTag ++ leBytes 3 0 ++ leBytes 8 value
    ++ leBytes 8 trans ++ leBytes 8 0

/-- A reply is driven on EQA (R513). -/
def Nib.drive (b : Nib) (core eq : Nat) (r : List Byte) : Nib := b.modEq core eq fun e => { e with reply := [r] }

/-- Unanswered requests of a share's macro-ops are answered ABORTED (R331, R513); a macro-op whose token had returned is
done with. -/
def EngineQueue.abortReqs (e : EngineQueue) (tag : Nat) (epoch : W32) : EngineQueue :=
  let mine := e.out.filter fun o => o.packet.of tag epoch
  let replies := mine.flatMap fun o => o.reqs.map fun r => engineReply r.kind 6 o.mopSeq r.reqTag 0 0
  { e with
    out := (e.out.map fun o => if o.packet.of tag epoch then { o with reqs := [] } else o).filter fun o => !o.returned || !o.reqs.isEmpty
    reply := if replies.isEmpty then e.reply else replies }

/-- A share is aborted (R277): its Stitchers stop, its packets leave the buffers, its requests are answered. -/
def Nib.abortTask (b : Nib) (k : NibTask) (cause : W16) : Nib :=
  let m := k.msg
  let b := b.modTask m.tag m.epoch fun k => { k with abort := some (k.abort.getD cause) }
  { b with
    stitchers := b.stitchers.map fun x => if x.tag = m.tag ∧ x.epoch = m.epoch then { x with ended := true, todo := some [], parked := false } else x
    cores := b.cores.map fun c => c.map fun e =>
      { e.abortReqs m.tag m.epoch with buf := e.buf.filter fun p => !p.of m.tag m.epoch }
    barrierCores := b.barrierCores }

/-- An abort reaches a Nib (R151): every share of the PASID, or every share, is aborted, and EQ_ABORT is raised. -/
def State.abortNib (s : State) (n : Nat) (pasid : Option Nat) (cause : W16) : State :=
  match s.nibs[n]? with
  | none => s
  | some b =>
    let mine := b.tasks.filter fun k => match pasid with | some p => k.msg.pasid == p | none => true
    let s := s.modNib n fun b => mine.foldl (fun b k => b.abortTask k cause) b
    let s := s.modNib n fun b =>
      { b with
        purl := if pasid.isNone then 0 else b.purl
        cores := b.cores.map fun c => c.map fun e =>
          match pasid with
          | some p => e.raiseAbort p s.now
          | none => if e.live.isEmpty then e else { e with abort := some .all, abortSince := s.now } }
    mine.foldl (fun s k => s.checkShare n k.msg.tag k.msg.epoch) s

/-- ABORT_AT_NIB (R151). -/
def execAbortAtNib (nib : Nat) (s : State) : Host.Outcome State Fault Refusal :=
  match s.nibFront nib with
  | some (.abort _ pasid cause, _, t) => done s (t.abortNib nib pasid cause)
  | _ => skip s

/-- ABORT_TOKEN_TIMEOUT (R152): tokens are missing 100 µs after an abort; the Nib is lost with cause 2. -/
def execAbortTokenTimeout (nib : Nat) (s : State) : Host.Outcome State Fault Refusal :=
  match s.nibs[nib]? with
  | some b =>
    if b.cores.any fun c => c.any fun e => e.abort.isSome && decide (e.abortSince + 100000 ≤ s.now) then
      done s (s.nibLost nib 2).quiet
    else skip s
  | none => skip s

/-! ## Tokens (R274 to R276) -/

/-- Engine address {nib, core, eq} (R280, R298). -/
def engineAddr (n core eq : Nat) : Nat := n * 512 + core * 32 + eq

/-- A FAULT record for a MOP_SEQ that names no outstanding packet (R276, R281). -/
def State.strayMop (s : State) (n core eq : Nat) : State :=
  s.recordNib n (nibSource n) 0x0A (Code.engineFault.toNat + 2 ^ 16 * engineAddr n core eq)

/-- The context-fatal code of a token's STATUS (R275): 0, 1 and a covered ABORTED give none. -/
def tokenFatal (status : Nat) (covered : Bool) : Option W16 :=
  match status with
  | 0 => none
  | 1 => none
  | 2 => if covered then none else some Code.engineFault
  | 0x11 => some Code.memoryError
  | 0x12 => some Code.translationFault
  | _ => some Code.engineFault

/-- The energy of a token (R390): a task's is held until its Nib reports it; purl's goes to its partition at once. -/
def State.chargeToken (s : State) (n busy activity : Nat) (p : Packet) : State :=
  let e := s.tokenEnergy n busy activity
  if p.purl then s.modPart p.partition fun x => x.chargePurl e
  else s.modNib n fun b => { b.modTask p.tag p.epoch fun k => { k with energy := k.energy + e } with lastBusy := s.now }

/-- Invalidations whose earlier packets have all returned their tokens are answered (R285). -/
def State.answerInvalidations (s : State) (n : Nat) : State :=
  match s.nibs[n]? with
  | none => s
  | some b =>
    let ready := b.invalidations.filter fun i => i.2.2.isEmpty
    let s := s.modNib n fun b => { b with invalidations := b.invalidations.filter fun i => !i.2.2.isEmpty }
    ready.foldl (fun s i => s.sendUp n (.invalidated n i.1)) s

/-- What a token leaves of its queue: the packet's credit is back; a macro-op with unanswered requests stays in view of
them (R274, R278). -/
def EngineQueue.token (e : EngineQueue) (mopSeq now : Nat) : EngineQueue :=
  let out := e.out.filterMap fun o =>
    if o.mopSeq = mopSeq ∧ ¬o.returned then
      (if o.reqs.isEmpty then none else some { o with returned := true })
    else some o
  EngineQueue.lowerAbort (e.abortWaiting.length + 2) { e with out := out } now

/-- A token's outcome on its share (R279, R280): the first context-fatal or abort status in order of acceptance, the first
NONFINITE report. -/
def NibTask.tokened (k : NibTask) (code : Option W16) (aborted : Bool) (nf : Option NonFinite) : NibTask :=
  { k with fatal := k.fatal.orElse fun _ => code.orElse fun _ => if aborted then k.abort else none
           nf := match k.nf with | some r => some r | none => nf }

/-- COMPLETION_TOKEN (R275, R276, R279). A token with a reserved bit of ACTIVITY set is refused as an ENGINE_ERROR (R11; log 133). A
context-fatal one has a FAULT record of its Nib with the engine address and DETAIL. -/
def execCompletionToken (nib core eq : Nat) (token : List Byte) (s : State) : Host.Outcome State Fault Refusal :=
  match (s.nibs[nib]?).bind fun b => (b.queue core eq).map fun e => (b, e) with
  | none => skip s
  | some (b, e) =>
    if ¬b.present then skip s
    else
      let seq := le token 0 2
      match e.live.find? fun o => o.mopSeq == seq with
      | none => done s (s.strayMop nib core eq)
      | some o =>
        let p := o.packet
        let status := if le token 2 1 < 64 then le token 3 1 else 0x10
        let covered : Bool := match e.abort with | some a => a.covers p | none => false
        let code := tokenFatal status covered
        let nf : Option NonFinite := if status = 1 then some ⟨s.nibNow nib, engineAddr nib core eq⟩ else none
        let t := s.chargeToken nib (le token 4 4) (le token 2 1 % 64) p
        let t := t.modNib nib fun b =>
          let b := b.modEq core eq fun e => e.token seq s.now
          let b := if p.purl then b else b.modTask p.tag p.epoch fun k => { k with doneAt := some (s.nibNow nib) }
          let b := if p.purl then b else b.modTask p.tag p.epoch fun k => k.tokened code (status == 2 && covered) nf
          Nib.settle { b with invalidations := b.invalidations.map fun i => (i.1, i.2.1, i.2.2.filter (· != p.uid)) } s.now
        let t := match code with
          | some c => t.recordNib nib (nibSource nib) 0x0A
              (c.toNat + 2 ^ 16 * engineAddr nib core eq + 2 ^ 64 * le token 8 8)
          | none => t
        let t := t.answerInvalidations nib
        let t := if p.purl then t else t.checkShare nib p.tag p.epoch
        match code with
        | some c => if p.purl then done s t else done s (t.pasidFault p.pasid c).quiet
        | none => done s t

/-! ## Residue and withdrawal -/

/-- A sync fault record of a Nib (R338, R340). -/
def State.nibSyncFault (s : State) (n : Nat) (code : W16) (object waiter : Nat) : State :=
  let payload := code.toNat + object + waiter
  let first := s.dbg.syncFaults = 0
  let s := s.recordNib n (nibSource n) 0x0A payload
  { s with dbg := { s.dbg with
      syncFault := if first then BitVec.ofNat 128 payload else s.dbg.syncFault
      syncFaultStamp := if first then BitVec.ofNat 64 (s.nibNow n) else s.dbg.syncFaultStamp
      syncFaults := sat32 s.dbg.syncFaults 1 } }

/-- The context handle of a task in flight. -/
def State.taskHandle (s : State) (tag : Nat) : W32 :=
  match tget s.tasks tag with
  | some k => match tget s.ctxs k.slot with | some c => handleOf k.slot c.gen | none => 0
  | none => 0

/-- RESIDUE_READ_ANSWER (R338): a word that differs from its recorded value is a residue; the share completes. -/
def execResidueReadAnswer (nib : Nat) (s : State) : Host.Outcome State Fault Refusal :=
  match s.nibFront nib with
  | some (.residue _ tag epoch values, b, t) =>
    match b.task tag epoch with
    | none => done s t
    | some k =>
      match (k.residue.zip values).find? fun r => r.1.2.1 != r.2 with
      | some (r, _) =>
        let t := t.nibSyncFault nib Code.syncResidue (syncObject (.sram r.1))
          (syncWaiter (t.taskHandle tag) (.engine nib r.2.2 0 0 0 tag))
        done s (t.completeShare nib { k with waiter := some Code.syncResidue })
      | none => done s (t.completeShare nib k)
  | _ => skip s

/-- NIB_WITHDRAW (R268, R292). -/
def execNibWithdraw (nib : Nat) (s : State) : Host.Outcome State Fault Refusal :=
  match s.nibFront nib with
  | some (.withdraw _ tag epoch pos, b, t) =>
    match b.task tag epoch with
    | none => done s (t.sendUp nib (.unknown nib tag epoch pos))
    | some k =>
      if k.started then done s (t.sendUp nib (.started nib tag epoch pos))
      else
        let t := t.modNib nib fun b =>
          Nib.settle { b with tasks := b.tasks.filter fun j => !(j.msg.tag == tag && j.msg.epoch == epoch) } t.now
        let t := { t with mip := t.mip.map fun (r : MemReq) => if r.wait = some (MemWait.nibConstants nib tag) then { r with dead := true } else r }
        done s (t.sendUp nib (.withdrawn nib tag epoch pos))
  | _ => skip s

end Sys2Proof.Machine
end

