-- ==== Sys2Proof/Machine/Engine.lean ====
section
/-! DEFINITION. Requests of engines (R281 to R288, R330, R331, R337, R349, R512, R513), the translation cache and
invalidations (R282 to R286). -/

namespace Sys2Proof.Machine

open Sys2Proof

/-! ## Answers -/

/-- A macro-op with one of its requests answered. -/
def OutMop.answer (o : OutMop) (kind reqTag : Nat) : OutMop :=
  match takeFirst (fun r => r.kind == kind && r.reqTag == reqTag) o.reqs with
  | some (_, rest) => { o with reqs := rest }
  | none => o

/-- A queue with a request of a macro-op answered; a macro-op whose token has returned leaves with its last answer
(R278). -/
def EngineQueue.answer (e : EngineQueue) (mopSeq kind reqTag : Nat) (r : List Byte) : EngineQueue :=
  { e with
    out := (e.out.map fun o => if o.mopSeq = mopSeq then o.answer kind reqTag else o).filter fun o => !o.returned || !o.reqs.isEmpty
    reply := [r] }

/-- The macro-op and the open request that a reply is for. -/
def Nib.openReq (b : Nib) (core eq mopSeq kind reqTag : Nat) : Option (OutMop × OpenReq) :=
  match b.queue core eq with
  | none => none
  | some e => e.out.findSome? fun o =>
      if o.mopSeq = mopSeq then (o.reqs.find? fun r => r.kind == kind && r.reqTag == reqTag).map fun r => (o, r) else none

/-- A request is answered, and the Stitchers park or unpark as it leaves them (R289). A partition of which one unparks
takes back what it has lent (R382). -/
def State.answerReq (s : State) (n core eq mopSeq kind reqTag result value trans : Nat) : State :=
  match s.nibs[n]? with
  | none => s
  | some b =>
    let b' := Nib.repark (b.modEq core eq fun e => e.answer mopSeq kind reqTag (engineReply kind result mopSeq reqTag value trans))
    let s := s.modNib n fun _ => b'
    match s.partOfNib n with
    | some p => if b.unparks b' then s.reclaim p else s
    | none => s

/-! ## Acceptance of a request (R281, R511, R512) -/

/-- What becomes of an engine request: skipped by the row of another kind, answered at once with a RESULT, or taken for
the macro-op it names. -/
inductive ReqFate where
  | other
  | answered (result : Nat) (stray : Bool)
  | taken (o : OutMop)

/-- Whether the reserved fields of a request, and those that its kind does not use, are 0 (R512). -/
def reqClean (r : List Byte) : Bool :=
  let kind := le r 0 1
  let flags := le r 1 1
  let z (off n : Nat) : Bool := le r off n == 0
  decide (le r 4 1 < 4) && z 5 3 && z 0x2A 2 && z 0x30 8 && z 0x38 8 &&
  match kind with
  | 1 => decide (flags < 2) && z 0x10 8 && z 0x18 8 && z 0x20 4 && z 0x24 4 && z 0x28 2 && z 0x2C 4
  | 2 => decide (flags < 16) && z 0x2C 4
  | 3 => flags == 0 && z 0x10 8 && z 0x18 8 && z 0x24 4 && z 0x28 2 && decide (le r 0x20 4 < 2 ^ 20)
  | _ => false

/-- Whether the values of a SYNC request are in range (R330). -/
def syncReqOk (r : List Byte) : Bool :=
  let flags := le r 1 1
  let op := bits flags 2 0
  (decide (op ≤ 4) || op == 6) && decide (le r 0x24 4 ≤ 60000000) &&
  (op == 6 || (if bit flags 3 then le r 8 8 % 8 == 0 && (decide (op ≤ 1) || (decide (1 ≤ le r 0x28 2) && decide (le r 0x28 2 ≤ 1024)))
    else decide (le r 0x20 4 < 32768)))

/-- Whether the share of a macro-op has been aborted. -/
def Nib.abortedShare (b : Nib) (p : Packet) : Bool :=
  match b.task p.tag p.epoch with
  | some k => k.abort.isSome
  | none => true

/-- The fate of a request on a queue, at the row of a kind. A request of a purl macro-op, which has no context, is refused
(log 13). -/
def Nib.fate (b : Nib) (core eq kind : Nat) (r : List Byte) : ReqFate :=
  match b.queue core eq with
  | none => .other
  | some e =>
    if ¬b.present ∨ 4 ≤ (e.out.foldl (fun n o => n + o.reqs.length) 0) ∨ (le r 0 1 ≠ kind ∧ 1 ≤ le r 0 1 ∧ le r 0 1 ≤ 3) then .other
    else match e.live.find? fun o => o.mopSeq == le r 2 2 with
      | none => .answered 5 true
      | some o =>
        if ¬reqClean r ∨ o.packet.purl ∨ (kind = 2 ∧ ¬syncReqOk r) then .answered 5 false
        else if b.abortedShare o.packet then .answered 6 false
        else .taken o

/-- A request answered without being taken: a stray MOP_SEQ is counted (R276). -/
def State.refuseReq (s : State) (n core eq : Nat) (r : List Byte) (result : Nat) (stray : Bool) : State :=
  let s := if stray then s.strayMop n core eq else s
  s.modNib n fun b => b.drive core eq (engineReply (le r 0 1) result (le r 2 2) (le r 4 1) 0 0)

/-- A request noted as unanswered with its macro-op. -/
def Nib.openWith (b : Nib) (core eq mopSeq : Nat) (r : OpenReq) : Nib :=
  b.modEq core eq fun e =>
    { e with out := e.out.map fun o => if o.mopSeq = mopSeq ∧ ¬o.returned then { o with reqs := o.reqs ++ [r] } else o }

/-- What a kind's row does with a request: `take` gives the state for one that is taken. -/
def State.engineRow (s : State) (n core eq kind : Nat) (r : List Byte) (take : Nib → OutMop → State) :
    Host.Outcome State Fault Refusal :=
  match s.nibs[n]? with
  | none => skip s
  | some b =>
    match b.fate core eq kind r with
    | .other => skip s
    | .answered result stray => done s (s.refuseReq n core eq r result stray)
    | .taken o => done s (take b o)

/-! ## TRANSLATE (R282, R284) -/

/-- Base-2 logarithm of a power of two. -/
def log2Of (n : Nat) : Nat := Nat.log2 n

/-- TRANS of an OK reply (R513). -/
def Tlb.trans (e : Tlb) (addr : Nat) : Nat :=
  (e.target.toNat + (addr / 4096 * 4096 - e.page)) % 2 ^ 64 / 4096 * 4096 + log2Of e.size % 64 + 2 ^ 6 * b2n e.readable +
    2 ^ 7 * b2n e.writable

/-- A cached translation used: it is the most recent one. -/
def Nib.touch (b : Nib) (e : Tlb) : Nib := { b with cache := (b.cache.filter (· != e)) ++ [e] }

/-- ENGINE_TRANSLATE_REQUEST (R284). -/
def execEngineTranslateRequest (nib core eq : Nat) (request : List Byte) (s : State) : Host.Outcome State Fault Refusal :=
  s.engineRow nib core eq 1 request fun b o =>
    let write := bit (le request 1 1) 0
    let addr := le request 8 8
    let page := addr / 4096 * 4096
    let tag := le request 4 1
    match b.cache.find? fun e => e.serves o.packet.pasid page write with
    | some e =>
      s.modNib nib fun b => (b.touch e).drive core eq (engineReply 1 0 o.mopSeq tag 0 (e.trans addr))
    | none =>
      let q : OpenReq := { reqTag := tag, kind := 1, syncWait := false, barrier := none, word := none, addr := BitVec.ofNat 64 addr,
                           len := 0, write := write }
      (s.modNib nib fun b => b.openWith core eq o.mopSeq q).askXlat nib o.packet.pasid page write
        (core, eq, o.mopSeq, tag, BitVec.ofNat 64 addr)

/-! ## SYNC (R330, R331, R337, R349, R354) -/

/-- A share takes a waiter code, if it has none (R279). -/
def State.giveWaiter (s : State) (n tag : Nat) (epoch : W32) (code : W16) : State :=
  s.modNib n fun b => b.modTask tag epoch fun k => { k with waiter := some (k.waiter.getD code) }

/-- The party of an engine's request. -/
def engineParty (n core eq mopSeq reqTag tag : Nat) : SyncParty := .engine n core eq mopSeq reqTag tag

/-- The arrival of a core at a barrier, checked (R354). -/
def State.coreMayArrive (s : State) (b : Nib) (p : Packet) (core ident : Nat) : Option SkeinEntry :=
  match s.skeinEntry ident with
  | none => none
  | some e =>
    if e.partition = p.partition ∧ core < e.nibCores ∧ ¬(tgetD b.barrierCores ident []).contains core then some e else none

/-- A core's arrival is counted at its Nib (R349): its record, and the Nib's own arrival once every core is there. -/
def State.countCore (s : State) (n core : Nat) (p : Packet) (e : SkeinEntry) : State :=
  let here := sortNats (core :: (match s.nibs[n]? with | some b => tgetD b.barrierCores e.barrier [] | none => []))
  let s := s.modNib n fun b => { b with barrierCores := tset b.barrierCores e.barrier here }
  let s := s.recordNib n (nibSource n) 0x09 (s.barrierPayload e.barrier false)
  if (List.range e.nibCores).all here.contains then s.sendUp n (.barrier [n] e.barrier p.partition) else s

/-- Whether a SET or ADD first touches a task-local word for its share (R337). -/
def State.tracks (s : State) (k : NibTask) (op index : Nat) (inMemory : Bool) : Bool :=
  decide (op ≤ 1) && !inMemory && s.sync.taskLocal.contains index && !k.residue.any (fun r => r.1 == index) &&
    !k.residuePending.any (fun r => r.1 == index)

/-- A taken SYNC request goes up Yarn (R330). -/
def State.sendSync (s : State) (n core eq : Nat) (o : OutMop) (r : List Byte) : State :=
  let flags := le r 1 1
  let op := bits flags 2 0
  let q : OpenReq := { reqTag := le r 4 1, kind := 2, syncWait := decide (2 ≤ op), barrier := if op = 6 then some (le r 0x20 4) else none,
                       word := if op ≤ 1 ∧ ¬bit flags 3 then some (le r 0x20 4) else none, addr := 0, len := 0, write := false }
  (s.modNib n fun b => b.openWith core eq o.mopSeq q).sendUp n (.sync
    { nib := n, core := core, eq := eq, mopSeq := o.mopSeq, reqTag := le r 4 1, tag := o.packet.tag, op := op,
      inMemory := bit flags 3, index := le r 0x20 4, addr := le64 r 8, value := le64 r 0x10, mask := le64 r 0x18,
      timeoutUs := le r 0x24 4, pollUs := le r 0x28 2, since := s.now })

/-- ENGINE_SYNC_REQUEST (R330). A 65th task-local word is refused with SYNC_RESIDUE (R337), and an arrival that R354 does not
let in with BARRIER_FAILED. -/
def execEngineSyncRequest (nib core eq : Nat) (request : List Byte) (s : State) : Host.Outcome State Fault Refusal :=
  s.engineRow nib core eq 2 request fun b o =>
    let p := o.packet
    let op := bits (le request 1 1) 2 0
    let index := le request 0x20 4
    let refuse (result : Nat) (code : W16) (object : Nat) : State :=
      let s := s.nibSyncFault nib code object (syncWaiter (s.taskHandle p.tag) (engineParty nib core eq o.mopSeq 0 p.tag))
      (s.giveWaiter nib p.tag p.epoch code).refuseReq nib core eq request result false
    if op = 6 then
      match s.coreMayArrive b p core index with
      | none => refuse 3 Code.syncTimeout (syncObject (.barrier index))
      | some e => (s.sendSync nib core eq o request).countCore nib core p e
    else
      match b.task p.tag p.epoch with
      | none => s
      | some k =>
        if s.tracks k op index (bit (le request 1 1) 3) then
          if 64 ≤ k.residue.length + k.residuePending.length then refuse 5 Code.syncResidue (syncObject (.sram index))
          else
            (s.modNib nib fun b => b.modTask p.tag p.epoch fun k =>
              { k with residuePending := k.residuePending ++ [(index, core)] }).sendSync nib core eq o request
        else s.sendSync nib core eq o request

/-- The residue table after a reply (R337): the first OK reply of a word records the value from before the operation; a word
whose every request has failed leaves the table. -/
def NibTask.settleWord (k : NibTask) (index : Nat) (old : Option W64) (more : Bool) : NibTask :=
  match k.residuePending.find? fun r => r.1 == index with
  | none => k
  | some r =>
    let rest := k.residuePending.filter fun x => x.1 != index
    match old with
    | some v => { k with residue := k.residue ++ [(index, v, r.2)], residuePending := rest }
    | none => if more then k else { k with residuePending := rest }

/-- The codes that a SYNC reply leaves in its share (R331). -/
def NibTask.replied (k : NibTask) (r : SyncReply) : NibTask :=
  if r.result = 0 ∨ k.abort.isSome then k
  else if r.result = 4 then { k with fatal := some (k.fatal.getD Code.memoryError) }
  else { k with waiter := some (k.waiter.getD r.code) }

/-- Requests of a share on a word that are still unanswered. -/
def Nib.openOnWord (b : Nib) (tag : Nat) (epoch : W32) (w : Nat) : Bool :=
  b.cores.any fun c => c.any fun e => e.out.any fun o => o.packet.of tag epoch && o.reqs.any fun r => r.word == some w

/-- A SYNC reply at its Nib (R331). -/
def State.syncReplied (s : State) (n : Nat) (r : SyncReply) : State :=
  match (s.nibs[n]?).bind fun b => b.openReq r.core r.eq r.mopSeq 2 r.reqTag with
  | none => s
  | some (o, q) =>
    let p := o.packet
    let s := s.answerReq n r.core r.eq r.mopSeq 2 r.reqTag r.result (if r.result = 0 then r.value.toNat else 0) 0
    let s := s.modNib n fun b =>
      let b := b.modTask p.tag p.epoch fun k => k.replied r
      match q.word with
      | some w =>
        let more := b.openOnWord p.tag p.epoch w
        b.modTask p.tag p.epoch fun k => k.settleWord w (if r.result = 0 then some r.value else none) more
      | none =>
        match q.barrier with
        | some i => if r.result = 3 then { b with barrierCores := tmod b.barrierCores i fun l => l.filter (· != r.core) } else b
        | none => b
    s.checkShare n p.tag p.epoch

/-- SYNC_REPLY_AT_NIB (R331). -/
def execSyncReplyAtNib (nib : Nat) (s : State) : Host.Outcome State Fault Refusal :=
  match s.nibFront nib with
  | some (.syncReply r, _, t) => done s (t.syncReplied nib r)
  | _ => skip s

/-- The unanswered barrier requests of a Nib for one barrier: core, queue, MOP_SEQ, REQ_TAG. -/
def Nib.barrierReqs (b : Nib) (ident : Nat) : List (Nat × Nat × Nat × Nat) :=
  b.cores.zipIdx.flatMap fun c => c.1.zipIdx.flatMap fun e => e.1.out.flatMap fun o =>
    (o.reqs.filter fun r => r.barrier == some ident).map fun r => (c.2, e.2, o.mopSeq, r.reqTag)

/-- BARRIER_RELEASE_AT_NIB (R351, R382, R385): waiting OP 6 requests are answered, purl stops, and the partition takes back
what it has lent. -/
def execBarrierReleaseAtNib (nib : Nat) (s : State) : Host.Outcome State Fault Refusal :=
  match s.nibFront nib with
  | some (.release _ part ident gen code, b, t) =>
    let t := t.recordNib nib (nibSource nib) 0x09 (t.barrierPayload ident true)
    let t := (b.barrierReqs ident).foldl (fun t r => t.syncReplied nib
      { nib := nib, core := r.1, eq := r.2.1, mopSeq := r.2.2.1, reqTag := r.2.2.2, result := if code = Code.ok then 0 else 3,
        value := gen.setWidth 64, code := code }) t
    let purl : Bool := ((tget t.parts part).bind Part.purl).isSome
    let t := t.modNib nib fun b =>
      { b with barrierCores := tdel b.barrierCores ident, purl := if purl then b.purl else 0 }
    done s (t.reclaim part)
  | _ => skip s

/-! ## ENQUEUE (R287, R288) -/

/-- ENGINE_ENQUEUE_REQUEST (R287). -/
def execEngineEnqueueRequest (nib core eq : Nat) (request : List Byte) (s : State) : Host.Outcome State Fault Refusal :=
  s.engineRow nib core eq 3 request fun _ o =>
    let q : OpenReq := { reqTag := le request 4 1, kind := 3, syncWait := false, barrier := none, word := none,
                         addr := le64 request 8, len := le request 0x2C 4, write := false }
    (s.modNib nib fun b => b.openWith core eq o.mopSeq q).sendUp nib
      (.enqueue nib core eq o.mopSeq (le request 4 1) o.packet.pasid (le request 0x20 4) (le64 request 8) (le request 0x2C 4))

/-- A ring entry of a single-entry submission (R170, R287). -/
def enqueuedEntry (addr : W64) (len : Nat) : List Byte := leBytes 4 3 ++ leBytes 4 len ++ leBytes 8 addr.toNat ++ List.replicate 48 0

/-- A Nib Memory Port write of a ring entry (R287, R504). -/
def State.writeEntry (s : State) (n pasid part : Nat) (entry addr : W64) (len : Nat) : State :=
  s.putMem { wait := some (.nibEntry n), op := .write, pasid := pasid, part := some part, addr := entry, len := 64,
             data := enqueuedEntry addr len, atomic := false, phys := false, since := s.now, dead := false, pages := [] }

/-- ENQUEUE_REPLY_AT_NIB (R287, R288): on acceptance the entry is written; a refusal is answered. -/
def execEnqueueReplyAtNib (nib : Nat) (s : State) : Host.Outcome State Fault Refusal :=
  match s.nibFront nib with
  | some (.enqueueReply n core eq mopSeq reqTag result queue entry addr len pasid, b, t) =>
    match b.openReq core eq mopSeq 3 reqTag with
    | none => done s t
    | some (o, _) =>
      if result = 0 then
        let m : DownMsg := .enqueueReply n core eq mopSeq reqTag result queue entry addr len pasid
        done s ((t.modNib nib fun b => { b with enqueues := b.enqueues ++ [m] }).writeEntry nib pasid o.packet.partition entry addr len)
      else
        done s ((t.answerReq nib core eq mopSeq 3 reqTag result 0 0).checkShare nib o.packet.tag o.packet.epoch)
  | _ => skip s

/-- The share that an enqueue acts for, checked for its end once the enqueue is answered. -/
def State.enqueueAnswered (s : State) (n core eq mopSeq reqTag : Nat) : State :=
  match (s.nibs[n]?).bind fun b => b.openReq core eq mopSeq 3 reqTag with
  | none => s
  | some (o, _) => (s.answerReq n core eq mopSeq 3 reqTag 0 0 0).checkShare n o.packet.tag o.packet.epoch

/-- ENQUEUE_ENTRY_WRITE_RESPONSE (R287, R288): the entry is reported written and the engine answered OK; an error response is
context-fatal (R150), and the abort answers the engine. -/
def execEnqueueEntryWriteResponse (nib : Nat) (ok : Bool) (s : State) : Host.Outcome State Fault Refusal :=
  match s.answered (.nibEntry nib), (s.nibs[nib]?).bind fun b => b.enqueues.head? with
  | some (_, t), some (.enqueueReply _ core eq mopSeq reqTag _ queue _ _ _ pasid) =>
    let t := t.modNib nib fun b => { b with enqueues := b.enqueues.drop 1 }
    if ok then done s ((t.sendUp nib (.entryWritten queue nib core eq mopSeq reqTag)).enqueueAnswered nib core eq mopSeq reqTag)
    else done s (t.pasidFault pasid Code.memoryError).quiet
  | some (_, t), _ => done s t
  | none, _ => late s (.nibEntry nib)

/-! ## Translations returned (R282, R286, R506) -/

/-- Page and size that an address field and its S bit spell in Address Translation Services (R506): without S, 4 KiB; with
S, the lowest 0 bit from bit 12 up gives the size. -/
def atsRange (address : Nat) (sizeBit : Bool) : Nat × Nat :=
  if sizeBit then
    let k := (lowest 52 fun i => !bit address (12 + i)).getD 51
    let size := 2 ^ (13 + k)
    (address / size * size, size)
  else (address / 4096 * 4096, 4096)

/-- Entries that the running task reserves for each Stitcher (R282). -/
def Nib.reservation (b : Nib) : Nat :=
  match b.stitchers.find? fun x => !x.ended with
  | none => 0
  | some x =>
    match (b.task x.tag x.epoch).bind b.body with
    | some v => min 1024 (v.lookahead * v.streams.length)
    | none => 0

/-- The first entry that a test accepts changed. -/
def modFirst {α : Type} (ok : α → Bool) (f : α → α) : List α → List α
  | [] => []
  | a :: r => if ok a then f a :: r else a :: modFirst ok f r

/-- A cache, oldest entry first, in which each Stitcher keeps its newest `cap` reserved entries; the others pass to the shared
pool (R282). -/
def fitReserved (cap : Nat) : List Tlb → List Tlb
  | [] => []
  | e :: r =>
    let r' := fitReserved cap r
    match e.reserved with
    | some _ => (if r'.countP (fun x => x.reserved == e.reserved) < cap then e else { e with reserved := none }) :: r'
    | none => e :: r'

/-- A cache without its `n` least recently used entries of the shared pool (R282). -/
def dropShared : Nat → List Tlb → List Tlb
  | _, [] => []
  | 0, l => l
  | n + 1, e :: r => if e.reserved.isNone then dropShared n r else e :: dropShared (n + 1) r

/-- A translation enters the cache (R282): a lookahead's in its Stitcher's part of the reserved pool, whose overflow passes to
the shared pool of 1024, which drops its least recently used. -/
def Nib.cacheIn (b : Nib) (e : Tlb) : Nib :=
  let c := (b.cache.filter fun x => !(x.pasid == e.pasid && x.page == e.page && x.size == e.size)) ++ [e]
  let c := fitReserved b.reservation c
  { b with cache := dropShared (c.countP (fun x => x.reserved.isNone) - 1024) c }

/-- An engine's TRANSLATE answered from what returned (R284). -/
def State.answerXlat (s : State) (n : Nat) (e : Option Tlb) (ask : Nat × Nat × Nat × Nat × W64) : State :=
  match (s.nibs[n]?).bind fun b => b.openReq ask.1 ask.2.1 ask.2.2.1 1 ask.2.2.2.1 with
  | none => s
  | some _ =>
    match e with
    | some e => s.answerReq n ask.1 ask.2.1 ask.2.2.1 1 ask.2.2.2.1 0 0 (e.trans ask.2.2.2.2.toNat)
    | none => s.answerReq n ask.1 ask.2.1 ask.2.2.1 1 ask.2.2.2.1 1 0 0

/-! ## Invalidations (R285) -/

/-- Whether two ranges meet. -/
def rangesMeet (a n b m : Nat) : Bool := decide (a < b + m) && decide (b < a + n)

/-- Whether an invalidation covers a translation of a PASID. -/
def invCovers (pasid : Option Nat) (page size p q n : Nat) : Bool :=
  (match pasid with | some x => x == p | none => true) && rangesMeet page size q n

/-- An invalidation starts (R285): the Hub's own copies are removed, and every Nib that has asked for a translation under its
PASID since the last full one is told; requests in flight remember what it covers (R286). -/
def State.startInv (s : State) (itag : Nat) (pasid : Option Nat) (page size : Nat) : State :=
  let users := sortNats (s.xlat.users.flatMap fun e => if pasid.isNone || pasid == some e.1 then e.2 else [])
  let nibs := users.filter fun n => (s.nibs[n]?.map Nib.present).getD false
  let full : Bool := page == 0 && decide (2 ^ 64 ≤ size)
  let x := s.xlat
  let x := { x with
    invs := x.invs ++ [⟨itag, pasid, page, size, nibs⟩]
    users := if full then x.users.filter (fun e => !(pasid.isNone || pasid == some e.1)) else x.users
    cache := x.cache.filter fun e => !invCovers pasid page size e.pasid e.page e.size
    reqs := x.reqs.map fun r =>
      if (match pasid with | some p => p == r.pasid | none => true) then { r with dirty := r.dirty ++ [(page, size)] } else r }
  nibs.foldl (fun s n => s.sendNib n (.invalidate n itag pasid page size)) { s with xlat := x }

/-- INVALIDATE_REQUEST (R285, R507). -/
def execInvalidateRequest (itag pasid : Nat) (allPasids : Bool) (address : W64) (sizeBit : Bool) (s : State) :
    Host.Outcome State Fault Refusal :=
  let host := s.xlat.invs.filter fun i => decide (i.itag < 32)
  if ¬s.awake ∨ ¬s.primary ∨ 32 ≤ host.length ∨ 32 ≤ itag ∨ host.any (fun i => i.itag == itag) then skip s
  else
    let range := atsRange address.toNat sizeBit
    done s (s.startInv itag (if allPasids then none else some pasid) range.1 range.2)

/-- Uids of a Nib's issued packets under a PASID, or under every one. -/
def Nib.liveUids (b : Nib) (pasid : Option Nat) : List Nat :=
  b.cores.flatMap fun c => c.flatMap fun e => e.live.filterMap fun o =>
    if !o.packet.purl && (match pasid with | some p => o.packet.pasid == p | none => true) then some o.packet.uid else none

/-- NIB_INVALIDATION (R285): matching entries are removed; the answer follows once the packets issued before have returned
their tokens. -/
def execNibInvalidation (nib : Nat) (s : State) : Host.Outcome State Fault Refusal :=
  match s.nibFront nib with
  | some (.invalidate _ itag pasid page size, _, t) =>
    let t := t.modNib nib fun b =>
      { b with cache := b.cache.filter fun e => !invCovers pasid page size e.pasid e.page e.size
               invalidations := b.invalidations ++ [(itag, pasid, b.liveUids pasid)] }
    done s (t.answerInvalidations nib)
  | _ => skip s

/-- The answers to an invalidation at the front of the splitters' up-streams are taken. -/
def State.takeInvalidated (s : State) (itag : Nat) : State :=
  (List.range s.splitters.length).foldl (fun s sp =>
    match s.hubFront sp with
    | some (.invalidated n i, t) =>
      if i = itag then
        { t with xlat := { t.xlat with invs := t.xlat.invs.map fun v =>
          if v.itag = itag then { v with nibs := v.nibs.filter (· != n) } else v } }
      else s
    | _ => s) s

/-- INVALIDATE_COMPLETE (R285): answers are taken; with the last of them the completion leaves on the Translation Port. An
invalidation of a context's release (R154) has no completion on the port. -/
def execInvalidateComplete (itag : Nat) (s : State) : Host.Outcome State Fault Refusal :=
  match s.xlat.invs.find? fun i => i.itag == itag with
  | none => skip s
  | some _ =>
    if ¬s.awake ∨ ¬s.primary then skip s
    else
      let t := s.takeInvalidated itag
      match t.xlat.invs.find? fun i => i.itag == itag with
      | none => done s t
      | some i =>
        if i.nibs.isEmpty then
          let t := { t with xlat := { t.xlat with invs := t.xlat.invs.filter fun v => v.itag != itag } }
          done s (if itag < 32 then t.emit (.xic itag) else t)
        else if t.splitters = s.splitters then skip s else done s t

end Sys2Proof.Machine
end

