-- ==== Sys2Proof/Machine/Mirror.lean ====
section
/-! DEFINITION. The mirrored Hub pair (R475 to R485). The state is this Hub's; its partner is known by what arrives over the
Mirror Port and by what the splitters have heard of it. -/

namespace Sys2Proof.Machine

open Sys2Proof

/-- A MIRROR record of the Blotter (R467, R475): the roles before and after, and the cause. -/
def State.mirrorRecord (s : State) (before after : Role) : State :=
  s.blot 0 0x0A unitFm (before.code + 8 * after.code + 256 * s.mir.cause)

/-- A MIRROR record of the follower that reaches the primary over the Mirror Port (R468, R475): its stamp is the arrival's, and a Hub
that copies has seen no failover of its own (log 93). -/
def State.followerRecord (s : State) (before after : Role) : State :=
  let r : BlotRec := { stamp := s.aoNow, seq := s.flt.seq, code := 0, kind := 0x0A, fromFollower := true,
                       hubPos := s.build.hubPos, source := s.source unitFm,
                       object := BitVec.ofNat 320 (before.code + 8 * after.code) }
  State.emit { s with flt := { s.flt with seq := s.flt.seq + 1 } } (.blot r)

/-- A role taken. -/
def State.setRole (s : State) (r : Role) : State := { s with mir := { s.mir with role := r } }

/-- Every held effect leaves (R475, R478). -/
def State.releaseHeld (s : State) : State :=
  s.mir.held.foldl (fun s h => s.release h.what) { s with mir := { s.mir with held := [] } }

/-- A primary yields to its partner with a cause of R485 (R475, R480): FAILOVER_REQ and RELEASE are sent, its effects stop and
its outputs are low. -/
def State.yieldTo (s : State) (cause : Nat) : State :=
  { s with
    splitters := s.splitters.map fun x => { x with released := true }
    iga := { s.iga with states := [] }
    dmes := s.dmes.map fun m => { m with freeze := true }
    mir := { s.mir with role := .yielded, held := [], failoverReq := true, cause := cause } }

/-- A device fault (R470): its bit in FLT_DEVICE and its record; a fatal one makes a primary with a following partner yield
(R475, R480). -/
def State.faultDevice (s : State) (bitNo : Nat) (code : W16) (unit detail : Nat) : State :=
  let s := { s with flt := { s.flt with device := s.flt.device ||| BitVec.ofNat 32 (2 ^ bitNo) } }
  let s := s.blot code 0x09 unit (bitNo + 2 ^ 8 * detail)
  if bitNo < 3 ∧ s.mir.role = .primaryMirrored then s.yieldTo 3 else s

/-! ## Records and acknowledgements -/

/-- The time that a follower takes from its primary (R35): after a load, and the first time, the primary's own; from then on
its count slews towards the primary's, 1 ns per REFCLK_25M edge, so that it neither steps nor repeats a value (R33; log 124). -/
def Ductus.follow (d : Ductus) (m : MirrorTime) : Ductus :=
  let d' := { d with epoch := m.epoch, lastEdge := m.lastEdge, loads := m.loads, followed := true }
  if d.followed ∧ d.loads = m.loads then { d' with slew := (d.time : Int) - (m.count + m.phase) }
  else { d' with count := m.count, phase := m.phase, slew := 0 }

/-- A message that the partner has sent down: this Hub numbers its own after it, and the splitter receives it (R479, R482). -/
def State.partnerSent (s : State) (d : DownSent) : State :=
  let next := tgetD s.mir.downSeq d.splitter 0
  if (d.seq + 65536 - next) % 65536 < 32768 then
    let s := { s with mir := { s.mir with downSeq := tset s.mir.downSeq d.splitter ((d.seq + 1) % 65536) } }
    (s.modSplitter d.splitter fun x => if x.link = .up then { x with down := x.down ++ [d.msg] } else x).passDown d.splitter
  else s

/-- A confirmation of the partner's at a splitter: the oldest messages leave its replay buffer (R479). -/
def State.partnerConfirmed (s : State) (c : Nat × Nat) : State :=
  s.modSplitter c.1 fun x => { x with
    up := x.up.drop (x.up.length + c.2 - x.replay.length)
    replay := x.replay.drop c.2 }

/-- Whether a configuration state awaits configuration or a reseal, which source 0x3C8 tells (R402, R456). -/
def CfgState.awaited : CfgState → Option Bool
  | .ready => some true
  | .incomplete => some true
  | .sealBroken => some true
  | .sealed => some false
  | .training => none
  | .halted => none

/-- A follower's images and exchange after its primary's (R486); a Hub that copies keeps its own, for R475 compares the two. -/
def State.applyImages (s : State) (m : MirrorImages) : State :=
  if s.mir.role = .following then
    { s with
      mgmt := { s.mgmt with image := m.image, staged := m.staged, exchange := m.exchange, fwVersion := m.version, lastExchange := m.last }
      cpb := { s.cpb with henpenRollback := m.rollback }
      iga := { s.iga with exchangeLatch := m.latch } }
  else s

/-- The mirrored state of a record put in place (R476). -/
def State.applyMirrored (s : State) (m : Mirrored) : State :=
  { s with
    ctxs := m.ctxs, parts := m.parts, live := m.live, queues := m.queues, tasks := m.tasks, epoch := m.epoch
    parseNo := m.parseNo, sync := m.sync
    bells := { s.bells with binds := m.binds }
    cfg := { s.cfg with state := m.cfg }
    iga := { s.iga with configLatch := m.cfg.awaited.getD s.iga.configLatch }
    mgmt := { s.mgmt with
      store := m.store, progs := m.firmware.progs, nextProg := m.firmware.nextProg, answers := m.firmware.answers }
    mbx := { s.mbx with boxes := m.firmware.boxes, data := m.firmware.data, ink := m.firmware.ink }
    ductus := s.ductus.follow m.time
    trace := { s.trace with wr := m.time.traceWr }
    flt := { s.flt with wr := m.time.blotWr, rd := m.time.blotRd }
    mir := { s.mir with downLog := m.downLog, responses := m.firmware.responses } }

/-- MIRROR_RECORD_RECEIVED (R476, R481): applied, acknowledged; the catcher drops what the primary took. -/
def execMirrorRecordReceived (record : MirrorRecord) (s : State) : Host.Outcome State Fault Refusal :=
  if s.mir.role = .syncing ∨ s.mir.role = .following then
    let t := (s.applyMirrored record.after).applyImages record.after.firmware.images
    let t := record.after.downLog.foldl State.partnerSent t
    let t := record.confirmed.foldl State.partnerConfirmed t
    let took (d : Doorbell) : Bool := record.took.any fun k => k.1 == d.page && k.2.1 == d.index && k.2.2 == d.tail
    let t := { t with
      bells := { t.bells with catcher := t.bells.catcher.filter fun d => !took d }
      mir := { t.mir with partnerOk := true, linkUp := true, lastBeat := t.now } }
    done s (State.catchHeld t.bells.held.length t)
  else skip s

/-- MIRROR_ACK_RECEIVED (R478): the effects of the acknowledged changes leave, in order. -/
def execMirrorAckReceived (s : State) : Host.Outcome State Fault Refusal :=
  if s.mir.role = .primaryMirrored ∧ s.mir.acked < s.mir.sent then
    let n := s.mir.acked + 1
    let ready := s.mir.held.filter fun h => decide (h.after ≤ n)
    let t := { s with mir := { s.mir with
      acked := n, partnerOk := true, linkUp := true, waitSince := s.now
      held := s.mir.held.filter fun h => decide (n < h.after) } }
    done s (ready.foldl (fun t h => t.release h.what) t).quiet
  else skip s

/-- MIRROR_ACK_TIMEOUT (R475): MIRROR_LOST; the held effects leave and the primary goes on alone. -/
def execMirrorAckTimeout (s : State) : Host.Outcome State Fault Refusal :=
  if s.mir.role = .primaryMirrored ∧ s.mir.acked < s.mir.sent ∧ s.mir.waitSince + 50000 ≤ s.now then
    let t := (s.setRole .primaryAlone).releaseHeld
    let t := { t with mir := { t.mir with partnerOk := false, acked := t.mir.sent } }
    done s (t.faultDevice 3 Code.mirrorLost unitFm 0).quiet
  else skip s

/-- PRIMARY_HEARTBEAT (R480, R520): none while the Mirror Port is down. -/
def execPrimaryHeartbeat (s : State) : Host.Outcome State Fault Refusal :=
  if s.mir.role = .primaryMirrored ∧ s.mir.linkUp ∧ s.mir.lastBeat + 5000 ≤ s.now then
    done s { s with mir := { s.mir with lastBeat := s.now, failoverReq := false } }
  else skip s

/-- Upward messages of a splitter that the Hub has taken and whose records are acknowledged are confirmed (R479): they leave the
replay buffer. -/
def Splitter.confirm (x : Splitter) (now : Nat) : Splitter :=
  if x.link = .up then { x with heard := now, replay := x.replay.drop (x.replay.length - x.up.length) } else x

/-- Downward messages that a splitter has not forwarded yet: the last of its log. -/
def State.pruneLog (s : State) (log : List DownSent) (sp : Nat) : List DownSent :=
  let mine := log.filter fun d => d.splitter == sp
  let waiting := match s.splitters[sp]? with | some x => x.down.length | none => 0
  let keep := mine.drop (mine.length - waiting)
  log.filter fun d => d.splitter != sp || keep.contains d

/-- PRIMARY_CONFIRM (R479): keepalives on every down-port, and confirmations once every record is acknowledged. -/
def execPrimaryConfirm (s : State) : Host.Outcome State Fault Refusal :=
  if s.build.mirrored ∧ s.primary ∧ s.awake ∧ s.splitters.any (fun x => x.link == .up && decide (x.heard + 2000 ≤ s.now)) then
    if s.mir.role = .primaryMirrored ∧ s.mir.acked < s.mir.sent then
      done s { s with splitters := s.splitters.map fun x => if x.link = .up then { x with heard := s.now } else x }
    else
      let t := { s with
        splitters := s.splitters.map fun x => x.confirm s.now
        mir := { s.mir with downLog := (List.range s.splitters.length).foldl s.pruneLog s.mir.downLog } }
      done s ((List.range t.nibs.length).foldl State.passUp t)
  else skip s

/-- MIRROR_LINK_DOWN (R520). -/
def execMirrorLinkDown (s : State) : Host.Outcome State Fault Refusal :=
  if s.build.mirrored then done s { s with mir := { s.mir with linkUp := false, partnerOk := false } } else skip s

/-! ## Claims (R475, R479, R484) -/

/-- The splitters whose link is up. -/
def State.presentSplitters (s : State) : List Nat :=
  (List.range s.splitters.length).filter fun sp => match s.splitters[sp]? with | some x => x.link == .up | none => false

/-- TAKEOVER goes to every splitter. -/
def State.claimSplitters (s : State) (cause since : Nat) : State :=
  { s with mir := { s.mir with
      role := .claiming, cause := cause, asked := s.presentSplitters, granted := [], refused := [], claimedAt := s.now
      lastBeat := since, partnerOk := false } }

/-- HEARTBEAT_TIMEOUT (R475, R480). -/
def execHeartbeatTimeout (s : State) : Host.Outcome State Fault Refusal :=
  if s.mir.role = .following ∧ s.mir.lastBeat + 50000 ≤ s.now then done s (s.claimSplitters 1 s.mir.lastBeat) else skip s

/-- FAILOVER_REQ_RECEIVED (R475, R484, R485): with the cause and the stamp at which the primary detected it. -/
def execFailoverReqReceived (cause detected : Nat) (s : State) : Host.Outcome State Fault Refusal :=
  if s.mir.role = .following ∧ 2 ≤ cause ∧ cause ≤ 4 then done s (s.claimSplitters cause detected) else skip s

/-- SPLITTER_TAKEOVER_REQUEST (R479): the splitter grants if its primary has been silent for 20 µs or has released it. -/
def execSplitterTakeoverRequest (sp silentNs : Nat) (released : Bool) (s : State) : Host.Outcome State Fault Refusal :=
  if s.mir.role = .claiming ∧ s.mir.asked.contains sp then
    let asked := s.mir.asked.filter (· != sp)
    if released ∨ 20000 ≤ silentNs then
      let t := s.modSplitter sp fun x => { x with primaryPeer := false, released := false }
      done s { t with mir := { t.mir with asked := asked, granted := sp :: t.mir.granted } }
    else done s { s with mir := { s.mir with asked := asked, refused := sp :: s.mir.refused } }
  else skip s

/-- TAKEOVER_REFUSED (R475). -/
def execTakeoverRefused (sp : Nat) (s : State) : Host.Outcome State Fault Refusal :=
  if s.mir.role = .claiming ∧ s.mir.refused.contains sp then
    done s ((s.mirrorRecord .claiming .detached).setRole .detached)
  else skip s

/-- SPLITTER_GRANT_TIMEOUT (R484): a splitter that has answered nothing for 10 µs is lost with its Nibs. -/
def execSplitterGrantTimeout (sp : Nat) (s : State) : Host.Outcome State Fault Refusal :=
  if s.mir.role = .claiming ∧ s.mir.asked.contains sp ∧ s.mir.claimedAt + 10000 ≤ s.now then
    let t := { s with mir := { s.mir with asked := s.mir.asked.filter (· != sp) } }
    let t := t.modSplitter sp fun x => { x with link := .absent, down := [], up := [] }
    let nibs := (List.range s.nibs.length).filter fun n => match s.nibs[n]? with | some b => b.via == sp | none => false
    done s (nibs.foldl (fun t n => t.nibLost n 1) t)
  else skip s

/-! ## Takeover (R482, R395, R414) -/

/-- A splitter under its new primary: it replays what is not confirmed, and receives again what it has not forwarded whole, of
what the mirror has logged. What the partner sent has reached the splitter with its record, so `forwarded` counts it. -/
def State.switchSplitter (s : State) (sp : Nat) : State :=
  let mine := s.mir.downLog.filter fun d => d.splitter == sp
  (s.modSplitter sp fun x =>
    if x.link = .up then
      { x with
        up := x.replay
        heard := s.now
        down := (mine.filter fun d => decide ((d.seq + 65536 - x.forwarded % 65536) % 65536 < 32768)).map DownSent.msg }
    else x).passDown sp

/-- A queue as the new primary takes it: bytes and entries read ahead are read afresh (R476), and a write-back started and not
completed is pending. -/
def Queue.taken (x : Queue) : Queue :=
  { x with
    ra := [], raDrop := 0, cbDrop := 0, tailProc := none, tailDrop := 0, loading := false
    wbPending := x.wbPending || x.wbFlight
    wbFlight := false
    scans := x.scans.map fun c => { c with held := [], asked := 0 }
    subs := x.subs.map fun u => { u with held := [], asked := 0 } }

/-- A WRITE_IMM started and not completed is issued again. -/
def State.rewriteImm (s : State) (q : Nat) : State :=
  match tget s.queues q, s.ctxOfQueue q with
  | some x, some (_, c) =>
    (x.subs.flatMap Sub.cmds).foldl (fun s d => match d.op, d.state with
      | .writeImm size64 addr value, .begun =>
        s.writeMem (some (.writeImm q)) c.pasid c.partition addr (leBytes (if size64 then 8 else 4) value.toNat) true
      | _, _ => s) s
  | _, _ => s

/-- A memory-word operation started and not completed: a compare-and-swap is resolved from a fresh read (R482). -/
def State.retryMemOp (s : State) (o : MemOp) : State :=
  match o.phase with
  | .queued => s
  | .setting => s.startMemOp o
  | .reading => s.startMemOp o
  | .swapping old new =>
    State.readMem { s with sync := s.sync.setPhase o.ident (.resolving old new) } (.syncOp o.ident) o.pasid o.partition o.addr 8 false
  | .resolving _ _ => s.readMem (.syncOp o.ident) o.pasid o.partition o.addr 8 false

/-- Whether a request is one that a Nib has made itself (R504). -/
def MemReq.nibs (r : MemReq) : Bool :=
  match r.wait with
  | some (.nibConstants ..) => true
  | some (.nibSlot ..) => true
  | some (.nibEntry _) => true
  | _ => false

/-- Feed as a new primary starts it (R395). -/
def State.freshFeed (s : State) : State :=
  { s with
    feed := { s.feed with window := [], bucket := [], buckets := []
                          rails := s.feed.rails.map fun r => { r with corrCount := 0, trimWanted := r.trim } }
    parts := tmap s.parts fun _ x =>
      let levels := (s.partGroups x).map fun g => match s.feed.rails[g]? with | some r => r.level | none => 0
      { x with intervals := [], buckets := [], bucketAcc := [], target := if levels.isEmpty then x.target else levels.foldl min 15 } }

/-- What a new primary does with the Sync Unit's work in progress. -/
def State.retrySync (s : State) : State :=
  let y := s.sync
  let watches := tmap y.watches fun _ (w : Watch) => { w with polling := false }
  let barriers := y.barriers.map fun (r : BarrierRun) => { r with lastPoll := none }
  let s : State := { s with sync := { y with watches := watches, barriers := barriers } }
  let s := s.sync.memOps.foldl State.retryMemOp s
  s.sync.barriers.foldl (fun s r => if r.upWait then s.relay r.entry r.entry.upAddr (slotOk r.gen r.late) else s) s

/-- Waits whose event-store reads were under way: the reads are issued again (R305, R482). -/
def State.retryEvents (s : State) : State :=
  s.queues.foldl (fun s e => e.2.subs.foldl (fun s u => u.cmds.foldl (fun s c =>
    if c.waits.any fun w => w.state == .reading then
      (s.uncached e.2.handle c.waits).foldl (fun s v => s.readEvent v.1 v.2) s
    else s) s) s) s

/-- The interrupted Henpen commands (R112): one whose commit the mirror holds is answered with its result, any other with RETRY. A
command that has committed and answers later is in progress still. -/
def State.retryFirmware (s : State) : State :=
  let s := s.mir.responses.foldl (fun (s : State) r => s.postResponse r.box r.command r.status r.bytes)
    { s with mir := { s.mir with responses := [] } }
  let s := s.mgmt.answers.foldl State.writeAnswer s
  (s.mgmt.progs.filter fun p => !p.pendingAnswer).foldl (fun (s : State) p => s.answer p Code.retry 0 []) s

/-- The steps of a takeover (R482), after the role has changed. -/
def State.takenOver (s : State) : State :=
  let s := (List.range s.splitters.length).foldl State.switchSplitter s
  let queues := tmap s.queues fun _ x => x.taken
  let resident := s.queues.filterMap fun e => if e.2.resident then some e.1 else none
  let s := { s with
    queues := queues
    mip := s.mip.filter MemReq.nibs
    qe := { s.qe with resident := resident, loads := [], paging := [] } }
  let ids := s.queues.map Prod.fst
  let s := ids.foldl State.issueWriteBack s
  let s := ids.foldl State.rewriteImm s
  let s := s.retryEvents.retrySync.retryFirmware
  let s := ids.foldl (fun s q => match tget s.queues q with
    | some x => if x.resident then (s.bell q x.fetch).cbFetch q else s
    | none => s) s
  let s := { s with iga := { s.iga.levels.foldl Iga.rise { s.iga with states := [] } with withdrawn := [] } }
  let held := s.htp.mirrorHeld
  held.foldl State.serveAccess { s.freshFeed with htp := { s.htp with mirrorHeld := [] } }

/-- TAKEOVER (R482): every splitter has granted; where RECOVER FAILOVER asked for it, the action is complete (R471). -/
def execTakeover (s : State) : Host.Outcome State Fault Refusal :=
  if s.mir.role = .claiming ∧ s.mir.asked = [] ∧ s.mir.refused = [] then
    let t := { s with mir := { s.mir with
      role := .primaryAlone
      failovers := sat32 s.mir.failovers 1
      lastFailover := BitVec.ofNat 64 s.now
      interruptNs := BitVec.ofNat 32 (min (s.now - s.mir.lastBeat) 0xFFFFFFFF)
      failoverSource := true
      granted := []
      held := []
      acked := s.mir.sent } }
    let t := t.takenOver.mirrorRecord .claiming .primaryAlone
    done s (if s.mir.cause = 4 then t.recovered 4 0 Code.ok else t).quiet
  else skip s

/-- PARTNER_TAKEOVER_SEEN (R475). -/
def execPartnerTakeoverSeen (s : State) : Host.Outcome State Fault Refusal :=
  if s.mir.role = .yielded then
    done s { s with
      splitters := s.splitters.map fun x => { x with primaryPeer := true, released := false }
      mir := { s.mir with role := .detached, failoverReq := false } }
  else skip s

/-! ## Copies and sweeps (R475, R477) -/

/-- BULK_COPY_DONE (R475): the follower enters FOLLOWING, or flags a mismatch of the images; the primary writes the record that its
partner sends (R468), and on its FOLLOWING becomes PRIMARY_MIRRORED. -/
def execBulkCopyDone (partnerDigest : BitVec 384) (partnerVersion : W16) (sweepPassed : Bool) (s : State) :
    Host.Outcome State Fault Refusal :=
  let same : Bool := partnerDigest == s.cpb.patchDigest && partnerVersion == s.mgmt.fwVersion
  if s.cpb.state ≠ .running then skip s
  else if s.mir.role = .syncing then
    if ¬same then
      done s (State.mirrorRecord { s with mir := { s.mir with mismatch := true } } .syncing .syncing)
    else if sweepPassed then
      let t := s.mirrorRecord .syncing .following
      done s { t with mir := { t.mir with role := .following, mismatch := false, linkUp := true, partnerOk := true, lastBeat := s.now } }
    else skip s
  else if s.mir.role = .primaryAlone ∧ s.build.mirrored then
    if ¬same then done s (s.followerRecord .syncing .syncing)
    else if sweepPassed then
      let t := s.followerRecord .syncing .following
      done s { t with mir := { t.mir with role := .primaryMirrored, linkUp := true, partnerOk := true, acked := t.mir.sent, lastBeat := t.now } }
    else skip s
  else skip s

/-- Whether a region differs and goes no further than a copy (R477). -/
def RegionDigest.benign (r : RegionDigest) : Bool := r.liveEqual && !r.fullEqual

/-- DIVERGENCE_SWEEP (R477). -/
def execDivergenceSweep (regions : List RegionDigest) (s : State) : Host.Outcome State Fault Refusal :=
  if (s.mir.role = .primaryMirrored ∨ s.mir.role = .following) ∧ s.mir.lastSweep + 10000000 ≤ s.now then
    let benign := regions.filter RegionDigest.benign
    let bad := regions.filter fun r => !r.liveEqual
    let copied := (benign ++ bad.filter RegionDigest.eccError).map RegionDigest.region
    let t : State := { s with mir := { s.mir with
      lastSweep := s.now, recopied := sortNats copied, benign := sat32 s.mir.benign benign.length } }
    let t : State := match benign with
      | r :: _ => t.blot Code.benignDivergence 0x0B unitFm (r.region % 65536 + 2 ^ 16)
      | [] => t
    let t := bad.foldl (fun t r => t.blot 0 0x0B unitFm (r.region % 65536)) t
    done s (if t.mir.role = .primaryMirrored ∧ bad.any (fun r => !r.eccError) then t.yieldTo 2 else t)
  else skip s

end Sys2Proof.Machine
end

