-- ==== Sys2Proof/Machine/Trace.lean ====
section
/-! DEFINITION. The trace writer (R46 to R60) and the Blotter's ring (R467, R468). -/

namespace Sys2Proof.Machine

open Sys2Proof

/-- FLAGS of a record (R47). -/
def TraceRec.flags (r : TraceRec) : Nat :=
  b2n (traceFull r.typ) + 2 * b2n r.debug + 4 * b2n r.unaligned + 8 * b2n r.ao

/-- The bytes of a record (R46). -/
def TraceRec.bytes (r : TraceRec) : List Byte :=
  if traceFull r.typ then
    leBytes 8 r.stamp ++ leBytes 1 r.typ ++ leBytes 1 r.flags ++ leBytes 2 r.source ++ leBytes 4 r.seq.toNat
      ++ leBytes 16 r.payload.toNat
  else
    leBytes 4 r.stamp ++ leBytes 1 r.typ ++ leBytes 1 r.flags ++ leBytes 2 r.source ++ leBytes 2 r.seq.toNat
      ++ leBytes 6 r.payload.toNat

/-- The write count once every write on the ports is visible (R53, R55). -/
def Trace.next (t : Trace) : W32 :=
  t.wr + BitVec.ofNat 32 ((t.buf.take t.issued).foldl (fun n r => n + r.size / 16) 0)

/-- A record put before those of which no write is out. -/
def Trace.insert (t : Trace) (r : TraceRec) : Trace :=
  { t with buf := t.buf.take t.issued ++ r :: t.buf.drop t.issued, idle := false }

/-- The oldest record of which no write is out finds the STOP-mode ring full and is dropped and counted (R57). -/
def Trace.ringLose (t : Trace) (stamp : Nat) : Trace :=
  let loss : LossInfo := match t.ringLoss with | none => ⟨1, stamp⟩ | some l => ⟨l.count + 1, l.firstStamp⟩
  { t with buf := t.buf.take t.issued ++ t.buf.drop (t.issued + 1), drop := sat32 t.drop 1, ringLoss := some loss }

/-- The record to write next: a LOSS record where the ring has dropped some (R57), and a PAD record before a full record that
would straddle the ring's end (R54). -/
def State.nextTrace (s : State) : Trace × Option TraceRec :=
  let t := s.trace
  let t := match t.ringLoss with
    | some l =>
      let p := t.make (s.source unitDuc) 0xF2 s.now (lossPayload l (s.source unitDuc)) false false false
      Trace.insert { p.1 with ringLoss := none } p.2
    | none => t
  match t.buf[t.issued]? with
  | none => (t, none)
  | some r =>
    if traceFull r.typ ∧ t.next.toNat * 16 % 2 ^ t.log2 = 2 ^ t.log2 - 16 then
      let p := t.make (s.source unitDuc) 0x00 s.now 0 false false false
      (p.1.insert p.2, some p.2)
    else (t, some r)

/-- DUC_TRACE_RATE (R56, R61): what has been written in earlier spans of 64 HCLK cycles is made up for. -/
def State.paceTrace (s : State) : State :=
  let span := s.now * s.build.hclk / 64000
  let t := s.trace
  { s with trace := { t with span := span, spent := t.spent - (span - t.span) * (t.rate.toNat * 16) } }

/-- Whether a request of a port is one that trace traffic gives way to: ring, command-buffer, write-back and sync-word
requests (R56). A request waits until its response (log 123). -/
def MemReq.beforeTrace (r : MemReq) : Bool :=
  !r.dead && match r.wait with
  | some (.ringEntry _) => true
  | some (.commandBytes _) => true
  | some (.writeBack _) => true
  | some (.tailWord _) => true
  | some (.syncOp _) => true
  | some (.watchPoll _) => true
  | some (.barrierPoll ..) => true
  | _ => false

/-- The trace writer takes a port cycle if it may (R56): its next record is written in the ring, or dropped where the ring is
full (R57, R58). -/
def State.issueTrace (s : State) : State :=
  if s.trace.buf.length ≤ s.trace.issued ∧ s.trace.ringLoss = none then s
  else if s.trace.fullAt s.trace.next then
    match s.trace.buf[s.trace.issued]? with
    | some r => { s with trace := s.trace.ringLose r.stamp }
    | none => s
  else
    let s := s.paceTrace
    if s.mip.any MemReq.beforeTrace then s
    else match s.nextTrace with
      | (t, some r) =>
        if t.spent = 0 ∨ t.spent + r.size ≤ t.rate.toNat * 16 then
          let addr := t.base + BitVec.ofNat 64 (t.next.toNat * 16 % 2 ^ t.log2)
          State.portWrite { s with trace := { t with issued := t.issued + 1, spent := t.spent + r.size } } .traceWrite
            t.pasid.toNat addr r.bytes
        else s
      | (_, none) => s

/-- TRACE_WRITE_VISIBLE (R55): the oldest write of the trace writer is visible and DUC_TRACE_WR advances over it; the writer
buffer's own LOSS record may follow (R57). -/
def execTraceWriteVisible (s : State) : Host.Outcome State Fault Refusal :=
  match s.answered .traceWrite with
  | none => late s .traceWrite
  | some (_, s) =>
    match s.trace.buf with
    | [] => done s s
    | r :: rest =>
      let t := { s.trace with buf := rest, issued := s.trace.issued - 1, wr := s.trace.wr + BitVec.ofNat 32 (r.size / 16) }
      done s { s with trace := t.emitLoss (s.source unitDuc) s.now }

/-- Trace writes of which one draws an error, or no response in time: all that are out are written again (R55, R503; log 123). -/
def State.retryTrace (s : State) : State :=
  { s with
    trace := { s.trace with issued := 0 }
    mip := s.mip.map fun r => if r.wait = some .traceWrite then { r with dead := true } else r }

/-- A record reaches the writer (R51): one more than 100 ms old is lost, another enters the buffer. -/
def State.arrive (s : State) (r : TraceRec) : State :=
  let t := if r.stamp + 100000000 < s.now then s.trace.lose r.stamp else s.trace.accept r (s.source unitDuc) s.now
  { s with trace := t }

/-- TRACE_RECORD_ARRIVAL (R51, R56, R57): the oldest record of the Hub's units and splitters, or of a Nib's buffer, whose
LOSS record follows as soon as there is room. -/
def execTraceRecordArrival (source : Option Nat) (s : State) : Host.Outcome State Fault Refusal :=
  match source with
  | none =>
    match s.trace.inbound with
    | [] => skip s
    | r :: rest => done s (State.arrive { s with trace := { s.trace with inbound := rest } } r)
  | some n =>
    match s.nibs[n]? with
    | none => skip s
    | some b =>
      match b.traceBuf with
      | [] => skip s
      | r :: rest =>
        if b.present then
          let s' := s.modNib n fun b => { b with traceBuf := rest }
          let s' := match b.traceLoss with
            | none => s'
            | some l =>
              let p := s'.trace.make (nibSource n) 0xF2 (s.nibNow n) (lossPayload l (nibSource n)) false b.unaligned false
              State.modNib { s' with trace := p.1 } n fun b => { b with traceBuf := rest ++ [p.2], traceLoss := none }
          done s (s'.arrive r)
        else skip s

/-- TIME_SYNC_RECORD (R50): Hub time has crossed a whole second since the last one. -/
def execTimeSyncRecord (s : State) : Host.Outcome State Fault Refusal :=
  if s.trace.en ∧ s.trace.second < s.now / second then
    done s (State.timeSync { s with trace := { s.trace with second := s.now / second } })
  else skip s

/-! ## The Blotter's ring -/

/-- The 64 bytes of a Blotter record (R467). -/
def BlotRec.bytes (r : BlotRec) : List Byte :=
  leBytes 8 r.stamp ++ leBytes 4 r.seq.toNat ++ leBytes 2 r.code.toNat ++ leBytes 1 r.kind
    ++ leBytes 1 (r.hubPos + 2 * b2n r.fromFollower) ++ leBytes 2 r.source ++ leBytes 6 0 ++ leBytes 40 r.object.toNat

/-- The record to write next (R468): after a drop a LOSS record, else the oldest held. -/
def State.nextBlot (s : State) : Option (BlotRec × Flt) :=
  let f := s.flt
  match f.loss, f.held with
  | some l, _ =>
    some ({ stamp := s.aoNow, seq := f.seq, code := 0, kind := 0x0F, fromFollower := false, hubPos := s.build.hubPos,
            source := s.source unitFm, object := BitVec.ofNat 320 (l.count + 2 ^ 32 * l.firstStamp) },
          { f with loss := none, seq := f.seq + 1 })
  | none, r :: _ => some (r, f)
  | none, [] => none

/-- The Fault Manager writes a record at FLT_BLOT_WR while BLOT_EN is 1, the ring has room and no write is out (R468). -/
def State.issueBlot (s : State) : State :=
  if s.flt.en ∧ s.flt.flight = none ∧ (s.flt.wr - s.flt.rd).toNat < 2 ^ s.flt.log2 / 64 - 1 then
    match s.nextBlot with
    | some (r, f) =>
      State.portWrite { s with flt := { f with flight := some r } } .blotWrite f.pasid.toNat
        (f.base + BitVec.ofNat 64 (f.wr.toNat * 64 % 2 ^ f.log2)) r.bytes
    | none => s
  else s

/-- BLOTTER_WRITE_VISIBLE (R468): the record is visible; it is held no longer, and FLT_BLOT_WR advances over it. -/
def execBlotterWriteVisible (s : State) : Host.Outcome State Fault Refusal :=
  match s.answered .blotWrite with
  | none => late s .blotWrite
  | some (_, s) =>
    match s.flt.flight with
    | none => done s s
    | some r =>
      done s { s with flt := { s.flt with
        flight := none, wr := s.flt.wr + 1, held := if r.kind = 0x0F then s.flt.held else s.flt.held.drop 1 } }

/-- A Blotter write that draws an error, or no response in time, is made again (R468, R503; log 123). -/
def State.retryBlot (s : State) : State :=
  match s.flt.flight with
  | none => s
  | some r => s.portWrite .blotWrite s.flt.pasid.toNat (s.flt.base + BitVec.ofNat 64 (s.flt.wr.toNat * 64 % 2 ^ s.flt.log2)) r.bytes

/-- What the trace writer and the Fault Manager put on the ports in a cycle of a serving Hub. -/
def State.pump (s : State) : State := if s.awake && s.primary then s.issueTrace.issueBlot else s

end Sys2Proof.Machine
end

