-- ==== Sys2Proof/Machine/Fault.lean ====
section
/-! DEFINITION. Device faults, the coolant halt and the warm reset (R394, R470, R474), responses of memory that end a
retirement or never come (R320, R321, R503), device-side enqueue at the Hub (R181, R287, R288), and the resets of splitters
and Nibs (R494). -/

namespace Sys2Proof.Machine

open Sys2Proof

/-! ## Device faults (R470) -/

/-- DEVICE_FAULT (R470): the faults that no command of their own reports: an uncorrectable error in the Hub's memories, and
one of Inkwell outside a transfer. Which units read the entry is not in the fault, so none is stopped (log 28). -/
def execDeviceFault (bit detail : Nat) (s : State) : Host.Outcome State Fault Refusal :=
  if bit = 2 then done s (s.faultDevice 2 Code.sramUncorrectable unitFm detail)
  else if bit = 4 then done s (s.faultDevice 4 Code.inkwellEcc unitMc detail)
  else skip s

/-- A mailbox that the watchdog completes (R470): DONE with MC_WATCHDOG, or FREE where it was marked (R83). -/
def Mailbox.watchdog (b : Mailbox) : Mailbox :=
  if b.busy then (if b.forced then b.freed else { b with state := .done, result := Code.mcWatchdog, respLen := 0 }) else b

/-- MC_WATCHDOG (R470): every POSTED or BUSY mailbox completes, admin fetch stops, and firmware does nothing more. -/
def execMcWatchdog (s : State) : Host.Outcome State Fault Refusal :=
  if s.cpb.state ≠ .running then skip s
  else
    let t := { s with
      mbx := { s.mbx with boxes := s.mbx.boxes.map Mailbox.watchdog }
      mgmt := { s.mgmt with adminStopped := true, progs := [] } }
    done s (t.faultDevice 1 Code.mcWatchdog unitMc 0)

/-! ## The coolant halt (R394) -/

/-- An abort of every macro-op goes out to every Nib, and the waits of engines end with it (R331, R394, R474). -/
def State.abortAll (s : State) (cause : W16) : State :=
  let nibs (sp : Nat) : List Nat := (List.range s.nibs.length).filter fun n =>
    match s.nibs[n]? with | some b => b.present && b.via == sp | none => false
  let s := (List.range s.splitters.length).foldl (fun s sp =>
    if (nibs sp).isEmpty then s else s.emit (.down sp (.abort (nibs sp) none cause))) s
  { s with sync := SyncUnit.prune { s.sync with
      waits := s.sync.waits.filter fun w => !(match w.party with | .engine .. => true | _ => false) } }

/-- COOLANT_FAULT (R394, R456, R453): the halt; a seal check in progress is abandoned, and every withheld launch is withheld for
COOLANT (R374). -/
def execCoolantFault (s : State) : Host.Outcome State Fault Refusal :=
  if s.feed.halt then skip s
  else
    let t := { s with
      power := { s.power with hub := .active, since := s.now, brief := false }
      feed := { s.feed with halt := true }
      cfg := { s.cfg with state := .halted, check := none } }
    let t := ((t.withholdAll (some reasonCoolant)).latchAll fun m => { m with freeze := true }).blotFeed Code.coolantFault 8 0 0
    done s (if t.primary then (t.abortAll Code.coolantFault).quiet else t)

/-! ## The warm reset (R474) -/

/-- Every fetched submission that has not retired retires with DEVICE_RESET (R474). -/
def State.retireAll (s : State) (code : W16) : State :=
  s.queues.foldl (fun s e => e.2.subs.foldl (fun s u =>
    if u.retired.isSome then s
    else if e.1 = 0 then s.retire 0 u.seq code
    else s.failSub e.1 u.seq code true [] unitFm) s) s

/-- Whether a write-back is on its way. -/
def State.writingBack (s : State) : Bool := s.queues.any fun e => e.2.wbPending || e.2.wbFlight

/-- WARM_RESET (R474): the Nibs abort; once every task has ended, the submissions retire with DEVICE_RESET; once their
write-backs are visible, the reset applies. A Hub of a pair that is not primary drives no Nib and retires nothing: the reset, its own
or its partner's, applies to it (log 142). -/
def execWarmReset (s : State) : Host.Outcome State Fault Refusal :=
  if ¬s.primary then done s (s.warmResetState.recovered 3 0 Code.ok)
  else if ¬s.mgmt.warmReset then skip s
  else if ¬s.mgmt.warmAborted then
    done s (State.abortAll { s with mgmt := { s.mgmt with warmAborted := true } } Code.deviceReset).settled
  else if ¬s.tasks.isEmpty then skip s
  else
    let t := s.retireAll Code.deviceReset
    if t.writingBack then (if t.queues = s.queues then skip s else done s t)
    else done s (t.warmResetState.recovered 3 0 Code.ok)

/-! ## Memory responses (R320, R321, R503) -/

/-- WRITE_BACK_RESPONSE (R320, R321): the queue's IRQ_PENDING is set and a merged write-back follows; an error is
context-fatal. -/
def execWriteBackResponse (q : Nat) (ok : Bool) (s : State) : Host.Outcome State Fault Refusal :=
  match s.answered (.writeBack q) with
  | none => late s (.writeBack q)
  | some (_, t) =>
    let t := t.modQueue q fun x => { x with wbFlight := false, irqPending := x.irqPending || ok }
    let t := if ok then t else (t.queueCtxFault q Code.memoryError).quiet
    match t.ctxOfQueue q with
    | some (_, c) => done s (if c.served then t.issueWriteBack q else t.modQueue q fun x => { x with wbPending := false })
    | none => done s t

/-- A read made again. -/
def State.reissue (s : State) (r : MemReq) : State :=
  { s with mip := s.mip.map fun x => if x = r then { r with since := s.now } else x }

/-- A response that never came, as an error response (R503). A read of a device-private region is made again (log 14). -/
def State.asError (s : State) (r : MemReq) : MemWait → Host.Outcome State Fault Refusal
  | .tailWord q => execTailWordReturn q none s
  | .ringEntry q => execRingEntryReturn q (List.replicate (r.len / 64) none) s
  | .commandBytes q => execCbReadReturn q none s
  | .writeBack q => execWriteBackResponse q false s
  | .writeImm q => execWriteImmVisible (.writeImm q) false s
  | .syncOp i => execMemorySyncResponse i none s
  | .watchPoll i => execWatchPollReturn i none s
  | .barrierPoll b w => execBarrierPollReturn b w none s
  | .queueRecord _ => done s (s.reissue r)
  | .eventState _ _ => done s (s.reissue r)
  | .tailStore q => execWriteImmVisible (.tailStore q) false s
  | .relay b => execWriteImmVisible (.relay b) false s
  | .adminAnswer n => execWriteImmVisible (.adminAnswer n) false s
  | .privateWrite => execWriteImmVisible .privateWrite false s
  | .nibConstants n t => execConstantsStaged n t none s
  | .nibSlot _ _ => done s (s.reissue r)
  | .nibEntry n => execEnqueueEntryWriteResponse n false s
  | .traceWrite => match s.answered .traceWrite with | some (_, t) => done s t.retryTrace | none => skip s
  | .blotWrite => match s.answered .blotWrite with | some (_, t) => done s t.retryBlot | none => skip s

/-- MEMORY_RESPONSE_TIMEOUT (R503): a request without response for 1 ms acts as one that drew an error; its tag stays in use
until the late response arrives. -/
def execMemoryResponseTimeout (request : MemWait) (s : State) : Host.Outcome State Fault Refusal :=
  match s.mip.find? fun r => r.wait == some request && !r.dead && r.pages.isEmpty with
  | none => skip s
  | some r =>
    if r.since + 1000000 ≤ s.now then
      State.asError { s with mip := s.mip ++ [{ r with dead := true }] } r request
    else skip s

/-! ## Translations returned (R282, R284, R286, R506, R508) -/

/-- The tag of a completed or abandoned request is free, and a request that waits takes it (R507). -/
def State.freeTag (s : State) (tag : Nat) : State :=
  { s with xlat := Xlat.promote { s.xlat with reqs := s.xlat.reqs.filter fun r => r.tag != tag } s.now }

/-- Whether a memory request waits for the translation that a request asks for. -/
def XReq.holds (r : XReq) (m : MemReq) : Bool :=
  m.nib == r.nib && m.pasid == r.pasid && m.writes == r.write && m.pages.contains r.page

/-- A request sent again after an invalidation (R286): an engine's, or one that a memory request waits for; a lookahead is
dropped. -/
def State.resend (s : State) (r : XReq) : State :=
  let s := match r.nib with
    | some n => r.asks.foldl (fun (s : State) a => s.askXlat n r.pasid r.page r.write a) s
    | none => s
  if s.mip.any r.holds then { s with xlat := s.xlat.ask s.now r.nib r.pasid r.page r.write none } else s

/-- A translation granted enters the cache it was asked for, and the memory requests that it was the last to hold back go to
their port. -/
def State.translated (s : State) (r : XReq) (e : Tlb) : State :=
  let s := match r.nib with
    | some n => s.modNib n fun b => b.cacheIn e
    | none => { s with xlat := { s.xlat with
        cache := (s.xlat.cache.filter fun (x : Tlb) => !(x.pasid == e.pasid && x.page == e.page && x.size == e.size)) ++ [e] } }
  { s with mip := s.mip.map fun m =>
      if m.pages ≠ [] ∧ m.nib = r.nib then
        let pages := m.pages.filter fun p => !e.serves m.pasid p m.writes
        { m with pages := pages, since := if pages.isEmpty then s.now else m.since }
      else m }

/-- The memory requests that wait for a translation which is denied: TRANSLATION_FAULT against the context (R150), and each acts
as one that drew an error response (R503). -/
def State.xlatDenied (s : State) (r : XReq) : State :=
  let ms := s.mip.filter r.holds
  if ms.isEmpty then s
  else ms.foldl (fun (s : State) m =>
    match takeFirst (· == m) s.mip, m.wait with
    | some (_, rest), some w =>
      let m := { m with pages := [] }
      (match State.asError { s with mip := m :: rest } m w with | .next t => t | _ => s)
    | _, _ => s) (s.pasidFault r.pasid Code.translationFault).quiet

/-- What an engine's requests of a denied translation are answered (R284), and what becomes of the memory requests. -/
def State.refuseXlat (s : State) (r : XReq) : State :=
  let s := match r.nib with
    | some n => r.asks.foldl (fun (t : State) a => t.answerXlat n none a) s
    | none => s
  s.xlatDenied r

/-- TRANSLATION_COMPLETION (R284, R286, R506). -/
def execTranslationCompletion (tag status : Nat) (address : W64) (sizeBit readable writable : Bool) (s : State) :
    Host.Outcome State Fault Refusal :=
  match s.xlat.reqs.find? fun r => r.tag == tag && decide (r.tag < 256) with
  | none => skip s
  | some r =>
    let t := s.freeTag tag
    let range := atsRange address.toNat sizeBit
    let e : Tlb := { pasid := r.pasid, page := r.page / range.2 * range.2, size := range.2, target := BitVec.ofNat 64 range.1,
                     readable := readable, writable := writable, reserved := r.core }
    let granted : Bool := status == 0 && (if r.write then writable else readable)
    if r.dead then done s t
    else if r.dirty.any fun d => rangesMeet d.1 d.2 e.page e.size then done s (t.resend r)
    else if granted then
      let t := t.translated r e
      done s (match r.nib with
        | some n => r.asks.foldl (fun (t : State) a => t.answerXlat n (some e) a) t
        | none => t)
    else done s (t.refuseXlat r)

/-- TRANSLATION_TIMEOUT (R508): answered as denied; the tag is held until the completion arrives. -/
def execTranslationTimeout (tag : Nat) (s : State) : Host.Outcome State Fault Refusal :=
  match s.xlat.reqs.find? fun r => r.tag == tag && decide (r.tag < 256) && !r.dead with
  | none => skip s
  | some r =>
    if r.since + 1000000 ≤ s.now then
      let dead (x : XReq) : XReq := if x.tag = tag then { x with dead := true, asks := [] } else x
      done s (State.refuseXlat { s with xlat := { s.xlat with reqs := s.xlat.reqs.map dead } } r)
    else skip s

/-! ## Device-side enqueue at the Hub (R181, R287, R288) -/

/-- Device-side enqueues of a queue in flight: reserved or waiting, and not retired (R287). -/
def Queue.enqueued (x : Queue) : Nat :=
  (x.resvTail - x.head).toNat - (x.subs.countP fun u => u.retired.isSome) + x.resv.countP fun r => r.index.isNone

/-- The same over a context. -/
def State.enqueuedIn (s : State) (slot : Nat) : Nat :=
  total (s.queues.filterMap fun e => if e.2.device ∧ handleSlot e.2.handle = slot then some e.2.enqueued else none)

/-- The refusal of an enqueue that finds no fault in time (R287, R288): 1 REFUSED_QUEUE, 2 REFUSED_BUDGET, 4 REFUSED_FORMAT. -/
def State.enqueueCheck (s : State) (pasid q : Nat) (addr : W64) (len : Nat) : Option Nat :=
  match tget s.queues q, s.ctxOfQueue q with
  | some x, some (slot, c) =>
    if ¬x.device ∨ ¬x.enabled ∨ c.pasid ≠ pasid then some 1
    else if c.budget ≤ s.enqueuedIn slot then some 2
    else if addr.toNat % 16 ≠ 0 ∨ len % 16 ≠ 0 ∨ len < 16 ∨ 16777216 < len then some 4
    else none
  | _, _ => some 1

/-- The answer to an enqueue request goes down to its Nib. -/
def State.answerEnqueue (s : State) (q pasid : Nat) (r : Reservation) (result : Nat) (entry : W64) : State :=
  s.sendNib r.nib (.enqueueReply r.nib r.core r.eq r.mopSeq r.reqTag result q entry r.addr r.len pasid)

/-- Whether the ring has room for one more reservation (R181). -/
def Queue.hasSlot (x : Queue) : Bool := decide ((x.resvTail + 1 - x.head).toNat ≤ 2 ^ x.ringLog2)

/-- The oldest reservation that waits takes the next slot (R181). -/
def State.grantSlot (s : State) (q : Nat) : Option State :=
  match tget s.queues q, s.ctxOfQueue q with
  | some x, some (_, c) =>
    if x.hasSlot then
      match takeFirst (fun r => r.index.isNone) x.resv with
      | some (r, _) =>
        let i := x.resvTail
        let t := s.modQueue q fun x =>
          { x with resvTail := i + 1, resv := modFirst (fun r => r.index.isNone) (fun r => { r with index := some i }) x.resv }
        some (t.answerEnqueue q c.pasid r 0 (x.entryAddr i))
      | none => none
    else none
  | _, _ => none

/-- ENQUEUE_REQUEST (R287, R288). -/
def execEnqueueRequest (sp : Nat) (s : State) : Host.Outcome State Fault Refusal :=
  match s.hubFront sp with
  | some (.enqueue nib core eq mopSeq reqTag pasid q addr len, t) =>
    let r : Reservation := { nib := nib, core := core, eq := eq, mopSeq := mopSeq, reqTag := reqTag, addr := addr, len := len,
                             since := t.now, index := none, written := false }
    match t.enqueueCheck pasid q addr len with
    | some result => done s (t.answerEnqueue q pasid r result 0)
    | none =>
      let behind : Bool := match tget t.queues q with | some x => x.resv.any fun r => r.index.isNone | none => false
      let t := t.modQueue q fun x => { x with resv := x.resv ++ [r] }
      done s (if behind then t else (t.grantSlot q).getD t)
  | _ => skip s

/-- SLOT_RESERVATION_GRANT (R181). -/
def execSlotReservationGrant (q : Nat) (s : State) : Host.Outcome State Fault Refusal :=
  match s.grantSlot q with
  | some t => if s.primary ∧ s.awake then done s t else skip s
  | none => skip s

/-- ENQUEUE_REFUSED_FULL (R288): no slot freed within 100 µs. -/
def execEnqueueRefusedFull (q : Nat) (s : State) : Host.Outcome State Fault Refusal :=
  match tget s.queues q, s.ctxOfQueue q with
  | some x, some (_, c) =>
    match takeFirst (fun r => r.index.isNone) x.resv with
    | some (r, rest) =>
      if r.since + 100000 ≤ s.now then
        done s ((s.modQueue q fun x => { x with resv := rest }).answerEnqueue q c.pasid r 3 0)
      else skip s
    | none => skip s
  | _, _ => skip s

/-- TAIL advanced over the reserved entries that are written (R181). -/
def Queue.advanceTail : Nat → Queue → Queue
  | 0, x => x
  | fuel + 1, x =>
    match takeFirst (fun r => r.index == some x.tail) x.resv with
    | some (r, rest) => if r.written then Queue.advanceTail fuel { x with tail := x.tail + 1, resv := rest } else x
    | none => x

/-- Whether a reservation is the one of a request. -/
def Reservation.is (r : Reservation) (nib core eq mopSeq reqTag : Nat) : Bool :=
  r.nib == nib && r.core == core && r.eq == eq && r.mopSeq == mopSeq && r.reqTag == reqTag && r.index.isSome && !r.written

/-- ENQUEUE_ENTRY_WRITTEN (R181): TAIL passes the written entries, the tail word is written for the host, and the entries are
fetched. -/
def execEnqueueEntryWritten (sp : Nat) (s : State) : Host.Outcome State Fault Refusal :=
  match s.hubFront sp with
  | some (.entryWritten q nib core eq mopSeq reqTag, t) =>
    let t := t.modQueue q fun x =>
      Queue.advanceTail 65537 { x with resv := modFirst (fun r => r.is nib core eq mopSeq reqTag) (fun r => { r with written := true }) x.resv }
    match tget s.queues q, tget t.queues q, t.ctxOfQueue q with
    | some old, some x, some (_, c) =>
      if old.tail = x.tail then done s t
      else
        let t := t.writeMem (some (.tailStore q)) c.pasid c.partition x.tailAddr (leBytes 8 x.tail.toNat) false
        done s ((if x.resident then t else t.needRecord q x.tail).readAhead q)
    | _, _, _ => done s t
  | _ => skip s

/-! ## Resets of splitters and Nibs (R494, R495, R511) -/

/-- A link whose reset input has been pulsed: one that was up is lost, an absent one stays absent, training goes on (R445,
R494, R510). -/
def LinkState.pulsed : LinkState → LinkState
  | .inReset => .waiting
  | .up => .absent
  | l => l

/-- SPLITTER_RESET (R494): SPL_RESET_N has been pulsed; with its link the splitter takes its Nibs down (R510), and it waits to
be trained. -/
def execSplitterReset (sp : Nat) (s : State) : Host.Outcome State Fault Refusal :=
  match s.splitters[sp]? with
  | none => skip s
  | some x =>
    let nibs := (List.range s.nibs.length).filter fun n => match s.nibs[n]? with | some b => b.via == sp | none => false
    let t := (s.freshLink sp).modSplitter sp fun x => { Splitter.reset with link := x.link.pulsed, heard := x.heard, testMode := x.testMode }
    done s (if x.link = .up then (nibs.foldl (fun t n => t.nibLost n 1) t).quiet else t)

/-- What an engine queue port shows when NIB_RESET_N is released, as the Nib keeps it (R511): the credits and classes of each
core's queues; a queue of 0 credits is absent. -/
def portsOf (cores : List (List EqPort)) : List (List Nat × List Nat) :=
  cores.map fun c =>
    let here := c.takeWhile fun p => decide (1 ≤ p.credits)
    (here.map EqPort.credits, here.map EqPort.cls)

/-- NIB_RESET (R494, R511): the link stays in reset until training; a Nib that was present is lost with its link (R510). -/
def execNibReset (nib die : Nat) (cores : List (List EqPort)) (s : State) : Host.Outcome State Fault Refusal :=
  match s.nibs[nib]? with
  | none => skip s
  | some b =>
    let t := if b.present then (s.nibLost nib 1).quiet else s
    done s (t.modNib nib fun b =>
      { Nib.reset with link := b.link.pulsed, via := b.via, die := die, ports := portsOf cores, firstReport := b.firstReport,
                       trainFrom := b.trainFrom, testMode := b.testMode })

end Sys2Proof.Machine
end

