-- ==== Sys2Proof/Machine/Henpen.lean ====
section
/-! DEFINITION. The Management Core and how Henpen commands run on it (R100 to R115): taking a request, its gates and
framing, the order on one object, bulk data through Inkwell (R95 to R99), the commit step and the answer. -/

namespace Sys2Proof.Machine

open Sys2Proof

/-! ## Requests -/

/-- DATA_LEN (R102). -/
def Prog.dataLen (p : Prog) : Nat := le p.request 8 4
/-- A 4-byte argument. -/
def Prog.arg (p : Prog) (off : Nat) : Nat := le p.request off 4
/-- The handle argument at +0x20. -/
def Prog.handle (p : Prog) : W32 := le32 p.request 0x20

/-- Whether a request came on the admin queue. -/
def Prog.isAdmin (p : Prog) : Bool := match p.origin with | .admin _ => true | .mailbox _ => false

/-- Request length of a command; none for a code outside the command table (R113). -/
def commandLen : Nat → Option Nat
  | 0x0001 => some 40 | 0x0002 => some 80
  | 0x0101 => some 40 | 0x0102 => some 32
  | 0x0201 => some 56 | 0x0202 => some 48 | 0x0203 => some 40 | 0x0204 => some 40 | 0x0205 => some 48
  | 0x0301 => some 80 | 0x0302 => some 40 | 0x0303 => some 40 | 0x0304 => some 40 | 0x0305 => some 40
  | 0x0401 => some 40 | 0x0402 => some 168 | 0x0403 => some 40
  | 0x0501 => some 80 | 0x0502 => some 40 | 0x0503 => some 40
  | 0x0601 => some 32 | 0x0602 => some 32 | 0x0603 => some 32
  | 0x0701 => some 72
  | 0x0801 => some 32 | 0x0802 => some 32
  | 0x0901 => some 40
  | _ => none

/-- Commands of the mailbox only (R113). -/
def mailboxOnly (command : Nat) : Bool := [0x0001, 0x0002, 0x0101, 0x0801, 0x0802].contains command

/-- Size of a configuration table (R118). -/
def tableSize : Nat → Option Nat
  | 1 => some 1024 | 2 => some 4096 | 3 => some 64 | 4 => some 16448 | 5 => some 2688 | 6 => some 512 | _ => none

/-- Whether DATA_LEN fits its command (R102, R118, R128, R135). An unlisted TABLE_ID is refused as itself. -/
def Prog.dataLenOk (p : Prog) : Bool :=
  match p.command with
  | 0x0101 => match tableSize (p.arg 0x20) with | some n => p.dataLen == n | none => true
  | 0x0401 => decide (64 ≤ p.dataLen) && decide (p.dataLen ≤ 65536)
  | 0x0801 => decide (256 ≤ p.dataLen) && decide (p.dataLen ≤ 196864)
  | _ => p.dataLen == 0

/-! ## Gates and framing (R100 to R104, R115) -/

/-- Commands that the configuration gates refuse (R115). -/
def needsSeal (command : Nat) : Bool := [0x0201, 0x0204, 0x0301, 0x0303, 0x0401, 0x0402, 0x0501].contains command

/-- Commands that pass in HALT (R115): BOOT_HELLO, CFG_QUERY, CTX_QUERY and the queries of R133. -/
def passesHalt (command : Nat) : Bool :=
  [0x0001, 0x0102, 0x0203, 0x0601, 0x0602, 0x0603].contains command

/-- The first gate that fails (R115). -/
def State.gate (s : State) (command : Nat) : Option W16 :=
  if s.cfg.state = .halted ∧ ¬passesHalt command then some Code.halted
  else if ¬s.cfg.ready ∧ command ≠ 0x0001 then some Code.notReady
  else if needsSeal command ∧ s.cfg.state = .incomplete then some Code.configIncomplete
  else if needsSeal command ∧ s.cfg.state ≠ .sealed then some Code.sealInvalid
  else none

/-- The gates, the command's existence, its transport and its length (R100, R101, R104, R107, R115). -/
def State.frame (s : State) (p : Prog) : Option (W16 × Nat) :=
  match s.gate p.command with
  | some st => some (st, 0)
  | none =>
    match commandLen p.command with
    | none => some (Code.unknownCommand, 0)
    | some n =>
      if p.isAdmin ∧ mailboxOnly p.command then some (Code.wrongTransport, 0)
      else if (if p.isAdmin then p.request.length < max 32 n ∨ 4096 < p.request.length else p.request.length ≠ n) then
        some (Code.badLength, 0)
      else none

/-- The fields of the request header (R102). -/
def Prog.headerChecks (p : Prog) : List Check :=
  let b := p.request
  [ (2, le b 2 2 == 0, Code.reservedSet), (8, p.dataLenOk, Code.badLength), (0xC, le b 0xC 4 == 0, Code.reservedSet)
  , if p.isAdmin then aligned 0x10 (le b 0x10 8) 64 else within 0x10 (le b 0x10 8) 0 0
  , if p.isAdmin then aligned 0x18 (le b 0x18 8) 8 else within 0x18 (le b 0x18 8) 0 0 ]

/-! ## The order on one object (R111) -/

/-- A pattern or group handle's slot in a context, if it resolves (R253). -/
def Ctx.holdsPattern (c : Ctx) (h : W32) : Bool :=
  match tget c.patterns (bits h.toNat 15 0) with
  | some x => x.gen == bits h.toNat 31 16 && x.content != .empty
  | none => false

/-- The context whose pattern or group a handle names: the first of ascending slots in which it resolves (log 29). -/
def State.patternOwner (s : State) (h : W32) : Option Nat :=
  (s.ctxs.find? fun e => e.2.state != .free && e.2.holdsPattern h).map Prod.fst

/-- The objects that a command names (R111): 1 a context slot, 2 a partition, 3 the trace writer, 4 the firmware image. -/
def State.objects (s : State) (p : Prog) : List (Nat × Nat) :=
  let ctxOfQ (q : Nat) : List (Nat × Nat) := match s.ctxOfQueue q with | some (c, _) => [(1, c)] | none => []
  let k := p.command
  if k = 0x0201 then (if p.arg 0x24 = 0xFF then [] else [(2, p.arg 0x24)])
  else if [0x0202, 0x0203, 0x0204, 0x0205, 0x0301, 0x0401, 0x0402].contains k then [(1, handleSlot p.handle)]
  else if [0x0302, 0x0303, 0x0304, 0x0305].contains k then ctxOfQ (p.arg 0x20)
  else if k = 0x0403 then (match s.patternOwner p.handle with | some c => [(1, c)] | none => [])
  else if [0x0501, 0x0502, 0x0503].contains k then [(2, p.arg 0x20)]
  else if k = 0x0701 then [(3, 0)]
  else if k = 0x0801 ∨ k = 0x0802 then [(4, 0)]
  else if k = 0x0901 ∧ p.arg 0x20 = 1 then ctxOfQ (p.arg 0x24)
  else []

/-- Whether a command has committed a bind-off whose admin submission waits for the slot (R121). -/
def Prog.bindingOff (p : Prog) : Bool := p.pendingAnswer && p.command == 0x0202

/-- Whether an earlier command on the same object has neither completed nor answered PENDING (R111). -/
def State.behind (s : State) (p : Prog) : Bool :=
  (s.mgmt.progs.takeWhile fun q => q.ident != p.ident).any fun q => (s.objects q).any fun o => (s.objects p).contains o

/-! ## Taking a request (R85, R110) -/

/-- Whether firmware takes and runs commands: HCLK runs, the image runs on the serving Hub, no watchdog expiry holds (R470),
and no warm reset has begun (R474). -/
def State.firmware (s : State) : Bool :=
  s.awake && s.primary && s.cpb.state == .running && !s.flt.device.getLsbD 1 && !s.mgmt.warmReset

/-- The POSTED mailbox with the oldest seen record, the lower number on equal stamps (R85). -/
def State.nextBox (s : State) : Option (Nat × Mailbox) :=
  (s.mbx.boxes.zipIdx.filter fun e => e.1.state == .posted).foldl (fun b e =>
    match b with
    | some (n, x) => if e.1.seen < x.seen then some (e.2, e.1) else some (n, x)
    | none => some (e.2, e.1)) none

/-- The oldest fetched admin submission that is neither in progress nor answered, at most 4 being in progress (R110). -/
def State.nextAdmin (s : State) : Option Sub :=
  if 4 ≤ s.mgmt.progs.countP Prog.isAdmin then none
  else match tget s.queues 0 with
    | some x => x.subs.find? fun u =>
        u.retired.isNone && u.failed.isNone && (!s.mgmt.progs.any fun p => p.origin == .admin u.seq) &&
          !s.mgmt.answers.any fun a => a.sub == u.seq
    | none => none

/-- The command whose request firmware takes now, in order of stamps, mailboxes first on equal ones (R110). -/
def State.nextRequest (s : State) (request : List Byte) : Option (Origin × List Byte) :=
  let box (n : Nat) (b : Mailbox) : Origin × List Byte := (.mailbox n, s.mbx.data.read (n * 0x100) b.reqLen)
  let sub (u : Sub) : Origin × List Byte := (.admin u.seq, padTo (min (segBytes u.segs) 4097) request)
  match s.nextBox, s.nextAdmin with
  | some (n, b), some u => if b.seen ≤ u.fetched then some (box n b) else some (sub u)
  | some (n, b), none => some (box n b)
  | none, some u => some (sub u)
  | none, none => none

/-- What ends a command as it is taken: a code outside the table, or, of a command with bulk data, a gate, the framing, or a
mailbox without Inkwell slots (R99). -/
def State.refusedAtTake (s : State) (p : Prog) : Option (W16 × Nat) :=
  if takesBulk p.command then
    match s.frame p with
    | some f => some f
    | none =>
      match lowestFail p.headerChecks with
      | some f => some (f.2, f.1)
      | none =>
        match p.origin with
        | .mailbox n => if (s.mbx.boxes[n]?.map Mailbox.inkCount).getD 0 = 0 then some (Code.inkSlotRange, 0) else none
        | .admin _ => none
  else if (commandLen p.command).isNone then s.frame p
  else none

/-- MANAGEMENT_CORE_TAKE (R85, R110): the next request is in progress; its mailbox is BUSY. `request` and `bulk` are the bytes
that firmware reads for an admin submission at its buffer and at DATA_ADDR (log 11). -/
def execManagementCoreTake (request bulk : List Byte) (s : State) : Host.Outcome State Fault Refusal :=
  if s.firmware ∧ s.mgmt.exchange = .none ∧ s.mgmt.progs.length < 8 then
    match s.nextRequest request with
    | none => skip s
    | some (origin, bytes) =>
      let p : Prog := { ident := s.mgmt.nextProg, origin := origin, request := bytes, bulk := [], slots := 0, handed := 0,
                        waitFrom := s.now, pendingAnswer := false }
      let p := if p.isAdmin ∧ takesBulk p.command then { p with bulk := padTo p.dataLen bulk } else p
      let t := { s with mgmt := { s.mgmt with progs := s.mgmt.progs ++ [p], nextProg := s.mgmt.nextProg + 1 } }
      let t := match origin with
        | .mailbox n => t.modBox n fun b => { b with state := .busy }
        | .admin _ => t
      done s (match t.refusedAtTake p with
        | some (st, detail) => t.answer p st detail []
        | none => t)
  else skip s

/-! ## Bulk data through Inkwell (R95 to R99) -/

/-- The mailbox of a command. -/
def State.boxOf (s : State) (p : Prog) : Option (Nat × Mailbox) :=
  match p.origin with
  | .mailbox n => (s.mbx.boxes[n]?).map fun b => (n, b)
  | .admin _ => none

/-- Whether the bulk data is complete (R96). -/
def Prog.full (p : Prog) : Bool := decide (p.dataLen ≤ p.bulk.length)

/-- The slot that a transfer uses next (R95). -/
def Prog.slot (p : Prog) (b : Mailbox) : Nat := b.inkBase + p.slots % max 1 b.inkCount

/-- A command in progress by its name. -/
def State.prog (s : State) (id : Nat) : Option Prog := s.mgmt.progs.find? fun p => p.ident == id

/-- A command in progress changed. -/
def State.modProg (s : State) (id : Nat) (f : Prog → Prog) : State :=
  { s with mgmt := { s.mgmt with progs := s.mgmt.progs.map fun p => if p.ident = id then f p else p } }

/-- The checks of a handed-over slot, in order (R98). -/
def State.slotFailure (s : State) (slot : Nat) (expected : Nat) (eccError : Bool) : Option W16 :=
  let w := s.slotWord slot
  if eccError then some Code.inkwellEcc
  else if 63 < wordLen w ∨ ¬zeros (s.mbx.ink.read (slotAddr slot + 8) 56) then some Code.inkFormat
  else if wordSeq w ≠ expected then some Code.inkSequence
  else if wordCrc w ≠ (if wordLen w = 0 then 0 else (crc32c (s.mbx.ink.read (slotAddr slot + 0x40) (64 * wordLen w))).toNat) then
    some Code.inkCrcBad
  else none

/-- INKWELL_SLOT_CONSUME (R96, R98): the slot is consumed and free, or poisoned and the command ends. -/
def execInkwellSlotConsume (id : Nat) (eccError : Bool) (s : State) : Host.Outcome State Fault Refusal :=
  match (s.prog id).bind fun p => (s.boxOf p).map fun b => (p, b.1, b.2) with
  | none => skip s
  | some (p, n, b) =>
    let slot := p.slot b
    if s.firmware ∧ takesBulk p.command ∧ ¬p.full ∧ wordOwner (s.slotWord slot) = 2 then
      match s.slotFailure slot b.toFw eccError with
      | some code => done s ((s.setOwner slot 3).answer p code 0 [])
      | none =>
        let data := s.mbx.ink.read (slotAddr slot + 0x40) (64 * wordLen (s.slotWord slot))
        let t := (s.setOwner slot 0).modBox n fun b => { b with toFw := (b.toFw + 1) % 16384 }
        done s (t.modProg id fun p =>
          { p with bulk := (p.bulk ++ data).take p.dataLen, slots := p.slots + 1, waitFrom := s.now })
    else skip s

/-- INKWELL_SLOT_TO_HOST (R96, R97): a FREE slot takes payload for the host, the bytes beyond the data are zeros (R96), and so
are the reserved ones (R91). No command of this release answers with bulk data; any command in progress on a mailbox that takes
none may hand some over (log 30). A slot not filled is the last. -/
def execInkwellSlotToHost (id : Nat) (payload : List Byte) (s : State) : Host.Outcome State Fault Refusal :=
  match (s.prog id).bind fun p => (s.boxOf p).map fun b => (p, b.1, b.2) with
  | none => skip s
  | some (p, n, b) =>
    let slot := p.slot b
    let bytes := payload.take 4032
    let units := (bytes.length + 63) / 64
    if s.firmware ∧ ¬takesBulk p.command ∧ p.handed % 4032 = 0 ∧ 0 < b.inkCount ∧ wordOwner (s.slotWord slot) = 0 then
      let crc := if units = 0 then 0 else (crc32c (padTo (64 * units) bytes)).toNat
      let word := makeWord 1 b.toHost units crc
      let ink := s.mbx.ink.write (slotAddr slot) (leBytes 8 word ++ List.replicate 56 0 ++ padTo 4032 bytes)
      let t := { s with mbx := { s.mbx with ink := ink } }
      let t := t.modBox n fun b => { b with toHost := (b.toHost + 1) % 16384 }
      done s (t.modProg id fun p => { p with slots := p.slots + 1, handed := p.handed + bytes.length, waitFrom := s.now })
    else skip s

/-- INK_TIMEOUT (R99): firmware has waited 10 ms for the next slot of a transfer, from the start of BUSY for the first. -/
def execInkTimeout (id : Nat) (s : State) : Host.Outcome State Fault Refusal :=
  match (s.prog id).bind fun p => (s.boxOf p).map fun b => (p, b.2) with
  | none => skip s
  | some (p, b) =>
    let owner := wordOwner (s.slotWord (p.slot b))
    let waits : Bool :=
      if takesBulk p.command then !p.full && owner != 2 else p.handed % 4032 == 0 && decide (0 < b.inkCount) && owner != 0
    if s.firmware ∧ waits ∧ p.waitFrom + 10000000 ≤ s.now then done s (s.answer p Code.inkTimeout 0 []) else skip s

/-! ## The commit step (R109, R112) -/

/-- What a command's commit gives: a failure without effect, OK with results, PENDING, an effect whose answer comes later, a
step on the way after which the command is looked at again, or nothing yet. -/
inductive Commit where
  | fail (code : W16) (detail : Nat)
  | ok (after : State) (results : List Byte)
  | pending (after : State)
  | later (after : State)
  | again (after : State)
  | wait

/-- A command row: the command in progress `id` of a code passes its gates, its framing and its argument checks (R105,
R115), in this order, and commits; or it waits (R111). -/
def State.henpen (s : State) (id command : Nat) (checks : Prog → List Check) (commit : Prog → Commit) :
    Host.Outcome State Fault Refusal :=
  match s.prog id with
  | none => skip s
  | some p =>
    if s.firmware ∧ p.command = command ∧ ¬p.pendingAnswer ∧ ¬s.behind p then
      match s.frame p with
      | some (st, detail) => done s (s.answer p st detail []).settled
      | none =>
        match lowestFail (p.headerChecks ++ checks p) with
        | some (off, st) => done s (s.answer p st off []).settled
        | none =>
          if takesBulk p.command ∧ ¬p.full then skip s
          else match commit p with
            | .fail st detail => done s (s.answer p st detail []).settled
            | .ok t results => done s (t.answer p Code.ok 0 results).quiet
            | .pending t => done s (t.answer p Code.pending 0 []).quiet
            | .later t => done s (t.modProg id fun p => { p with pendingAnswer := true }).quiet
            | .again t => done s t
            | .wait => skip s
    else skip s

/-! ## Checks that commands share -/

/-- The reserved 4 bytes at +0x24 of a command with one argument. -/
def oneArg (p : Prog) : List Check := [(0x24, p.arg 0x24 == 0, Code.reservedSet)]

/-- A context handle argument (R140). -/
def State.handleCheck (s : State) (p : Prog) : Check := (0x20, (s.ctxOf p.handle).isSome, Code.badHandle)

/-- CONTEXT_BUSY for a context that is FAULTED or BINDING_OFF (R122, R146); the context otherwise. -/
def State.busyOr (s : State) (h : W32) (f : Nat → Ctx → Commit) : Commit :=
  match s.ctxOf h with
  | some (slot, c) => if c.state = .active then f slot c else .fail Code.contextBusy (handleOf slot c.gen).toNat
  | none => .wait

/-- A queue ID argument that holds a queue, the admin queue apart or not (R126). -/
def State.queueCheck (s : State) (p : Prog) (admin : Bool) : Check :=
  (0x20, (tget s.queues (p.arg 0x20)).isSome && (admin || p.arg 0x20 != 0), Code.badValue)

end Sys2Proof.Machine
end

