-- ==== Sys2Proof/Machine/Crypto.lean ====
section
/-! DEFINITION. The published functions that R430 names: SHA-384 (FIPS 180-4), ECDSA over P-384 (FIPS 186-5) and AES-256-GCM
(FIPS 197, SP 800-38D). -/

namespace Sys2Proof.Machine

open Sys2Proof

/-- The value of bytes, most significant first. -/
def beNat (l : List Byte) : Nat := l.foldl (fun n b => 256 * n + b.toNat) 0

/-- A value as `n` bytes, most significant first. -/
def beBytes (n v : Nat) : List Byte := (leBytes n v).reverse

/-- A list cut into pieces of `k`; the last may be shorter. -/
def pieces {α : Type} (k : Nat) (l : List α) : List (List α) :=
  (List.range ((l.length + k - 1) / k)).map fun i => (l.drop (i * k)).take k

/-! ## SHA-384 -/

/-- Round constants 0 to 19. -/
def shaK0 : List W64 :=
  [0x428A2F98D728AE22, 0x7137449123EF65CD, 0xB5C0FBCFEC4D3B2F, 0xE9B5DBA58189DBBC,
   0x3956C25BF348B538, 0x59F111F1B605D019, 0x923F82A4AF194F9B, 0xAB1C5ED5DA6D8118,
   0xD807AA98A3030242, 0x12835B0145706FBE, 0x243185BE4EE4B28C, 0x550C7DC3D5FFB4E2,
   0x72BE5D74F27B896F, 0x80DEB1FE3B1696B1, 0x9BDC06A725C71235, 0xC19BF174CF692694,
   0xE49B69C19EF14AD2, 0xEFBE4786384F25E3, 0x0FC19DC68B8CD5B5, 0x240CA1CC77AC9C65]

/-- Round constants 20 to 39. -/
def shaK1 : List W64 :=
  [0x2DE92C6F592B0275, 0x4A7484AA6EA6E483, 0x5CB0A9DCBD41FBD4, 0x76F988DA831153B5,
   0x983E5152EE66DFAB, 0xA831C66D2DB43210, 0xB00327C898FB213F, 0xBF597FC7BEEF0EE4,
   0xC6E00BF33DA88FC2, 0xD5A79147930AA725, 0x06CA6351E003826F, 0x142929670A0E6E70,
   0x27B70A8546D22FFC, 0x2E1B21385C26C926, 0x4D2C6DFC5AC42AED, 0x53380D139D95B3DF,
   0x650A73548BAF63DE, 0x766A0ABB3C77B2A8, 0x81C2C92E47EDAEE6, 0x92722C851482353B]

/-- Round constants 40 to 59. -/
def shaK2 : List W64 :=
  [0xA2BFE8A14CF10364, 0xA81A664BBC423001, 0xC24B8B70D0F89791, 0xC76C51A30654BE30,
   0xD192E819D6EF5218, 0xD69906245565A910, 0xF40E35855771202A, 0x106AA07032BBD1B8,
   0x19A4C116B8D2D0C8, 0x1E376C085141AB53, 0x2748774CDF8EEB99, 0x34B0BCB5E19B48A8,
   0x391C0CB3C5C95A63, 0x4ED8AA4AE3418ACB, 0x5B9CCA4F7763E373, 0x682E6FF3D6B2B8A3,
   0x748F82EE5DEFB2FC, 0x78A5636F43172F60, 0x84C87814A1F0AB72, 0x8CC702081A6439EC]

/-- Round constants 60 to 79. -/
def shaK3 : List W64 :=
  [0x90BEFFFA23631E28, 0xA4506CEBDE82BDE9, 0xBEF9A3F7B2C67915, 0xC67178F2E372532B,
   0xCA273ECEEA26619C, 0xD186B8C721C0C207, 0xEADA7DD6CDE0EB1E, 0xF57D4F7FEE6ED178,
   0x06F067AA72176FBA, 0x0A637DC5A2C898A6, 0x113F9804BEF90DAE, 0x1B710B35131C471B,
   0x28DB77F523047D84, 0x32CAAB7B40C72493, 0x3C9EBE0A15C9BEBC, 0x431D67C49C100D4C,
   0x4CC5D4BECB3E42B6, 0x597F299CFC657E2A, 0x5FCB6FAB3AD6FAEC, 0x6C44198C4A475817]

/-- The initial hash value of SHA-384. -/
def shaStart : List W64 :=
  [0xCBBB9D5DC1059ED8, 0x629A292A367CD507, 0x9159015A3070DD17, 0x152FECD8F70E5939,
   0x67332667FFC00B31, 0x8EB44A8768581511, 0xDB0C2E0D64F98FA7, 0x47B5481DBEFA4FA4]

/-- The message padded to whole blocks of 128 bytes. -/
def shaPad (m : List Byte) : List Byte :=
  let l := m.length + 17
  m ++ [0x80] ++ List.replicate ((128 - l % 128) % 128) 0 ++ beBytes 16 (8 * m.length)

/-- The message schedule, newest word first. -/
def shaSchedule : Nat → List W64 → List W64
  | 0, w => w
  | n + 1, w =>
    let a := w.getD 14 0
    let b := w.getD 1 0
    let s0 := a.rotateRight 1 ^^^ a.rotateRight 8 ^^^ (a >>> 7)
    let s1 := b.rotateRight 19 ^^^ b.rotateRight 61 ^^^ (b >>> 6)
    shaSchedule n ((s1 + w.getD 6 0 + s0 + w.getD 15 0) :: w)

/-- One round on the working variables a to h, with its constant and word. -/
def shaRound (v : List W64) (kw : W64 × W64) : List W64 :=
  match v with
  | [a, b, c, d, e, f, g, h] =>
    let t1 := h + (e.rotateRight 14 ^^^ e.rotateRight 18 ^^^ e.rotateRight 41) + ((e &&& f) ^^^ (~~~e &&& g)) + kw.1 + kw.2
    let t2 := (a.rotateRight 28 ^^^ a.rotateRight 34 ^^^ a.rotateRight 39) + ((a &&& b) ^^^ (a &&& c) ^^^ (b &&& c))
    [t1 + t2, a, b, c, d + t1, e, f, g]
  | _ => v

/-- One block of 128 bytes. -/
def shaBlock (h : List W64) (block : List Byte) : List W64 :=
  let w := (pieces 8 block).map fun p => BitVec.ofNat 64 (beNat p)
  let all := (shaSchedule 64 w.reverse).reverse
  let v := ((shaK0 ++ shaK1 ++ shaK2 ++ shaK3).zip all).foldl shaRound h
  (h.zip v).map fun p => p.1 + p.2

/-- SHA-384 of a byte string (R430). -/
def sha384 (m : List Byte) : List Byte :=
  (((pieces 128 (shaPad m)).foldl shaBlock shaStart).take 6).flatMap fun w => beBytes 8 w.toNat

/-! ## ECDSA over P-384 -/

/-- The prime of the field. -/
def p384 : Nat := 2 ^ 384 - 2 ^ 128 - 2 ^ 96 + 2 ^ 32 - 1

/-- The order of the base point. -/
def p384Order : Nat :=
  0xFFFFFFFFFFFFFFFFFFFFFFFFFFFFFFFFFFFFFFFFFFFFFFFFC7634D81F4372DDF581A0DB248B0A77AECEC196ACCC52973

/-- The constant b of the curve y² = x³ - 3x + b. -/
def p384B : Nat :=
  0xB3312FA7E23EE7E4988E056BE3F82D19181D9C6EFE8141120314088F5013875AC656398D8A2ED19D2A85C8EDD3EC2AEF

/-- A point in Jacobian coordinates: x / z² and y / z³; at infinity where z is 0. -/
structure EcPoint where
  x : Nat
  y : Nat
  z : Nat
  deriving DecidableEq, Repr

/-- The base point. -/
def ecBase : EcPoint :=
  { x := 0xAA87CA22BE8B05378EB1C71EF320AD746E1D3B628BA79B9859F741E082542A385502F25DBF55296C3A545E3872760AB7
    y := 0x3617DE4A96262C6F5D9E98BF9292DC29F8F41DBD289A147CE9DA3113B5F0B8C00A60B1CE1D7E819D7A431D7C90EA0E5F
    z := 1 }

/-- Subtraction in the field. -/
def fSub (a b : Nat) : Nat := (a + (p384 - b % p384)) % p384

/-- The bits of a number below 2^384, most significant first. -/
def bits384 (n : Nat) : List Bool := (List.range 384).reverse.map n.testBit

/-- A power modulo m. -/
def powMod (m b e : Nat) : Nat := (bits384 e).foldl (fun r t => if t then r * r % m * b % m else r * r % m) 1

/-- A point doubled. -/
def EcPoint.double (p : EcPoint) : EcPoint :=
  let d := p.z * p.z % p384
  let g := p.y * p.y % p384
  let b := p.x * g % p384
  let a := 3 * (fSub p.x d * (p.x + d) % p384) % p384
  let x := fSub (a * a) (8 * b)
  { x := x, y := fSub (a * fSub (4 * b) x) (8 * g * g), z := 2 * p.y * p.z % p384 }

/-- The sum of two points. -/
def EcPoint.add (p q : EcPoint) : EcPoint :=
  if p.z = 0 then q
  else if q.z = 0 then p
  else
    let zp := p.z * p.z % p384
    let zq := q.z * q.z % p384
    let u := p.x * zq % p384
    let v := q.x * zp % p384
    let s := p.y * q.z % p384 * zq % p384
    let t := q.y * p.z % p384 * zp % p384
    if u = v then (if s = t then p.double else ⟨1, 1, 0⟩)
    else
      let h := fSub v u
      let r := fSub t s
      let hh := h * h % p384
      let hhh := h * hh % p384
      let w := u * hh % p384
      let x := fSub (r * r) (hhh + 2 * w)
      { x := x, y := fSub (r * fSub w x) (s * hhh), z := p.z * q.z % p384 * h % p384 }

/-- A point times a number below 2^384. -/
def EcPoint.times (p : EcPoint) (n : Nat) : EcPoint :=
  (bits384 n).foldl (fun r t => if t then r.double.add p else r.double) ⟨1, 1, 0⟩

/-- The public key of an uncompressed SEC 1 point of 97 bytes, where it lies on the curve (R519). -/
def ecKey (b : List Byte) : Option EcPoint :=
  let x := beNat (slice b 1 48)
  let y := beNat (slice b 49 48)
  if le b 0 1 = 4 ∧ x < p384 ∧ y < p384 ∧ y * y % p384 = (x * x * x + (p384 - 3) * x + p384B) % p384 then some ⟨x, y, 1⟩
  else none

/-- Whether an ECDSA P-384 signature (r, s), big-endian, verifies over a SHA-384 digest with a public key (R430). -/
def ecdsaVerifies (key digest r s : List Byte) : Bool :=
  match ecKey key with
  | none => false
  | some q =>
    let r := beNat r
    let s := beNat s
    let w := powMod p384Order s (p384Order - 2)
    let u := beNat digest * w % p384Order
    let v := r * w % p384Order
    let c := (ecBase.times u).add (q.times v)
    let inv := powMod p384 c.z (p384 - 2)
    decide (0 < r) && decide (r < p384Order) && decide (0 < s) && decide (s < p384Order) && c.z != 0
      && c.x * inv % p384 * inv % p384 % p384Order == r

/-! ## AES-256-GCM -/

/-- Twice a byte in the field of AES. -/
def xtime (b : Byte) : Byte := if b.getLsbD 7 then (b <<< 1) ^^^ 0x1B else b <<< 1

/-- The product of two bytes in the field of AES. -/
def gfMul (a b : Byte) : Byte :=
  ((List.range 8).foldl (fun (r : Byte × Byte) i => (if b.getLsbD i then r.1 ^^^ r.2 else r.1, xtime r.2)) (0, a)).1

/-- The S-box: the inverse in the field (the 254th power), and the affine map. -/
def sbox (b : Byte) : Byte :=
  let sq (x : Byte) := gfMul x x
  let step (r : Byte) (_ : Nat) : Byte := gfMul (sq r) b
  let i := sq ((List.range 6).foldl step b)
  i ^^^ i.rotateLeft 1 ^^^ i.rotateLeft 2 ^^^ i.rotateLeft 3 ^^^ i.rotateLeft 4 ^^^ 0x63

/-- Two byte strings of one length combined. -/
def xorBytes (a b : List Byte) : List Byte := List.zipWith (· ^^^ ·) a b

/-- The key schedule of AES-256: four-byte words, newest first. -/
def aesSchedule : Nat → Byte → List (List Byte) → List (List Byte)
  | 0, _, w => w
  | n + 1, rcon, w =>
    let i := w.length
    let prev := w.headD []
    let t := if i % 8 = 0 then xorBytes ((prev.drop 1 ++ prev.take 1).map sbox) [rcon, 0, 0, 0]
      else if i % 8 = 4 then prev.map sbox else prev
    aesSchedule n (if i % 8 = 0 then xtime rcon else rcon) (xorBytes (w.getD 7 []) t :: w)

/-- The 15 round keys of 16 bytes. -/
def aesKeys (key : List Byte) : List (List Byte) :=
  (pieces 4 (aesSchedule 52 1 (pieces 4 key).reverse).reverse).map List.flatten

/-- SubBytes and ShiftRows on a block in column order. -/
def aesShift (b : List Byte) : List Byte :=
  (List.range 16).map fun i => sbox (b.getD (i % 4 + 4 * ((i / 4 + i % 4) % 4)) 0)

/-- MixColumns. -/
def aesMix (b : List Byte) : List Byte :=
  (pieces 4 b).flatMap fun c =>
    (List.range 4).map fun r =>
      let a (k : Nat) : Byte := c.getD ((r + k) % 4) 0
      xtime (a 0) ^^^ (xtime (a 1) ^^^ a 1) ^^^ a 2 ^^^ a 3

/-- AES-256 of a block of 16 bytes. -/
def aes256 (keys : List (List Byte)) (block : List Byte) : List Byte :=
  let start := xorBytes block (keys.getD 0 [])
  let mid := ((keys.drop 1).take 13).foldl (fun b k => xorBytes (aesMix (aesShift b)) k) start
  xorBytes (aesShift mid) (keys.getD 14 [])

/-- A product in the field of GHASH, bit 0 of a block being the most significant of its first byte. -/
def ghashMul (x y : BitVec 128) : BitVec 128 :=
  ((List.range 128).foldl (fun (r : BitVec 128 × BitVec 128) i =>
    (if x.getMsbD i then r.1 ^^^ r.2 else r.1,
     if r.2.getLsbD 0 then (r.2 >>> 1) ^^^ (0xE1 <<< 120) else r.2 >>> 1)) (0, y)).1

/-- GHASH of whole blocks under a hash key. -/
def ghash (h : BitVec 128) (data : List Byte) : BitVec 128 :=
  (pieces 16 data).foldl (fun y b => ghashMul (y ^^^ BitVec.ofNat 128 (beNat b)) h) 0

/-- Bytes with zeros up to a whole block. -/
def padBlock (l : List Byte) : List Byte := l ++ List.replicate ((16 - l.length % 16) % 16) 0

/-- The key stream of GCM from a counter on. -/
def gcmStream (keys : List (List Byte)) (iv : List Byte) (blocks : Nat) : List Byte :=
  (List.range blocks).flatMap fun i => aes256 keys (iv ++ beBytes 4 (i + 2))

/-- AES-256-GCM decryption: key, initialisation vector of 12 bytes, additional data, ciphertext, tag; none where the tag differs
(R430). -/
def gcmDecrypt (key iv aad cipher tag : List Byte) : Option (List Byte) :=
  let keys := aesKeys key
  let h := BitVec.ofNat 128 (beNat (aes256 keys (List.replicate 16 0)))
  let s := ghash h (padBlock aad ++ padBlock cipher ++ beBytes 8 (8 * aad.length) ++ beBytes 8 (8 * cipher.length))
  if xorBytes (beBytes 16 s.toNat) (aes256 keys (iv ++ beBytes 4 1)) = tag then
    some (xorBytes cipher (gcmStream keys iv ((cipher.length + 15) / 16)))
  else none

end Sys2Proof.Machine
end

