-- ==== Sys2Proof/Machine/Package.lean ====
section
/-! DEFINITION. Packages of microcode and firmware (R429 to R434): their checks, and what an accepted one leaves. -/

namespace Sys2Proof.Machine

open Sys2Proof

/-- A package refused: its status and the DETAIL that goes with it. -/
abbrev Refused := W16 × Nat

/-- IDN_VERSION (R4). -/
def idnVersion : Nat := 0x04020000

/-- Step 1 of R430: the header as R429 requires it, and a package of a type, whole. -/
def packageForm (pkg : List Byte) (typ : Nat) : Bool :=
  let len := le pkg 0x10 4
  le pkg 0 4 == 0x4B504A53 && le pkg 4 2 == 1 && le pkg 6 2 == typ && len % 64 == 0 &&
    (if typ = 1 then decide (64 ≤ len) && decide (len ≤ 196608) else decide (576 ≤ len) && decide (len ≤ 49728)) &&
    zeros (slice pkg 0x16 2) && zeros (slice pkg 0x24 12) && zeros (slice pkg 0xA0 96) && pkg.length == 256 + len

/-- The bytes of a key as the Key Port delivers them: ascending, little-endian in each word (R519). -/
def keyBytes (key : List W32) : List Byte := key.flatMap fun w => leBytes 4 w.toNat

/-- Step 2 of R430: the signature over the header with SIG_R and SIG_S as zero, and the ciphertext. -/
def packageSigned (key : List W32) (pkg : List Byte) : Bool :=
  let signed_ := pkg.take 0x40 ++ List.replicate 96 0 ++ pkg.drop 0xA0
  ecdsaVerifies (keyBytes key) (sha384 signed_) (slice pkg 0x40 48) (slice pkg 0x70 48)

/-- Step 4 of R430: the plaintext. -/
def packagePlain (key : List W32) (pkg : List Byte) : Option (List Byte) :=
  gcmDecrypt (keyBytes key) (slice pkg 0x18 12) (pkg.take 0x30) (pkg.drop 0x100) (slice pkg 0x30 16)

/-- Step 5 of R430. -/
def packageTarget (pkg : List Byte) (typ : Nat) : Bool :=
  if typ = 2 then le pkg 8 4 / 65536 == idnVersion / 65536 else decide (le pkg 8 4 ≤ idnVersion)

/-! ## The payload of a patch (R431, R432) -/

/-- The Margin word `w` of a payload. -/
def patchWord (b : List Byte) (w : Nat) : BitVec 192 := BitVec.ofNat 192 (le b (0x210 + 24 * w) 24)

/-- The entry `i` of a payload. -/
def patchMatch (b : List Byte) (i : Nat) : MatchReg :=
  let e := le b (0x10 + 8 * i) 8
  { copybook := bits e 14 0, margin := bits e 26 16 }

/-- Order 1 of R432. -/
def patchForm (b : List Byte) : List (Nat × Bool) :=
  let m := le b 0 4
  let w := le b 4 4
  let used := 0x210 + 24 * w
  [ (0, decide (m ≤ 64)), (4, decide (1 ≤ w) && decide (w ≤ 2048)), (4, b.length == (used + 63) / 64 * 64)
  , (8, zeros (slice b 8 8)) ] ++
  ((List.range 64).map fun i =>
    let e := le b (0x10 + 8 * i) 8
    (0x10 + 8 * i, if i < m then !bit e 15 && bits e 63 27 == 0 else e == 0)) ++
  ((List.range (b.length - used)).map fun i => (used + i, zeros (slice b (used + i) 1)))

/-- Order 2 of R432. -/
def patchDistinct (b : List Byte) : List (Nat × Bool) :=
  (List.range (le b 0 4)).map fun i =>
    (0x10 + 8 * i, !(List.range i).any fun j => (patchMatch b j).copybook == (patchMatch b i).copybook)

/-- Order 3 of R432. -/
def patchTargets (b : List Byte) : List (Nat × Bool) :=
  (List.range (le b 0 4)).map fun i => (0x10 + 8 * i, decide ((patchMatch b i).margin < le b 4 4))

/-- A microword's ECC matches its bits [182:0] (R421). -/
def wordEccOk (w : BitVec 192) : Bool := Config.microwordEcc (w.setWidth 183) == (w >>> 183).setWidth 9

/-- Order 4 of R432. -/
def patchEcc (b : List Byte) : List (Nat × Bool) :=
  (List.range (le b 4 4)).map fun w => (0x210 + 24 * w, wordEccOk (patchWord b w))

/-- Order 5 of R432: NEXT and the called address stay inside the Margin words. -/
def patchNext (b : List Byte) : List (Nat × Bool) :=
  let n := le b 4 4
  (List.range n).map fun w =>
    let x := (patchWord b w).toNat
    (0x210 + 24 * w, (!bit x 15 || decide (bits x 14 0 < n)) && (!(bit x 22 && bit x 79) || decide (bits x 78 64 < n)))

/-- The first failure of a list of checks. -/
def firstOff (l : List (Nat × Bool)) : Option Nat := (l.find? fun c => !c.2).map Prod.fst

/-- The payload of a patch package judged (R432). -/
def patchPayload (b : List Byte) : Option Refused :=
  match firstOff (patchForm b) with
  | some o => some (Code.patchFormat, o)
  | none =>
    match firstOff (patchDistinct b) with
    | some o => some (Code.patchMatchDuplicate, o)
    | none => (firstOff (patchTargets b ++ patchEcc b ++ patchNext b)).map fun o => (Code.patchFormat, o)

/-! ## The steps -/

/-- A package of a type judged against the keys held (R430): its plaintext, or the first refusal. A security refusal carries
the ROLLBACK of the package (R105, R440). -/
def Cpb.judge (c : Cpb) (pkg : List Byte) (typ : Nat) : Except Refused (List Byte) :=
  let rb := le pkg 0xC 4
  if ¬packageForm pkg typ then .error (Code.badValue, 0)
  else if ¬packageSigned (c.verifyKey.getD []) pkg then .error (Code.signatureBad, rb)
  else if rb < (c.counter.getD 0).toNat then .error (Code.rollback, rb)
  else match packagePlain (c.imageKey.getD []) pkg with
    | none => .error (Code.signatureBad, rb)
    | some plain =>
      if ¬packageTarget pkg typ then .error (Code.patchTarget, rb)
      else if typ = 2 then
        match patchPayload plain with
        | some r => .error r
        | none => .ok plain
      else if (Config.imageVersion plain).toNat ≠ le pkg 0x14 2 then .error (Code.badValue, 0)
      else .ok plain

/-- The image that an accepted Henpen package holds (R434). -/
def packageImage (pkg plain : List Byte) : Image :=
  { version := BitVec.ofNat 16 (le pkg 0x14 2), rollback := le32 pkg 0xC, bytes := plain }

/-- What an accepted patch package writes (R433): every Margin word and match register is replaced. -/
def Cpb.patched (c : Cpb) (pkg plain : List Byte) : Cpb :=
  let m := le plain 0 4
  { c with
    patchLoaded := true
    patchInfo := BitVec.ofNat 32 (le pkg 0x14 2 + 65536 * m)
    patchRollback := le32 pkg 0xC
    patchDigest := BitVec.ofNat 384 (leNat (sha384 pkg))
    margin := (List.range (le plain 4 4)).filterMap fun w =>
      if patchWord plain w = 0 then none else some (w, patchWord plain w)
    matchRegs := (List.range m).map fun i => (i, patchMatch plain i) }

end Sys2Proof.Machine
end

