-- ==== Sys2Proof/Machine/Commands.lean ====
section
/-! DEFINITION. The Henpen commands on the boot handshake, contexts, events, queues and the queries (R116 to R127, R133). -/

namespace Sys2Proof.Machine

open Sys2Proof

/-! ## Context slots and doorbell pages -/

/-- Whether a slot may be cast on: free, unretired, and its generation would not wrap (R120, R141, R142). -/
def State.slotOpen (s : State) (slot : Nat) : Bool :=
  match tget s.ctxs slot with
  | some c => c.state == .free && !c.retired && decide (c.gen < 0x3FFFFF)
  | none => true

/-- The slot that a cast-on takes (R120). -/
def State.openSlot (s : State) : Option Nat := lowest 1024 s.slotOpen

/-- Context slots that a cast-on may take (R116, R133). -/
def State.openSlots (s : State) : Nat := (List.range 1024).countP s.slotOpen

/-- The generation of a slot. -/
def State.slotGen (s : State) (slot : Nat) : Nat := match tget s.ctxs slot with | some c => c.gen | none => 0

/-- Free doorbell pages (R76, R120). -/
def State.freePages (s : State) : Nat := 16384 - s.bells.binds.length

/-- The lowest free doorbell pages (R120). -/
def State.lowestPages (s : State) (n : Nat) : List Nat :=
  ((List.range (min 16384 (s.bells.binds.length + n))).filter fun p => (tget s.bells.binds p).isNone).take n

/-- Whether a live context holds a PASID (R143). -/
def State.pasidHeld (s : State) (pasid : Nat) : Bool := s.ctxs.any fun e => e.2.state != .free && e.2.pasid == pasid

/-- The shortfall of pages. -/
def State.pageShort (s : State) (n : Nat) : Nat := n - s.freePages

/-- A context cast on in a slot (R120, R144). -/
def State.castOn (s : State) (slot pasid : Nat) (part : Option Nat) (pages : List Nat) (budget : Nat) (kernel : Bool) : State :=
  let gen := s.slotGen slot + 1
  let c : Ctx := { Ctx.blank gen false with state := .active, pasid := pasid, partition := part, kernel := kernel,
                                            budget := budget, pages := pages }
  let binds := pages.foldl (fun b p => tset b p (handleOf slot gen)) s.bells.binds
  { s with ctxs := tset s.ctxs slot c, bells := { s.bells with binds := binds } }

/-- A queue as it is created (R117, R125, R163): enabled, empty and, but for the admin queue, not resident. -/
def Queue.created (handle : W32) : Queue :=
  { handle := handle, cls := 0, kernel := true, device := false, weight := 1, timeoutUs := 1, ringBase := 0, ringLog2 := 6,
    tailAddr := 0, wbAddr := 0, irqSource := 0, irqEn := false, dbPage := 0, dbIndex := 0, head := 0, fetch := 0, tail := 0,
    seq := 0, deficit := 0, error := none, enabled := true, resident := false, parked := false, faulted := false, dme := 0,
    lastBell := 0, loading := false, ra := [], raDrop := 0, tailProc := none, tailDrop := 0, subs := [], scans := [], cbDrop := 0,
    wbPending := false, wbFlight := false, advStamp := 0, irqPending := false, resetting := false, adminCode := 0, resv := [],
    resvTail := 0, energyUj := 0, energyRem := 0 }

/-! ## Boot handshake (R116, R117) -/

/-- STATE of BOOT_HELLO and CFG_QUERY: 2 before READY (R116, R447). -/
def State.helloState (s : State) : Nat := if s.cfg.state = .training then 2 else s.cfg.state.code

/-- Results of BOOT_HELLO (R116). -/
def State.hello (s : State) : List Byte :=
  leBytes 2 s.mgmt.fwVersion.toNat ++ leBytes 2 s.helloState ++ leBytes 4 idnVersion ++
    leBytes 2 (s.nibs.countP Nib.present) ++ leBytes 2 s.openSlots ++ leBytes 2 s.mgmt.lastExchange.toNat ++ leBytes 2 0

/-- BOOT_HELLO (R116); it lowers source 0x3C9 (R402, R404). -/
def execBootHello (id : Nat) (s : State) : Host.Outcome State Fault Refusal :=
  s.henpen id 0x0001 (fun p => [(0x22, zeros (slice p.request 0x22 6), Code.reservedSet)]) fun _ =>
    .ok { s with iga := { s.iga with exchangeLatch := false } } s.hello

/-- Argument checks of ADMIN_QUEUE_SETUP (R117). Bits [14:10] of IRQ, which the row does not name, are held to be reserved
(log 114). A PASID that the admin context itself holds is left to ADMIN_EXISTS. -/
def State.adminChecks (s : State) (p : Prog) : List Check :=
  let irq := p.arg 0x3C
  [ (0x20, bits (p.arg 0x20) 31 20 == 0, Code.reservedSet)
  , (0x20, (tget s.queues 0).isSome || !s.pasidHeld (p.arg 0x20), Code.badValue)
  , (0x24, decide (p.arg 0x24 < 16384), Code.reservedSet)
  , aligned 0x28 (le p.request 0x28 8) 4096
  , aligned 0x30 (le p.request 0x30 8) 32
  , (0x38, bits (p.arg 0x38) 31 5 == 0, Code.reservedSet)
  , within 0x38 (p.arg 0x38) 6 16
  , (0x3C, bits irq 14 10 == 0 && bits irq 31 16 == 0, Code.reservedSet)
  , (0x3C, decide (bits irq 9 0 ≤ 0x3BF), Code.badValue)
  , within 0x40 (p.arg 0x40) 1 60000000
  , (0x44, bits (p.arg 0x44) 31 16 == 0, Code.reservedSet)
  , within 0x44 (p.arg 0x44) 1 65535
  , aligned 0x48 (le p.request 0x48 8) 8 ]

/-- The admin queue of a request (R117). -/
def adminQueue (p : Prog) (handle : W32) : Queue :=
  { Queue.created handle with
    weight := p.arg 0x44
    timeoutUs := p.arg 0x40
    ringBase := le64 p.request 0x28
    ringLog2 := p.arg 0x38
    tailAddr := le64 p.request 0x48
    wbAddr := le64 p.request 0x30
    irqSource := bits (p.arg 0x3C) 9 0
    irqEn := bit (p.arg 0x3C) 15
    dbPage := p.arg 0x24 }

/-- ADMIN_QUEUE_SETUP (R117). -/
def execAdminQueueSetup (id : Nat) (s : State) : Host.Outcome State Fault Refusal :=
  s.henpen id 0x0002 s.adminChecks fun p =>
    if (tget s.queues 0).isSome then .fail Code.adminExists 0
    else match s.openSlot with
      | none => .fail Code.noContextSlot 1
      | some slot =>
        if (tget s.bells.binds (p.arg 0x24)).isSome then .fail Code.noDoorbell 1
        else
          let h := handleOf slot (s.slotGen slot + 1)
          let t := s.castOn slot (p.arg 0x20) none [p.arg 0x24] 0 true
          let t := State.makeResident { t with queues := tset t.queues 0 (adminQueue p h) } 0
          .ok t (leBytes 4 h.toNat ++ leBytes 4 0)

/-! ## Contexts (R120 to R123) -/

/-- A partition argument of CTX_CAST_ON. -/
def partArg (v : Nat) : Option Nat := if v = 0xFF then none else some v

/-- Argument checks of CTX_CAST_ON (R120). -/
def State.castChecks (s : State) (p : Prog) : List Check :=
  [ (0x20, bits (p.arg 0x20) 31 20 == 0, Code.reservedSet)
  , (0x20, !s.pasidHeld (p.arg 0x20), Code.badValue)
  , (0x24, decide (p.arg 0x24 < 256), Code.reservedSet)
  , (0x24, p.arg 0x24 == 0xFF || (tget s.parts (p.arg 0x24)).isSome, Code.badValue)
  , within 0x28 (p.arg 0x28) 1 64
  , within 0x2C (p.arg 0x2C) 0 4096
  , (0x30, decide (p.arg 0x30 < 2), Code.reservedSet)
  , (0x34, p.arg 0x34 == 0, Code.reservedSet) ]

/-- PAGE_LIST (R120). -/
def pageList (pages : List Nat) : List Byte := (List.range 64).flatMap fun i => leBytes 2 (pages.getD i 0xFFFF)

/-- CTX_CAST_ON (R120). -/
def execCtxCastOn (id : Nat) (s : State) : Host.Outcome State Fault Refusal :=
  s.henpen id 0x0201 s.castChecks fun p =>
    match s.openSlot with
    | none => .fail Code.noContextSlot 1
    | some slot =>
      let n := p.arg 0x28
      if 0 < s.pageShort n then .fail Code.noDoorbell (s.pageShort n)
      else
        let pages := s.lowestPages n
        let h := handleOf slot (s.slotGen slot + 1)
        .ok (s.castOn slot (p.arg 0x20) (partArg (p.arg 0x24)) pages (p.arg 0x2C) (bit (p.arg 0x30) 0))
          (leBytes 4 h.toNat ++ leBytes 4 n ++ pageList pages)

/-- Whether a handle names the admin context (R121). -/
def State.isAdminCtx (s : State) (h : W32) : Bool :=
  match tget s.queues 0 with | some x => x.handle == h | none => false

/-- Argument checks of CTX_BIND_OFF (R121). -/
def State.bindOffChecks (s : State) (p : Prog) : List Check :=
  let flags := p.arg 0x24
  [ s.handleCheck p
  , (0x20, !s.isAdminCtx p.handle, Code.badValue)
  , (0x24, decide (flags < 2), Code.reservedSet)
  , (0x28, !bit flags 0 || (decide (1 ≤ p.arg 0x28) && decide (p.arg 0x28 ≤ 10000000)), Code.badValue)
  , (0x2C, p.arg 0x2C == 0, Code.reservedSet) ]

/-- The bind-off of a context (R121, R144, R153): its queues are disabled; a deadline runs from the first FORCE, unless the
kill procedure runs already. -/
def State.bindOff (s : State) (slot : Nat) (deadlineUs : Option Nat) : State :=
  let s := (s.queuesOf slot).foldl (fun s q => s.modQueue q fun x => { x.discardRa with enabled := false }) s
  s.modCtx slot fun c =>
    { c with
      state := .bindingOff
      deadline := match c.deadline, deadlineUs with
        | none, some us => if c.state = .faulted then none else some (s.now + 1000 * us)
        | d, _ => d }

/-- CTX_BIND_OFF (R121): PENDING on a mailbox; on the admin queue the answer waits until the slot is free, for a second bind-off
of the context too (log 38). -/
def execCtxBindOff (id : Nat) (s : State) : Host.Outcome State Fault Refusal :=
  s.henpen id 0x0202 s.bindOffChecks fun p =>
    let t := s.bindOff (handleSlot p.handle) (if bit (p.arg 0x24) 0 then some (p.arg 0x28) else none)
    if p.isAdmin then .later t else .pending t

/-- STATE of CTX_QUERY (R123). -/
def CtxState.code : CtxState → Nat
  | .free => 0 | .active => 1 | .faulted => 2 | .bindingOff => 3

/-- Whether CTX_QUERY answers a handle: its slot is free, or holds its generation or a later one (R123, R140). -/
def State.queryable (s : State) (h : W32) : Bool :=
  match tget s.ctxs (handleSlot h) with
  | some c => c.state == .free || decide (handleGen h ≤ c.gen)
  | none => true

/-- Results of CTX_QUERY (R123). -/
def State.ctxResults (s : State) (h : W32) : List Byte :=
  match s.ctxOf h with
  | none => leBytes 32 0
  | some (slot, c) =>
    leBytes 2 c.state.code ++ leBytes 1 (c.partition.getD 0xFF) ++ leBytes 1 (b2n c.idle + 2 * b2n c.kernel) ++
      leBytes 4 (s.queuesOf slot).length ++ leBytes 2 c.fault.toNat ++ leBytes 2 0 ++ leBytes 4 c.events.length ++
      leBytes 8 c.energyUj ++ leBytes 8 0

/-- CTX_QUERY (R123). -/
def execCtxQuery (id : Nat) (s : State) : Host.Outcome State Fault Refusal :=
  s.henpen id 0x0203 (fun p => (0x20, s.queryable p.handle, Code.badHandle) :: oneArg p) fun p => .ok s (s.ctxResults p.handle)

/-! ## Events (R124) -/

/-- Free runs of event indices between allocated ones, ascending: first index and length. -/
def freeRuns : List Nat → Nat → List (Nat × Nat)
  | [], n => [(n, 65536 - n)]
  | k :: r, n => (n, k - n) :: freeRuns r (k + 1)

/-- Event indices allocated with their state reset (R124, R299). -/
def allocEvents (t : Tbl EventState) (first n : Nat) : Tbl EventState :=
  (t.filter fun e => decide (e.1 < first)) ++
    ((List.range n).map fun i => (first + i, { arm := 0, recd := 0, last := 0, cached := false })) ++
    (t.filter fun e => decide (first ≤ e.1))

/-- EVENT_ALLOC (R124): the states are 0 in the event store too (R299). -/
def execEventAlloc (id : Nat) (s : State) : Host.Outcome State Fault Refusal :=
  s.henpen id 0x0204 (fun p => [s.handleCheck p, within 0x24 (p.arg 0x24) 1 65536]) fun p =>
    s.busyOr p.handle fun slot c =>
      let n := p.arg 0x24
      let runs := freeRuns (c.events.map Prod.fst) 0
      match runs.find? fun r => decide (n ≤ r.2) with
      | none => .fail Code.noEvent (n - runs.foldl (fun m r => max m r.2) 0)
      | some r =>
        let t := s.modCtx slot fun c => { c with events := allocEvents c.events r.1 n }
        .ok (t.writePrivate (s.eventAddr slot r.1) (List.replicate (8 * n) 0)) (leBytes 4 r.1 ++ leBytes 4 0)

/-- Whether an event of a slot has a pending wait, or a launch that will record it (R124). -/
def State.eventUsed (s : State) (slot ev : Nat) : Bool :=
  s.queues.any fun e => e.2.subs.any fun u => u.cmds.any fun d =>
    (d.waits.any fun w => w.event == ev && w.slot e.2.handle == slot && !w.met) ||
      (d.op.isLaunch && d.op.event == some ev && handleSlot e.2.handle == slot)

/-- Whether every index of a range is allocated in the context of a handle (R124). -/
def State.allocated (s : State) (h : W32) (first n : Nat) : Bool :=
  match s.ctxOf h with
  | some (_, c) => decide (first + n ≤ 65536) && (List.range n).all fun i => (tget c.events (first + i)).isSome
  | none => true

/-- Argument checks of EVENT_FREE (R124). -/
def State.eventFreeChecks (s : State) (p : Prog) : List Check :=
  let n := p.arg 0x28
  [s.handleCheck p, (0x24, n != 0 && s.allocated p.handle (p.arg 0x24) n, Code.badValue), (0x2C, p.arg 0x2C == 0, Code.reservedSet)]

/-- EVENT_FREE (R124). -/
def execEventFree (id : Nat) (s : State) : Host.Outcome State Fault Refusal :=
  s.henpen id 0x0205 s.eventFreeChecks fun p =>
    s.busyOr p.handle fun slot c =>
      let first := p.arg 0x24
      let evs := (List.range (p.arg 0x28)).map (first + ·)
      if evs.any (s.eventUsed slot) then .fail Code.contextBusy (handleOf slot c.gen).toNat
      else .ok (s.modCtx slot fun c => { c with events := c.events.filter fun e => !evs.contains e.1 }) []

/-! ## Queues (R125 to R127, R185) -/

/-- Argument checks of QUEUE_CREATE (R125). -/
def State.queueChecks (s : State) (p : Prog) : List Check :=
  let mode := p.arg 0x24
  let kernel := bit mode 8
  let may := match s.ctxOf p.handle with | some (_, c) => c.kernel | none => true
  [ s.handleCheck p
  , (0x24, bits mode 7 3 == 0 && bits mode 15 10 == 0 && bits mode 31 27 == 0, Code.reservedSet)
  , (0x24, (kernel || bits mode 2 0 != 0) && (!kernel || may) && decide (bits mode 25 16 ≤ 0x3BF), Code.badValue)
  , within 0x28 (p.arg 0x28) 1 65535
  , within 0x2C (p.arg 0x2C) 1 60000000
  , aligned 0x30 (le p.request 0x30 8) 4096
  , aligned 0x38 (le p.request 0x38 8) 8
  , aligned 0x40 (le p.request 0x40 8) 32
  , within 0x48 (p.arg 0x48) 6 16
  , (0x4C, p.arg 0x4C == 0, Code.reservedSet) ]

/-- The lowest free queue ID above 0 (R125). -/
def State.freeQueue (s : State) : Option Nat :=
  (List.range (min 0xFFFFF (s.queues.length + 1))).findSome? fun i =>
    if (tget s.queues (i + 1)).isNone then some (i + 1) else none

/-- The lowest free local index of a context's pages, lowest page first (R125). -/
def State.freeIndex (s : State) (pages : List Nat) : Option (Nat × Nat) :=
  (sortNats pages).findSome? fun p =>
    (lowest 512 fun i => !s.queues.any fun e => e.2.dbPage == p && e.2.dbIndex == i).map fun i => (p, i)

/-- The queue of a request (R125). -/
def newQueue (p : Prog) (page index : Nat) : Queue :=
  let mode := p.arg 0x24
  { Queue.created p.handle with
    cls := bits mode 2 0
    kernel := bit mode 8
    device := bit mode 9
    weight := p.arg 0x28
    timeoutUs := p.arg 0x2C
    ringBase := le64 p.request 0x30
    ringLog2 := p.arg 0x48
    tailAddr := le64 p.request 0x38
    wbAddr := le64 p.request 0x40
    irqSource := bits mode 25 16
    irqEn := bit mode 26
    dbPage := page
    dbIndex := index }

/-- QUEUE_CREATE (R125, R165). -/
def execQueueCreate (id : Nat) (s : State) : Host.Outcome State Fault Refusal :=
  s.henpen id 0x0301 s.queueChecks fun p =>
    s.busyOr p.handle fun _ c =>
      match s.freeQueue, s.freeIndex c.pages with
      | none, _ => .fail Code.noQueueId 1
      | some _, none => .fail Code.noDoorbell 1
      | some q, some (page, index) =>
        .ok { s with queues := tset s.queues q (newQueue p page index) }
          (leBytes 4 q ++ leBytes 2 page ++ leBytes 2 index)

/-- The IDLE flag of a queue (R185). -/
def State.queueIdle (s : State) (q : Nat) (x : Queue) : Bool :=
  !x.enabled && x.subs.all (fun u => u.retired.isSome) && !x.wbFlight && !x.wbPending && x.scans.isEmpty && x.raDrop == 0 &&
    !s.waitsFor (.tailWord q) && !s.waitsFor (.ringEntry q) && !s.waitsFor (.commandBytes q)

/-- A QUEUE_* command on a queue whose record is resident; else the record is read first, once a state is free (R168). -/
def State.withRecord (s : State) (q : Nat) (f : Queue → Commit) : Commit :=
  match tget s.queues q with
  | none => .wait
  | some x =>
    if x.resident then f x
    else if (tget s.qe.loads q).isNone ∧ s.residentUsed < 8192 ∧ s.qe.paging.isEmpty then .again (s.loadRecord q none)
    else .wait

/-- The same with the gate of the queue's context (R122, R146). -/
def State.onQueue (s : State) (q : Nat) (f : Queue → Commit) : Commit :=
  match tget s.queues q with
  | none => .wait
  | some x => s.busyOr x.handle fun _ _ => s.withRecord q f

/-- QUEUE_DISABLE (R126, R185). -/
def execQueueDisable (id : Nat) (s : State) : Host.Outcome State Fault Refusal :=
  s.henpen id 0x0302 (fun p => s.queueCheck p false :: oneArg p) fun p =>
    s.onQueue (p.arg 0x20) fun x =>
      .ok (if x.enabled then s.modQueue (p.arg 0x20) fun x => { x.discardRa with enabled := false } else s) []

/-- QUEUE_ENABLE (R126, R185): one tail-word read is scheduled, as for a doorbell with D equal to FETCH. -/
def State.enableQueue (s : State) (q : Nat) : State :=
  match tget s.queues q with
  | none => s
  | some x =>
    if x.enabled then s
    else
      let s := s.modQueue q fun x => { x with enabled := true }
      if x.device then s.readAhead q else s.bell q x.fetch

/-- QUEUE_ENABLE (R126). -/
def execQueueEnable (id : Nat) (s : State) : Host.Outcome State Fault Refusal :=
  s.henpen id 0x0303 (fun p => s.queueCheck p false :: oneArg p) fun p =>
    s.onQueue (p.arg 0x20) fun _ => .ok (s.enableQueue (p.arg 0x20)) []

/-- A queue's ID and record are free (R126, R154, R185). -/
def State.freeQueueRecord (s : State) (q : Nat) : State :=
  { s with
    queues := tdel s.queues q
    qe := { s.qe with
      resident := s.qe.resident.filter (· != q)
      loads := tdel s.qe.loads q
      paging := s.qe.paging.filter fun e => e.1 != q } }

/-- QUEUE_DESTROY (R126, R185). -/
def execQueueDestroy (id : Nat) (s : State) : Host.Outcome State Fault Refusal :=
  s.henpen id 0x0304 (fun p => s.queueCheck p false :: oneArg p) fun p =>
    let q := p.arg 0x20
    s.onQueue q fun x =>
      if s.queueIdle q x then .ok (s.freeQueueRecord q).pageIn [] else .fail Code.queueNotIdle q

/-- Results of QUEUE_QUERY (R127). -/
def State.queueResults (s : State) (q : Nat) (x : Queue) : List Byte :=
  leBytes 4 (b2n x.enabled + 2 * b2n (s.queueIdle q x) + 4 * b2n x.resident + 8 * b2n x.parked + 16 * b2n x.faulted) ++
    leBytes 4 x.head.toNat ++ leBytes 4 x.tail.toNat ++ leBytes 4 0 ++ leBytes 8 x.seq.toNat

/-- QUEUE_QUERY (R126, R127). -/
def execQueueQuery (id : Nat) (s : State) : Host.Outcome State Fault Refusal :=
  s.henpen id 0x0305 (fun p => s.queueCheck p true :: oneArg p) fun p =>
    let q := p.arg 0x20
    s.withRecord q fun x => .ok s (s.queueResults q x)

/-! ## Queries (R119, R133) -/

/-- CFG_QUERY (R119). -/
def execCfgQuery (id : Nat) (s : State) : Host.Outcome State Fault Refusal :=
  s.henpen id 0x0102 (fun _ => []) fun _ =>
    let crc (i : Nat) : List Byte := leBytes 4 (match tget s.cfg.tables (i + 1) with | some t => t.crc.toNat | none => 0)
    .ok s (leBytes 2 s.helloState ++ leBytes 2 s.cfg.firstFail.toNat ++ (List.range 6).flatMap crc ++ leBytes 4 0)

/-- NCLK of a level in MHz under the live FEED_LIMITS (R397). -/
def State.nclkAt (s : State) (level : Nat) : Nat := match s.live.limits with | some l => l.nclkMhz.getD level 0 | none => 0

/-- QUERY_CLOCKS (R133): HCLK is an input, at the frequency of the build (R494; log 36). -/
def execQueryClocks (id : Nat) (s : State) : Host.Outcome State Fault Refusal :=
  s.henpen id 0x0601 (fun _ => []) fun _ =>
    .ok s (leBytes 2 s.build.hclk ++ leBytes 1 0 ++ leBytes 1 (b2n s.ductus.refOk) ++ leBytes 4 0 ++
      s.feed.rails.flatMap fun r => leBytes 4 (r.level + 16 * s.nclkAt r.level))

/-- QUERY_TEMPS (R133). -/
def execQueryTemps (id : Nat) (s : State) : Host.Outcome State Fault Refusal :=
  s.henpen id 0x0602 (fun _ => []) fun _ =>
    let temps := s.feed.rails.map Rail.lastTemp
    let top : Int := temps.foldl max (temps.headD 0)
    .ok s ((temps.flatMap fun t => leBytes 2 (unsignedOf 16 t)) ++ leBytes 2 (unsignedOf 16 top) ++ leBytes 6 0)

/-- QUERY_LIMITS (R133, R202). -/
def execQueryLimits (id : Nat) (s : State) : Host.Outcome State Fault Refusal :=
  s.henpen id 0x0603 (fun _ => []) fun _ =>
    let cap (f : FeedLimits → Nat) : Nat := match s.live.limits with | some l => f l | none => 0
    .ok s (leBytes 2 s.openSlots ++ leBytes 2 (s.ctxs.countP fun e => e.2.retired) ++ leBytes 2 s.qe.resident.length ++
      leBytes 2 (64 - s.parts.length) ++ leBytes 2 (32768 - s.waitsUsed) ++ leBytes 2 (4096 - s.sync.watches.length) ++
      leBytes 2 s.poolUsed ++ leBytes 2 s.deviceMask ++ leBytes 4 (cap FeedLimits.peakCapW) ++
      leBytes 4 (cap FeedLimits.sustainedCapW) ++ leBytes 8 0)

end Sys2Proof.Machine
end

