-- ==== Sys2Proof/Machine/Firmware.lean ====
section
/-! DEFINITION. Configuration tables (R118, R457), trace control (R134), online exchange (R135 to R137) and the recovery
actions (R138, R471 to R473, R480). -/

namespace Sys2Proof.Machine

open Sys2Proof

/-! ## Tables (R118, R448, R453, R456) -/

/-- A loaded table stored; a seal check in progress will fail with CFG_CHANGED, and a valid seal breaks (R453, R457). -/
def State.storeTable (s : State) (table : Nat) (bytes : List Byte) : State :=
  let c : Cfg := { s.cfg with
    tables := tset s.cfg.tables table ⟨bytes, crc32c bytes⟩
    energyNew := s.cfg.energyNew || table == 5
    check := s.cfg.check.map fun k => { k with changed := some (k.changed.getD table) } }
  if c.state = .sealed then
    State.withholdAll (reason := none) { s with
      cfg := { c with state := .sealBroken, breaks := sat32 c.breaks 1 }
      iga := { s.iga with configLatch := true } }
  else { s with cfg := c }

/-- CFG_LOAD_TABLE (R118). -/
def execCfgLoadTable (id : Nat) (s : State) : Host.Outcome State Fault Refusal :=
  s.henpen id 0x0101 (fun p => within 0x20 (p.arg 0x20) 1 6 :: oneArg p) fun p =>
    .ok (s.storeTable (p.arg 0x20) p.bulk) (leBytes 4 (crc32c p.bulk).toNat ++ leBytes 4 0)

/-! ## Trace control (R134) -/

/-- The OP of a TRACE_CONTROL; an unlisted one is refused as CONFIGURE. -/
def traceOp (p : Prog) : Nat := if p.arg 0x20 ≤ 2 then p.arg 0x20 else 0

/-- Argument checks of TRACE_CONTROL (R134): fields that an OP does not use are ignored. -/
def traceChecks (p : Prog) : List Check :=
  [ within 0x20 (p.arg 0x20) 0 2, (0x44, p.arg 0x44 == 0, Code.reservedSet) ] ++
    (if p.arg 0x20 = 0 then
      [ aligned 0x28 (le p.request 0x28 8) 4096, within 0x30 (p.arg 0x30) 16 30, within 0x34 (p.arg 0x34) 1 256
      , (0x38, bits (p.arg 0x38) 31 20 == 0, Code.reservedSet), within 0x40 (p.arg 0x40) 0 1 ]
    else [])

/-- MASK and MOP_SEL written by every OP (R134). -/
def State.traceMasks (s : State) (p : Prog) : State := (s.write32 0 0x30034 (p.arg 0x24)).write32 0 0x30044 (p.arg 0x3C)

/-- A row of TRACE_CONTROL. -/
def State.traceRow (s : State) (id op : Nat) (commit : Prog → Commit) : Host.Outcome State Fault Refusal :=
  if ((s.prog id).map traceOp).getD 0 = op then s.henpen id 0x0701 traceChecks commit else skip s

/-- TRACE_CONTROL CONFIGURE (R134). -/
def execTraceControlConfigure (id : Nat) (s : State) : Host.Outcome State Fault Refusal :=
  s.traceRow id 0 fun p =>
    if s.trace.en then .fail Code.traceActive 0
    else
      let t := s.traceMasks p
      .ok { t with trace := { t.trace with
        base := le64 p.request 0x28
        log2 := p.arg 0x30
        rate := BitVec.ofNat 32 (p.arg 0x34)
        pasid := BitVec.ofNat 32 (p.arg 0x38)
        wrap := p.arg 0x40 == 1 } } []

/-- TRACE_CONTROL ENABLE (R50, R134). -/
def execTraceControlEnable (id : Nat) (s : State) : Host.Outcome State Fault Refusal :=
  s.traceRow id 1 fun p => .ok ((s.traceMasks p).setTraceEn true) []

/-- TRACE_CONTROL DISABLE (R60, R134): answered once TRACE_IDLE is 1. -/
def execTraceControlDisable (id : Nat) (s : State) : Host.Outcome State Fault Refusal :=
  s.traceRow id 2 fun p =>
    let t := (s.traceMasks p).setTraceEn false
    if t.trace.idle then .ok t [] else .later t

/-- The disables that wait for TRACE_IDLE. -/
def State.traceWaiters (s : State) : List Prog := s.mgmt.progs.filter fun p => p.pendingAnswer && p.command == 0x0701

/-- TRACE_FLUSH_DONE (R60): tracing is off and the writer holds no record. -/
def execTraceFlushDone (s : State) : Host.Outcome State Fault Refusal :=
  if ¬s.trace.en ∧ ¬s.trace.idle ∧ s.trace.buf.isEmpty then
    let t : State := { s with trace := { s.trace with idle := true } }
    done s (s.traceWaiters.foldl (fun t p => t.answer p Code.ok 0 []) t).settled
  else skip s

/-! ## Online exchange (R135 to R137) -/

/-- The major number of a Henpen version (R6). -/
def henpenMajor (v : Nat) : Nat := v / 256

/-- FW_STAGE (R135). -/
def execFwStage (id : Nat) (s : State) : Host.Outcome State Fault Refusal :=
  s.henpen id 0x0801 (fun _ => []) fun p =>
    if s.mgmt.exchange ≠ .none then .fail Code.exchangeBusy 0
    else match s.cpb.judge p.bulk 1 with
      | .error r => .fail r.1 r.2
      | .ok plain =>
        let image := packageImage p.bulk plain
        if henpenMajor image.version.toNat ≠ henpenMajor s.mgmt.fwVersion.toNat then .fail Code.badValue 0
        else .ok { s with mgmt := { s.mgmt with staged := some image } } (leBytes 2 image.version.toNat ++ leBytes 6 0)

/-- FW_ACTIVATE (R136). -/
def execFwActivate (id : Nat) (s : State) : Host.Outcome State Fault Refusal :=
  s.henpen id 0x0802 (fun _ => []) fun _ =>
    if s.mgmt.exchange ≠ .none then .fail Code.exchangeBusy 0
    else if s.mgmt.staged.isNone then .fail Code.notReady 0
    else .pending { s with mgmt := { s.mgmt with exchange := .draining } }

/-- EXCHANGE_DRAINED (R83, R84, R136): no command is in progress and no mailbox is BUSY. -/
def execExchangeDrained (s : State) : Host.Outcome State Fault Refusal :=
  if s.firmware ∧ s.mgmt.exchange = .draining ∧ s.mgmt.progs = [] ∧ s.mbx.boxes.all (fun b => b.state != .busy) then
    let t : State := { s with mgmt := { s.mgmt with fwVersion := 0, exchange := .switching } }
    let posted := (s.mbx.boxes.zipIdx.filter fun b => b.1.state == .posted).map Prod.snd
    done s (posted.foldl State.retryBox t)
  else skip s

/-- The version of an image; 0 of none. -/
def imageVer (i : Option Image) : W16 := match i with | some i => i.version | none => 0

/-- The staged image passes its self-test and runs (R136). -/
def State.switchImage (s : State) (i : Image) : State :=
  { s with
    cpb := { s.cpb with henpenRollback := i.rollback }
    mgmt := { s.mgmt with image := some i, staged := none, fwVersion := i.version, lastExchange := Code.ok, exchange := .none }
    iga := { s.iga with exchangeLatch := true } }

/-- The old image is restored (R136). -/
def State.restoreImage (s : State) (i : Image) : State :=
  let code := Config.selfTestStatus i.bytes
  let old := imageVer s.mgmt.image
  let s : State := { s with
    mgmt := { s.mgmt with staged := none, fwVersion := old, lastExchange := code, exchange := .none }
    iga := { s.iga with exchangeLatch := true } }
  s.blot code 0x08 unitMc (old.toNat + 65536 * i.version.toNat)

/-- EXCHANGE_SWITCHED (R136, R402). -/
def execExchangeSwitched (s : State) : Host.Outcome State Fault Refusal :=
  match s.mgmt.exchange, s.mgmt.staged with
  | .switching, some i => done s (if Config.selfTestPasses i.bytes then s.switchImage i else s.restoreImage i)
  | _, _ => skip s

/-! ## Recovery (R138, R471 to R473, R480) -/

/-- The ACTION of a RECOVER; an unlisted one is refused as QUEUE_RESET. -/
def recoverAction (p : Prog) : Nat := if 1 ≤ p.arg 0x20 ∧ p.arg 0x20 ≤ 4 then p.arg 0x20 else 1

/-- Argument checks of RECOVER (R138, R473). -/
def State.recoverChecks (s : State) (p : Prog) : List Check :=
  let target := p.arg 0x24
  let good : Bool := match p.arg 0x20 with
    | 1 => target != 0 && (tget s.queues target).isSome
    | 2 => decide (target < s.build.nibs)
    | 3 => target == 0
    | 4 => target == 0
    | _ => true
  [within 0x20 (p.arg 0x20) 1 4, (0x24, good, Code.badValue)]

/-- A row of RECOVER. -/
def State.recoverRow (s : State) (id action : Nat) (commit : Prog → Commit) : Host.Outcome State Fault Refusal :=
  if ((s.prog id).map recoverAction).getD 0 = action then s.henpen id 0x0901 s.recoverChecks commit else skip s

/-- RECOVER QUEUE_RESET (R138, R472). -/
def execRecoverQueueReset (id : Nat) (s : State) : Host.Outcome State Fault Refusal :=
  s.recoverRow id 1 fun p =>
    match tget s.queues (p.arg 0x24) with
    | none => .wait
    | some x => s.busyOr x.handle fun _ _ => .pending (s.modQueue (p.arg 0x24) fun x => { x with resetting := true })

/-- FAULTED and the error state cleared, and the tail read (R191, R472). -/
def State.resetQueue (s : State) (q : Nat) (x : Queue) : State :=
  let s := s.modQueue q fun x => { x with faulted := false, error := none }
  if ¬x.enabled then s
  else if x.device ∧ x.resident then s.readAhead q
  else s.needRecord q x.fetch

/-- QUEUE_RESET_DONE (R191, R472): every fetched submission of a FAULTED queue has retired; there is nothing to wait for, and no
change, where it is not FAULTED. -/
def execQueueResetDone (q : Nat) (s : State) : Host.Outcome State Fault Refusal :=
  match tget s.queues q with
  | none => skip s
  | some x =>
    if s.firmware ∧ x.resetting ∧ (¬x.faulted ∨ x.subs.all fun u => u.retired.isSome) then
      let t := s.modQueue q fun x => { x with resetting := false }
      match s.ctxOf x.handle with
      | some (_, c) =>
        if c.state ≠ .active then done s (t.recovered 1 q Code.contextBusy)
        else done s ((if x.faulted then t.resetQueue q x else t).recovered 1 q Code.ok).settled
      | none => done s (t.recovered 1 q Code.contextBusy)
    else skip s

/-- RECOVER NIB_REINIT (R138, R473): a present Nib is lost with cause 5, and its link is held in reset for 10 µs and then trained. -/
def execRecoverNibReinit (id : Nat) (s : State) : Host.Outcome State Fault Refusal :=
  s.recoverRow id 2 fun p =>
    let n := p.arg 0x24
    let t := (s.nibLost n 5).modNib n fun b => { b with trainFrom := s.now + 10000 }
    .pending { t with mgmt := { t.mgmt with recoveries := t.mgmt.recoveries ++ [(2, n)] } }

/-- The splitters that can serve a Nib (R497). -/
def State.homes (s : State) (n : Nat) : List Nat :=
  let j := n / 16
  if s.build.mirrored then [2 * j, 2 * j + 1] else [j]

/-- Whether a splitter has trained. -/
def State.splitterUpNow (s : State) (sp : Nat) : Bool := match s.splitters[sp]? with | some x => x.link == .up | none => false

/-- Whether the training of a NIB_REINIT may end so at a time (R444, R445, R473): the link comes up within its 3 attempts of
200 µs, or all of them have passed. -/
def Nib.retrainEnds (b : Nib) (trained : Bool) (now : Nat) : Bool :=
  if trained then decide (b.trainFrom ≤ now ∧ now ≤ b.trainFrom + 600000) else decide (b.trainFrom + 600000 ≤ now)

/-- The splitter of the link that a retrained Nib makes active (R497): the lower one of its homes that is up. -/
def State.home (s : State) (nib via : Nat) : Nat := ((s.homes nib).find? s.splitterUpNow).getD via

/-- NIB_REINIT_DONE (R473): a Nib whose report equals its report at start-up returns as a free Nib in OFF. -/
def execNibReinitDone (nib : Nat) (trained : Bool) (die : Nat) (cores : List (List EqPort)) (s : State) :
    Host.Outcome State Fault Refusal :=
  match s.nibs[nib]? with
  | none => skip s
  | some b =>
    if s.firmware ∧ s.mgmt.recoveries.contains (2, nib) ∧ b.retrainEnds trained s.now then
      let t : State := { s with mgmt := { s.mgmt with recoveries := s.mgmt.recoveries.erase (2, nib) } }
      if trained ∧ b.firstReport = some (die, portsOf cores) then
        let t := t.modNib nib fun b =>
          { Nib.reset with link := .up, via := s.home nib b.via, die := die, ports := portsOf cores, firstReport := b.firstReport,
                           testMode := b.testMode }
        done s (t.recovered 2 nib Code.ok)
      else done s (t.recovered 2 nib Code.nibLost)
    else skip s

/-- RECOVER WARM_RESET (R138, R474): OK is posted before the reset begins. -/
def execRecoverWarmReset (id : Nat) (s : State) : Host.Outcome State Fault Refusal :=
  s.recoverRow id 3 fun _ => .ok { s with mgmt := { s.mgmt with warmReset := true } } []

/-- The answer OK of a failover leaves, and the primary hands over (R138, R478, R480). -/
def State.handOver (s : State) (p : Prog) : State :=
  let t := s.answer p Code.ok 0 []
  ((t.mir.held.drop s.mir.held.length).foldl (fun t h => t.release h.what) t).yieldTo 4

/-- RECOVER FAILOVER (R138, R480): OK from the primary, which then hands over. -/
def execRecoverFailover (id : Nat) (s : State) : Host.Outcome State Fault Refusal :=
  s.recoverRow id 4 fun p =>
    if s.mir.role = .primaryMirrored then .again (s.handOver p)
    else .fail Code.notReady 0

end Sys2Proof.Machine
end

