-- ==== Sys2Proof/Machine/Boot.lean ====
section
/-! DEFINITION. Start-up: the reference clock and keys (R443, R519), the boot load (R436, R437), and the training of the Yarn
links (R444 to R447). -/

namespace Sys2Proof.Machine

open Sys2Proof

/-! ## Clock and keys -/

/-- REFCLK_OK (R443, R519): the count starts, keys are asked for, and what the always-on domain held is served. -/
def execRefclkOk (s : State) : Host.Outcome State Fault Refusal :=
  if s.ductus.refOk then skip s
  else
    let t : State := { s with
      ductus := { s.ductus with refOk := true }
      cpb := { s.cpb with keyReq := true }
      htp := { s.htp with waiting := [] } }
    let t := s.htp.waiting.foldl State.hostAccess t
    done s (State.catchHeld t.bells.held.length t).settled

/-- A delivery taken into the key store, where its word count is right (R519). -/
def Cpb.takeKey (c : Cpb) (kind : Nat) (words : List W32) : Option Cpb :=
  match kind, words.length with
  | 0, 25 => if (words.getLastD 0).toNat < 256 then some { c with verifyKey := some words } else none
  | 1, 8 => some { c with imageKey := some words }
  | 2, 1 => some { c with counter := some (words.headD 0) }
  | _, _ => none

/-- All three kinds are there (R437, R519): KYP_REQ falls; WAIT_KEYS ends, with the boot load where START is pending. -/
def State.keysHere (s : State) : State :=
  match s.cpb.verifyKey, s.cpb.imageKey, s.cpb.counter with
  | some _, some _, some n =>
    let s : State := { s with cpb := { s.cpb with keyReq := false } }
    if s.cpb.state = .waitKeys then
      let s : State := { s with cpb := { s.cpb with keyCounter := n, state := .opened } }
      if s.cpb.start then s.startLoad else s
    else s
  | _, _, _ => s

/-- KEY_DELIVERY (R437, R519): a delivery with the wrong word count is discarded. -/
def execKeyDelivery (kind : Nat) (words : List W32) (s : State) : Host.Outcome State Fault Refusal :=
  if s.cpb.keyReq then
    match s.cpb.takeKey kind words with
    | some c => done s (State.keysHere { s with cpb := c })
    | none => skip s
  else skip s

/-! ## The boot load (R437) -/

/-- A boot load that fails (R437). -/
def State.bootFails (s : State) (status : W16) (detail : Nat) : State :=
  { s with cpb := { s.cpb with
      state := .failed, lastStatus := status, detail := BitVec.ofNat 32 detail, start := false } }

/-- The TEST records of a start-up (R467, R524): one for each block whose wrapper holds a self-test result (log 113). -/
def State.blotTests (s : State) : State :=
  s.power.selfTests.foldl (fun t r => t.blot 0 0x0E unitFm (r.1 + 2 ^ 8 * r.2.1 + 2 ^ 16 * b2n r.2.2))
    { s with power := { s.power with selfTests := [] } }

/-- The first Henpen image starts (R428, R436, R437): Inkwell is cleared, self-test results are written down, and training
begins. Source 0x3C8 is low until training ends (R402, R456). -/
def State.bootRuns (s : State) (i : Image) : State :=
  State.blotTests { s with
    cpb := { s.cpb with state := .running, lastStatus := Code.ok, henpenRollback := i.rollback }
    mgmt := { s.mgmt with
      image := some i, fwVersion := i.version, queueBase := Config.queueTableBase i.bytes
      eventBase := Config.eventStoreBase i.bytes, patternBase := Config.patternStoreBase i.bytes }
    mbx := { s.mbx with ink := [] }
    iga := { s.iga with configLatch := s.iga.configLatch && s.cfg.state != .training }
    splitters := s.splitters.map fun x => { x with heard := s.now }
    cfg := { s.cfg with train := .splitters } }

/-- The Henpen package of the boot load checked (R437). -/
def State.bootHenpen (s : State) : State :=
  let pkg := s.mbx.ink.read s.cpb.henpenOffset.toNat s.cpb.henpenLen.toNat
  match s.cpb.judge pkg 1 with
  | .error r => s.bootFails r.1 r.2
  | .ok plain =>
    let i := packageImage pkg plain
    if Config.selfTestPasses i.bytes then s.bootRuns i else s.bootFails (Config.selfTestStatus i.bytes) 0

/-- BOOT_CHECK_DONE (R430, R433, R437, R495): the patch package, if one is given, then the Henpen package. -/
def execBootCheckDone (s : State) : Host.Outcome State Fault Refusal :=
  if s.cpb.state = .checking ∧ s.power.hubReleased ∧ ¬s.power.testMode then
    if s.cpb.patchLen = 0 then done s s.bootHenpen
    else
      let pkg := s.mbx.ink.read s.cpb.patchOffset.toNat s.cpb.patchLen.toNat
      match s.cpb.judge pkg 2 with
      | .error r => done s (s.bootFails r.1 r.2)
      | .ok plain => done s (State.bootHenpen { s with cpb := s.cpb.patched pkg plain })
  else skip s

/-! ## Training (R444 to R447) -/

/-- An absent unit's record (R445, R467): splitter or Nib, its index, and the attempts made. -/
def State.blotAbsent (s : State) (nib : Bool) (index attempts : Nat) : State :=
  s.blot 0 0x03 unitMc (b2n nib + 2 * index + 2 ^ 9 * attempts)

/-- Attempts that a link has used. -/
def LinkState.attempts : LinkState → Nat
  | .training k => k
  | _ => 0

/-- A Nib is marked absent after some attempts (R444, R445). -/
def State.nibAbsent (s : State) (n attempts : Nat) : State :=
  (s.modNib n fun b => { b with link := .absent }).blotAbsent true n attempts

/-- Whether a link's training has come to its end. -/
def LinkState.settled (l : LinkState) : Bool := l == .up || l == .absent

/-- The built Nibs of a batch (R444). -/
def State.batchNibs (s : State) (b : Nat) : List Nat := (List.range s.nibs.length).filter fun n => n / 16 == b

/-- The Nib phase ends (R447, R456): READY, and the state that the presence of every built Nib gives; source 0x3C8 rises. -/
def State.configReady (s : State) : State :=
  let all := s.nibs.all Nib.present
  { s with
    cfg := { s.cfg with
      train := .done
      ready := true
      state := if s.cfg.state = .training then (if all then .ready else .incomplete) else s.cfg.state }
    iga := { s.iga with configLatch := true } }

/-- Batches whose Nibs have all come to an end are over, and the next one starts (R444). -/
def State.nextBatch : Nat → State → State
  | 0, s => s
  | fuel + 1, s =>
    match s.cfg.train with
    | .batch b _ =>
      if s.nibs.length ≤ 16 * b then s.configReady
      else if (s.batchNibs b).all fun n => match s.nibs[n]? with | some x => x.link.settled | none => true then
        State.nextBatch fuel { s with cfg := { s.cfg with train := .batch (b + 1) s.now } }
      else s
    | _ => s

/-- SPLITTER_TRAINING_ATTEMPT_END (R444, R445): an attempt of 200 µs ends with the link up, a retry, or the splitter absent.
One still in reset does not train (R495). -/
def execSplitterTrainingAttemptEnd (sp : Nat) (up : Bool) (s : State) : Host.Outcome State Fault Refusal :=
  match s.splitters[sp]? with
  | none => skip s
  | some x =>
    let k := x.link.attempts + 1
    if s.cfg.train ≠ .splitters ∨ x.link.settled then skip s
    else if up ∧ x.link ≠ .inReset then
      done s ((s.freshLink sp).modSplitter sp fun x => { Splitter.reset with link := .up, heard := s.now, testMode := x.testMode })
    else if s.now < x.heard + 200000 * k then skip s
    else if 3 ≤ k then
      done s ((s.modSplitter sp fun x => { x with link := .absent }).blotAbsent false sp k)
    else done s (s.modSplitter sp fun x => { x with link := .training k })

/-- SPLITTER_PHASE_DONE (R444): the Nib phase starts; a Nib that no trained splitter reaches is absent at once. -/
def execSplitterPhaseDone (s : State) : Host.Outcome State Fault Refusal :=
  if s.cfg.train = .splitters ∧ s.splitters.all (fun x => x.link.settled) then
    let lost := (List.range s.nibs.length).filter fun n => !(s.homes n).any s.splitterUpNow
    let t := lost.foldl (fun t n => t.nibAbsent n 0) s
    let t : State := { t with cfg := { t.cfg with train := .batch 0 s.now } }
    done s (State.nextBatch 18 t)
  else skip s

/-- NIB_POWER_UP (R444): k × 256 ns after its batch starts. -/
def execNibPowerUp (nib : Nat) (s : State) : Host.Outcome State Fault Refusal :=
  match s.cfg.train, s.nibs[nib]? with
  | .batch b since, some x =>
    if nib / 16 = b ∧ (x.link = .waiting ∨ x.link = .inReset) ∧ since + nib % 16 * 256 ≤ s.now then
      done s (s.modNib nib fun x => { x with link := .training 0, trainFrom := s.now })
    else skip s
  | _, _ => skip s

/-- A Nib has trained through a splitter (R446, R497): its report is held, and it enters OFF. -/
def Nib.trained (b : Nib) (sp : Nat) : Nib :=
  { Nib.reset with
    link := .up, via := sp, die := b.die, ports := b.ports, firstReport := some (b.die, b.ports), testMode := b.testMode }

/-- NIB_TRAINING_ATTEMPT_END (R444 to R447, R497): an attempt ends with the link up through a splitter that serves the Nib, a
retry, or the Nib absent. One whose reset was never released shows no port and does not train (R495, R511). -/
def execNibTrainingAttemptEnd (nib : Nat) (up : Bool) (splitter : Nat) (s : State) : Host.Outcome State Fault Refusal :=
  match s.cfg.train, s.nibs[nib]? with
  | .batch b _, some x =>
    match x.link with
    | .training n =>
      let good : Bool := up && !x.ports.isEmpty && (s.homes nib).contains splitter && s.splitterUpNow splitter
      if nib / 16 ≠ b then skip s
      else if good then done s (State.nextBatch 18 (s.modNib nib fun x => x.trained splitter))
      else if s.now < x.trainFrom + 200000 * (n + 1) then skip s
      else if 3 ≤ n + 1 then done s (State.nextBatch 18 (s.nibAbsent nib (n + 1)))
      else done s (s.modNib nib fun x => { x with link := .training (n + 1) })
    | _ => skip s
  | _, _ => skip s

end Sys2Proof.Machine
end

