-- ==== Sys2Proof/Machine/Context.lean ====
section
/-! DEFINITION. The end of a bind-off (R153 to R155): its deadline and the release of the context. -/

namespace Sys2Proof.Machine

open Sys2Proof

/-- Whether work of a context remains: fetched submissions that have not retired, and tasks (R154). -/
def State.workLeft (s : State) (slot : Nat) : Bool :=
  (s.queues.any fun e => handleSlot e.2.handle == slot && (!e.2.scans.isEmpty || e.2.subs.any fun u => u.retired.isNone)) ||
    s.tasks.any fun e => e.2.slot == slot

/-- BIND_OFF_DEADLINE (R144, R154): what is still outstanding is killed. -/
def execBindOffDeadline (slot : Nat) (s : State) : Host.Outcome State Fault Refusal :=
  match tget s.ctxs slot with
  | none => skip s
  | some c =>
    match c.deadline with
    | none => skip s
    | some d =>
      if s.primary ∧ c.state = .bindingOff ∧ c.kill.isNone ∧ d ≤ s.now then
        let t := s.modCtx slot fun c => { c with deadline := none }
        done s (if s.workLeft slot then (t.startKill slot Code.killedAtDeadline).quiet else t)
      else skip s

/-- The invalidation of a context's release, apart from those of the Translation Port (R154, R285). -/
def releaseTag (slot : Nat) : Nat := 1000 + slot

/-- Whether a request under a PASID is outstanding, one given up among them (R154, R503). -/
def MemReq.under (r : MemReq) (pasid : Nat) : Bool := r.pasid == pasid && !r.phys

/-- What keeps the IDLE bit of a context from setting (R154, step 5). -/
def State.ctxBusy (s : State) (slot : Nat) (c : Ctx) : Bool :=
  (s.queues.any fun e => handleSlot e.2.handle == slot && !s.queueIdle e.1 e.2) ||
    (s.sync.waits.any fun w => handleSlot w.handle == slot && w.handle != 0) ||
    (s.mip.any fun r => r.under c.pasid) ||
    (s.xlat.reqs.any fun r => r.pasid == c.pasid) || (s.xlat.cache.any fun e => e.pasid == c.pasid) ||
    (s.xlat.invs.any fun i => i.itag == releaseTag slot) ||
    s.nibs.any fun b => b.cache.any fun e => e.pasid == c.pasid

/-- Steps 1 to 4 of R154: the context's own waits end, events still awaited complete with error, watch slots are freed, and
every translation under the PASID is invalidated. -/
def State.beginRelease (s : State) (slot : Nat) (c : Ctx) : State :=
  let cause := match c.kill with | some k => k.cause | none => Code.ownerGone
  let waits := s.sync.waits.filter fun w => !(handleSlot w.handle == slot && w.handle != 0)
  let s := { s with sync := SyncUnit.prune { s.sync with waits := waits } }
  let s := s.errorEvents slot ((c.events.map Prod.fst).filter (s.awaited slot)) cause
  (s.modCtx slot fun c => { c with releasing := true }).startInv (releaseTag slot) (some c.pasid) 0 (2 ^ 64)

/-- Step 6 of R154: everything of the context is freed, and the slot is FREE, or retired (R141). -/
def State.freeCtx (s : State) (slot : Nat) (c : Ctx) : State :=
  let s := ((s.queuesOf slot).foldl State.freeQueueRecord s).pageIn
  let s := s.blot Code.ok 0x0C unitFm (Config.bindOffRecord (handleOf slot c.gen)).toNat
  { s with
    ctxs := tset s.ctxs slot (Ctx.blank c.gen (c.gen == 0x3FFFFF))
    bells := { s.bells with binds := s.bells.binds.filter fun b => b.2 != handleOf slot c.gen } }

/-- The bind-offs of the admin queue that wait for a slot (R121). -/
def State.bindOffWaiters (s : State) (slot : Nat) : List Prog :=
  s.mgmt.progs.filter fun p => p.bindingOff && handleSlot p.handle == slot

/-- CONTEXT_RELEASE (R154): the steps in their order; IDLE sets once nothing is outstanding, and at IDLE the slot is freed. -/
def execContextRelease (slot : Nat) (s : State) : Host.Outcome State Fault Refusal :=
  match tget s.ctxs slot with
  | none => skip s
  | some c =>
    let killed : Bool := match c.kill with | some k => k.eventsDone | none => true
    if s.primary ∧ c.state = .bindingOff ∧ killed ∧ ¬s.workLeft slot then
      if ¬c.releasing then done s (s.beginRelease slot c).quiet
      else if ¬c.idle then
        (if s.ctxBusy slot c then skip s else done s (s.modCtx slot fun c => { c with idle := true }))
      else
        let t := s.freeCtx slot c
        done s ((s.bindOffWaiters slot).foldl (fun t p => t.answer p Code.ok 0 []) t).settled
    else skip s

end Sys2Proof.Machine
end

