-- ==== Sys2Proof/Machine/Microcode.lean ====
section
/-! DEFINITION. The Dispatch Microengines' sequencer (R418 to R427): the next address, match registers, safe points and
events, and microcode faults. -/

namespace Sys2Proof.Machine

open Sys2Proof

/-- Encoding of a cause (R423). -/
def mcodeCauseCode : McodeCause → Nat
  | .safe => 0 | .ecc => 1 | .stack => 2 | .form => 3

/-- A DME stops with a microcode fault (R423, R441, R470): CPB_MCODE_FAULT keeps the first. -/
def State.stopDme (s : State) (d : Nat) (cause : McodeCause) (a : McodeAddr) : State :=
  let word := 256 * (a.addr % 2 ^ 15) + 2 ^ 23 * (a.space % 2) + 2 ^ 24 * mcodeCauseCode cause + 2 ^ 31
  let fault := if s.cpb.mcodeFault.getLsbD 31 then s.cpb.mcodeFault else BitVec.ofNat 32 word
  let s : State := { s with cpb := { s.cpb with mcodeFault := fault } }
  (s.modDme d fun m => { m with stopped := true }).faultDevice 0 Code.microcodeFault (unitDme d) word

/-- Whether a DME executes words: HCLK runs from the boot load on (R437). -/
def State.dmeAlive (s : State) (d : Nat) : Bool :=
  s.awake && s.power.hclk && (match s.dmes[d]? with | some m => !m.stopped | none => false)

/-- MICROCODE_FAULT (R423). -/
def execMicrocodeFault (dme : Nat) (cause : McodeCause) (space address : Nat) (s : State) : Host.Outcome State Fault Refusal :=
  if s.dmeAlive dme then done s (s.stopDme dme cause ⟨space % 2, address % 2 ^ 15⟩) else skip s

/-! ## Sequencing -/

/-- NEXT with its space (R421). -/
def wordNext (w : Nat) : McodeAddr := ⟨bits w 15 15, bits w 14 0⟩
/-- BMODE (R421). -/
def wordMode (w : Nat) : Nat := bits w 21 20
/-- CALL (R421). -/
def wordCall (w : Nat) : Bool := bit w 22
/-- SAFE (R421). -/
def wordSafe (w : Nat) : Bool := bit w 23
/-- Whether a word returns to the resume register (R422). -/
def wordResumes (w : Nat) : Bool := !wordCall w && wordMode w == 3 && bits w 19 16 == 0xF

/-- The next address that a word forms, with the return stack after it; or the cause of a fault (R422, R423). `sel` is the
condition or value that COND selects. -/
def Dme.form (m : Dme) (w sel : Nat) : Except McodeCause (McodeAddr × List McodeAddr) :=
  let next := wordNext w
  if next.space = 1 ∧ bits w 14 11 ≠ 0 then .error .form
  else if wordCall w then
    if wordMode w ≠ 0 then .error .form
    else if 4 ≤ m.stack.length then .error .stack
    else .ok (⟨bits w 79 79, bits w 78 64⟩, next :: m.stack)
  else match wordMode w with
    | 0 => .ok (next, m.stack)
    | 1 => .ok (⟨next.space, next.addr / 2 * 2 + sel % 2⟩, m.stack)
    | 2 => .ok (⟨next.space, next.addr / 16 * 16 + sel % 16⟩, m.stack)
    | _ =>
      if wordResumes w then .ok (m.resume, m.stack)
      else match m.stack with
        | a :: r => .ok (a, r)
        | [] => .error .stack

/-- The word that an address fetches: a Copybook address that a VALID match register holds gives its Margin word, of the
lowest-numbered such register (R427). -/
def Cpb.fetchFrom (c : Cpb) (a : McodeAddr) : McodeAddr :=
  if a.space ≠ 0 then a
  else match c.matchRegs.find? fun e => e.2.copybook == a.addr with
    | some e => ⟨1, e.2.margin⟩
    | none => a

/-- The content of the word fetched: a Margin word as the patch wrote it, or the Copybook's (R418, R428; log 31). -/
def Cpb.content (c : Cpb) (a : McodeAddr) : Nat :=
  if a.space = 1 then (tgetD c.margin a.addr 0).toNat else (Config.copybook (a.addr % 2 ^ 15)).toNat

/-- How many bits of a word are set. -/
def bitsSet (w : BitVec 192) : Nat := (List.range 192).countP w.getLsbD

/-- Whether an event is latched (R424). -/
def Dme.latched (m : Dme) : Bool := m.freeze || m.kill || m.stopCount || m.wake

/-- The pending event of the highest order is served (R426). -/
def Dme.serve (m : Dme) : Dme :=
  if m.freeze then { m with freeze := false }
  else if m.kill then { m with kill := false }
  else if m.stopCount then { m with stopCount := false }
  else { m with wake := false }

/-- A word executed without a fault forms the address `a` (R424 to R426). -/
def State.dmeWord (s : State) (d : Nat) (m : Dme) (w : Nat) (here a : McodeAddr) (stack : List McodeAddr) : State :=
  let m := { m with stack := stack, inHandler := m.inHandler && !wordResumes w, next := s.cpb.fetchFrom a }
  if wordSafe w then
    if m.latched then
      if m.inHandler then s.stopDme d .form here
      else s.modDme d fun _ =>
        { m.serve with resume := a, inHandler := true, sinceSafe := 0, next := s.cpb.fetchFrom ⟨0, 0⟩ }
    else s.modDme d fun _ => { m with sinceSafe := 0 }
  else if 256 ≤ m.sinceSafe + 1 then s.stopDme d .safe here
  else s.modDme d fun _ => { m with sinceSafe := m.sinceSafe + 1 }

/-- A single-bit error of a fetched word is corrected and counted (R423, R440). -/
def State.countEcc (s : State) (upset : BitVec 192) : State :=
  if bitsSet upset = 1 then { s with cpb := { s.cpb with eccCorrected := sat32 s.cpb.eccCorrected 1 } } else s

/-- DME_EVENT_SERVICE (R419, R422 to R427): the DME executes the word it has fetched, of which `upset` names the bits that its store
gave wrong: one is corrected, more are uncorrectable (log 31). At a word with SAFE set and an event latched, it enters the event
vector and serves the event of the highest order. -/
def execDmeEventService (dme : Nat) (upset : BitVec 192) (sel : Nat) (s : State) : Host.Outcome State Fault Refusal :=
  match s.dmes[dme]? with
  | none => skip s
  | some m =>
    if s.dmeAlive dme then
      if 2 ≤ bitsSet upset then done s (s.stopDme dme .ecc m.next)
      else
        let t := s.countEcc upset
        let w := s.cpb.content m.next
        match m.form w sel with
        | .error cause => done s (t.stopDme dme cause m.next)
        | .ok (a, stack) => done s (t.dmeWord dme m w m.next a stack)
    else skip s

end Sys2Proof.Machine
end

