-- ==== Sys2Proof/Machine/Partitions.lean ====
section
/-! DEFINITION. Partitions and bandwidth guarantees (R130 to R132, R156 to R162, R515). -/

namespace Sys2Proof.Machine

open Sys2Proof

/-! ## Nib masks and rates -/

/-- The Nibs of a 32-byte mask (R130, R450). -/
def maskNibs (b : List Byte) : List Nat := (List.range 256).filter fun n => bit (b.getD (n / 8) 0).toNat (n % 8)

/-- A 32-byte mask of Nibs. -/
def nibMask (nibs : List Nat) : List Byte :=
  (List.range 32).map fun i => BitVec.ofNat 8 (total ((List.range 8).map fun j => if nibs.contains (8 * i + j) then 2 ^ j else 0))

/-- The effective guarantee of a configured one (R162). -/
def State.effectiveOf (s : State) (g : Nat) : Nat :=
  match s.feed.dNow with
  | some n => if n < s.live.deliverable then g * n / s.live.deliverable else g
  | none => g

/-- The rates on the Allowance Port follow the effective guarantees (R515). -/
def State.sendRates (s : State) : State :=
  let rates := s.parts.filterMap fun e =>
    let r := e.2.effective * s.live.deliverable / 1024
    if r = 0 then none else some (e.1, r)
  { s with feed := { s.feed with rates := rates } }

/-- Every partition's effective guarantee set anew (R162). -/
def State.rescale (s : State) : State :=
  State.sendRates { s with parts := tmap s.parts fun _ x => { x with effective := s.effectiveOf x.bandwidth } }

/-- D_NOW_REPORT (R162): a record is written while D_now is below D, and when it returns. -/
def execDNowReport (gbs : Nat) (s : State) : Host.Outcome State Fault Refusal :=
  if s.awake then
    let t : State := { s with feed := { s.feed with dNow := some (gbs % 2 ^ 20) } }
    if s.live.sealed ∧ s.primary then
      let u := t.rescale
      let below : Bool := decide (gbs % 2 ^ 20 < s.live.deliverable)
      let changed := u.parts != s.parts
      let scaled := u.parts.countP fun e => e.2.effective != e.2.bandwidth
      done s (if below || changed then
        u.blot 0 0x05 unitFm (s.live.deliverable + 2 ^ 32 * (gbs % 2 ^ 20) + 2 ^ 64 * scaled) else u)
    else done s t
  else skip s

/-! ## Partitions -/

/-- A partition as it comes into being (R156, R365, R387, R389). -/
def State.newPart (s : State) (nibs : List Nat) (power bandwidth : Nat) : Part :=
  { nibs := nibs, power := power, bandwidth := bandwidth, effective := s.effectiveOf bandwidth, hold := false,
    target := match s.live.limits with | some l => l.bootLevel | none => 0,
    lent := 0, borrowed := 0, waitingSince := none, intervals := [], buckets := [], bucketAcc := [], estimate := 0,
    bare := 0, reclaimed := false,
    purl := none, hint := none, pace := [], reasonNs := List.replicate 8 0, maskSince := [(0, 0)], energyUj := 0,
    energyRem := 0, purlUj := 0, purlRem := 0 }

/-- The requested Nibs of a PART_CREATE (R130). -/
def Prog.nibs (p : Prog) : List Nat := maskNibs (slice p.request 0x30 32)

/-- Argument checks of PART_CREATE (R130, R131). -/
def partChecks (p : Prog) : List Check :=
  [ (0x20, bits (p.arg 0x20) 31 6 == 0, Code.reservedSet)
  , (0x24, decide (p.arg 0x24 ≤ 256) && (p.nibs.isEmpty || decide (p.arg 0x24 ≤ p.nibs.length)), Code.badValue)
  , within 0x28 (p.arg 0x28) 1 256
  , within 0x2C (p.arg 0x2C) 0 1024
  , (0x30, !p.nibs.isEmpty, Code.badValue) ]

/-- Whether a Nib is free for a partition: present, used, and in no partition (R131, R454). -/
def State.nibFree (s : State) (n : Nat) : Bool :=
  (match s.nibs[n]? with | some b => b.present | none => false) && s.live.useNibs.contains n && (s.partOfNib n).isNone

/-- The Nibs granted to a request of a mask with an elastic minimum, or the shortfall (R131). -/
def State.grantNibs (s : State) (want : List Nat) (least_ : Nat) : Except Nat (List Nat) :=
  let free := want.filter s.nibFree
  if free.length = want.length then .ok want
  else if least_ = 0 then .error (want.length - free.length)
  else if least_ ≤ free.length then .ok (free.take least_)
  else .error (least_ - free.length)

/-- Results of PART_CREATE and PART_QUERY (R130, R132); `word` is what stands at +0x14. -/
def partResults (nibs : List Nat) (word : Nat) : List Byte := leBytes 4 nibs.length ++ leBytes 4 word ++ nibMask nibs

/-- The sum of the power fractions. -/
def State.powerSum (s : State) : Nat := total (s.parts.map fun e => e.2.power)

/-- The sum of the configured guarantees (R161). -/
def State.bandwidthSum (s : State) : Nat := total (s.parts.map fun e => e.2.bandwidth)

/-- PART_CREATE (R131, R161). -/
def execPartCreate (id : Nat) (s : State) : Host.Outcome State Fault Refusal :=
  s.henpen id 0x0501 partChecks fun p =>
    let q := p.arg 0x20
    if (tget s.parts q).isSome then .fail Code.partitionBusy q
    else match s.grantNibs p.nibs (p.arg 0x24) with
      | .error short => .fail Code.noPartition short
      | .ok nibs =>
        let power := s.powerSum + p.arg 0x28
        let band := s.bandwidthSum + p.arg 0x2C
        if 256 < power then .fail Code.noPowerShare (power - 256)
        else if 1024 < band then .fail Code.noBandwidth (band - 1024)
        else
          let t : State := { s with parts := tset s.parts q (s.newPart nibs (p.arg 0x28) (p.arg 0x2C)) }
          .ok t.sendRates.stepRails (partResults nibs 0)

/-- Whether a context that is not FREE names a partition (R132). -/
def State.partNamed (s : State) (q : Nat) : Bool := s.ctxs.any fun e => e.2.state != .free && e.2.partition == some q

/-- A partition ID argument that holds a partition (R132). -/
def State.partCheck (s : State) (p : Prog) : Check := (0x20, (tget s.parts (p.arg 0x20)).isSome, Code.badValue)

/-- PART_DESTROY (R132). -/
def execPartDestroy (id : Nat) (s : State) : Host.Outcome State Fault Refusal :=
  s.henpen id 0x0502 (fun p => s.partCheck p :: oneArg p) fun p =>
    let q := p.arg 0x20
    if s.partNamed q then .fail Code.partitionBusy q
    else .ok (State.sendRates { s with parts := tdel s.parts q }).stepRails []

/-- PART_QUERY (R132). -/
def execPartQuery (id : Nat) (s : State) : Host.Outcome State Fault Refusal :=
  s.henpen id 0x0503 (fun p => s.partCheck p :: oneArg p) fun p =>
    match tget s.parts (p.arg 0x20) with
    | some x => .ok s (partResults x.nibs (x.power + 65536 * x.effective))
    | none => .wait

end Sys2Proof.Machine
end

