-- ==== Sys2Proof/Machine/Verifier.lean ====
section
/-! DEFINITION. Muand descriptors: their fields (R233 to R252) and the verifier (R255 to R259). A check of a code is a field's
offset in the descriptor and whether the field passes. -/

namespace Sys2Proof.Machine

open Sys2Proof

/-! ## Fields -/

/-- A stream record (R241). -/
def muStream (d : List Byte) (x : Nat) : Stream :=
  { role := le d x 1
    format := le d (x + 1) 1
    scaleKind := le d (x + 2) 1
    scaleOf := le d (x + 3) 1 % 8
    baseReg := le d (x + 4) 1 % 16
    klevels := le d (x + 5) 1 % 64
    tileK := le d (x + 6) 2
    baseOffset := signed 64 (le d (x + 8) 8)
    span := le d (x + 0x10) 4
    strides := (List.range 6).map fun l => signed 48 (le d (x + 0x18 + 6 * l) 6) }

/-- A slot entry (R247). -/
def muSlot (d : List Byte) (x : Nat) : PaySlot :=
  let e := le d x 2
  { source := bits e 9 0, position := bits e 12 10, kind := bits e 14 13 }

/-- A template record (R246). -/
def muTemplate (d : List Byte) (x : Nat) : Template :=
  { payload := slice d x 40
    slots := ((List.range 4).map fun j => muSlot d (x + 0x28 + 2 * j)).filter fun p => p.kind != 0
    cls := le d (x + 0x30) 1 % 16
    eq := le d (x + 0x31) 1 % 32
    activity := le d (x + 0x32) 1 % 64
    level := le d (x + 0x33) 1 % 8
    exit := bit (le d (x + 0x33) 1) 3
    deps := [le d (x + 0x34) 1, le d (x + 0x35) 1].filterMap fun e => if bit e 7 then some (e % 64) else none
    duration := le d (x + 0x38) 4 }

/-- A scalar operation (R251). -/
def muOp (d : List Byte) (x : Nat) : ScalarOp :=
  let w := le d x 4
  { op := bits w 7 0, dst := bits w 11 8, a := bits w 15 12, b := bits w 19 16, imm := signed 32 (le d (x + 4) 4) }

/-- A level, or none (R236). -/
def muLevel (v : Nat) : Option Nat := if v = 0xFF then none else some v

/-- Offset of stream record `i` of the section at `o` (R237). -/
def muStreamAt (o i : Nat) : Nat := o + 64 + 64 * i
/-- Offset of template record `i` (R237). -/
def muTemplateAt (d : List Byte) (o i : Nat) : Nat := o + 64 + 64 * (le d (o + 8) 1 + i)
/-- Offset of operation `i` (R237). -/
def muOpAt (d : List Byte) (o i : Nat) : Nat := o + 64 + 64 * (le d (o + 8) 1 + le d (o + 9) 1) + 8 * i

/-- A variant section (R236, R237). -/
def muVariant (d : List Byte) (o : Nat) : Variant :=
  { targetNibs := le d (o + 4) 2
    cores := le d (o + 6) 1
    depth := le d (o + 7) 1
    dmemBytes := le d (o + 0xC) 2
    lookahead := le d (o + 0xE) 1
    perEntry := bit (le d (o + 0xF) 1) 7
    trigLevel := le d (o + 0xF) 1 % 8
    counts := (List.range 6).map fun l => le d (o + 0x10 + 4 * l) 4
    nibLevel := muLevel (le d (o + 0x28) 1)
    coreLevel := muLevel (le d (o + 0x29) 1)
    streams := (List.range (le d (o + 8) 1)).map fun i => muStream d (muStreamAt o i)
    templates := (List.range (le d (o + 9) 1)).map fun i => muTemplate d (muTemplateAt d o i)
    ops := (List.range (le d (o + 0xA) 2)).map fun i => muOp d (muOpAt d o i) }

/-- VSIZE as R237 gives it. -/
def muSize (d : List Byte) (o : Nat) : Nat :=
  64 + 64 * (le d (o + 8) 1 + le d (o + 9) 1) + 64 * ((le d (o + 0xA) 2 + 7) / 8)

/-! ## Checks -/

/-- The checks of one code. -/
abbrev CodeChecks := W16 × List (Nat × Bool)

/-- The first code with a failing check, and the lowest offset that fails it (R256). -/
def firstCode (l : List CodeChecks) : Option (W16 × Nat) :=
  l.findSome? fun g => ((g.2.filter fun c => !c.2).map Prod.fst).min?.map fun off => (g.1, off)

/-- A reserved field of `n` bytes. -/
def muReserved (d : List Byte) (x n : Nat) : Nat × Bool := (x, zeros (slice d x n))

/-- Reserved bits of a one-byte field, all those from bit `b` on. -/
def muHigh (d : List Byte) (x b : Nat) : Nat × Bool := (x, decide (le d x 1 < 2 ^ b))

/-- The header and the parameter bound table (R234, R235, R256). -/
def headerChecks (d : List Byte) (dataLen : Nat) : List CodeChecks :=
  let len := le d 4 4
  let n := le d 8 1
  let used := le d 0xE 2
  let isSigned := le d 0x1C 2
  let cmin := le d 0xC 2
  let bound (i : Nat) : List (Nat × Bool) :=
    let x := 0x40 + 16 * i
    let lo := le d x 8
    let hi := le d (x + 8) 8
    if bit used i then [(x, if bit isSigned i then decide (signed 64 lo ≤ signed 64 hi) else decide (lo ≤ hi))]
    else [(x, lo == 0), (x + 8, hi == 0)]
  [ (Code.muandVersion, [(0, le d 0 2 == 0x0200)])
  , (Code.descLength, [(4, len == dataLen && len % 64 == 0 && decide (512 ≤ len) && decide (len ≤ 65536))])
  , (Code.variantCount, (8, decide (1 ≤ n) && decide (n ≤ 3)) ::
      (List.range 3).map fun i => (0x10 + 4 * i, decide (i < n) || le d (0x10 + 4 * i) 4 == 0))
  , (Code.descReserved, [muReserved d 2 2, muReserved d 9 3, muReserved d 0x1E 34])
  , (Code.constMin, [(0xC, cmin % 64 == 0 && decide (cmin ≤ 4096))])
  , (Code.paramBounds, (List.range 16).flatMap bound) ]

/-- Reserved fields of a stream record (R241). -/
def streamReserved (d : List Byte) (x : Nat) : List (Nat × Bool) :=
  [muHigh d (x + 3) 3, muHigh d (x + 4) 4, muHigh d (x + 5) 6, muReserved d (x + 0x14) 4, muReserved d (x + 0x3C) 4]

/-- Reserved fields of a template record (R246, R247). -/
def templateReserved (d : List Byte) (x : Nat) : List (Nat × Bool) :=
  ((List.range 4).map fun j => (x + 0x28 + 2 * j, decide (le d (x + 0x28 + 2 * j) 2 < 32768))) ++
  [ muHigh d (x + 0x30) 4, muHigh d (x + 0x31) 5, muHigh d (x + 0x32) 6, muHigh d (x + 0x33) 4
  , (x + 0x34, !bit (le d (x + 0x34) 1) 6), (x + 0x35, !bit (le d (x + 0x35) 1) 6)
  , muReserved d (x + 0x36) 2, muReserved d (x + 0x3C) 4 ]

/-- Reserved fields and padding of a section (R236, R237, R241, R246, R251). -/
def sectionReserved (d : List Byte) (o : Nat) : List (Nat × Bool) :=
  let nops := le d (o + 0xA) 2
  let last := muOpAt d o nops
  [(o + 0xF, bits (le d (o + 0xF) 1) 6 3 == 0), muReserved d (o + 0x2A) 22] ++
  ((List.range (le d (o + 8) 1)).flatMap fun i => streamReserved d (muStreamAt o i)) ++
  ((List.range (le d (o + 9) 1)).flatMap fun i => templateReserved d (muTemplateAt d o i)) ++
  ((List.range nops).map fun i => (muOpAt d o i + 2, bits (le d (muOpAt d o i) 4) 31 20 == 0)) ++
  ((List.range (o + muSize d o - last)).map fun i => muReserved d (last + i) 1)

/-- The parts into which a level is split (R239). -/
def Variant.parts (v : Variant) (l : Nat) : Nat :=
  (if v.nibLevel = some l then v.targetNibs else 1) * (if v.coreLevel = some l then v.cores else 1)

/-- Points of a Stitcher's walk over levels 0 to l (R240). -/
def Variant.walk (v : Variant) (l : Nat) : Nat :=
  (List.range (l + 1)).foldl (fun n m => n * (v.counts.getD m 0 / v.parts m)) 1

/-- The lowest and the highest address of a stream over a base of 0, and one past (R258). -/
def Variant.extent (v : Variant) (x : Stream) : Int × Int :=
  (List.range v.depth).foldl (fun p l =>
    let step := x.strides.getD l 0 * ((v.counts.getD l 0 : Int) - 1)
    if step < 0 then (p.1 + step, p.2) else (p.1, p.2 + step)) (x.baseOffset, x.baseOffset + x.span)

/-- Bits of an element of a FORMAT; none for an unlisted code (R243). -/
def formatBits : Nat → Option Nat
  | 0x00 => some 32 | 0x01 => some 16 | 0x02 => some 16 | 0x03 => some 8 | 0x04 => some 8 | 0x05 => some 6
  | 0x06 => some 6 | 0x07 => some 4 | 0x08 => some 8 | 0x09 => some 4 | 0x0F => some 8 | _ => none

/-- Whether a kind is listed and admits a data FORMAT (R244). -/
def kindAdmits (kind format : Nat) : Bool :=
  match kind with
  | 0 => format != 0x0F
  | 1 => [3, 4, 5, 6, 7, 8].contains format
  | 2 => [3, 4, 5, 6, 7, 8].contains format
  | 3 => [3, 7, 8, 9].contains format
  | 4 => [3, 7, 8, 9].contains format
  | _ => false

/-- Block of a kind; none for a row kind (R244). -/
def kindBlock : Nat → Option Nat
  | 1 => some 16 | 2 => some 32 | _ => none

/-- FORMAT of a kind's SCALE stream (R244). -/
def kindScale : Nat → Nat
  | 3 => 0x00 | 4 => 0x01 | _ => 0x0F

/-- Whether a stream carries data under a scale kind. -/
def Stream.scaled (x : Stream) : Bool := x.role != 2 && x.scaleKind != 0

/-- The SCALE streams that name a data stream. -/
def Variant.scalesOf (v : Variant) (i : Nat) : List Nat :=
  (List.range v.streams.length).filter fun j => match v.streams[j]? with | some y => y.role == 2 && y.scaleOf == i | none => false

/-- SCALE_PAIRING of one stream at `x` (R245, R257). -/
def Variant.pairing (v : Variant) (x i : Nat) (st : Stream) : List (Nat × Bool) :=
  if st.role = 2 then
    match v.streams[st.scaleOf]? with
    | some y =>
      if y.scaled then
        [ (x + 1, st.format == kindScale y.scaleKind), (x + 2, st.scaleKind == y.scaleKind)
        , (x + 3, (v.scalesOf st.scaleOf).head? == some i) ]
      else [(x + 3, false)]
    | none => [(x + 3, false)]
  else [(x + 2, !st.scaled || !(v.scalesOf i).isEmpty), (x + 3, st.scaleOf == 0)]

/-- SCALE_LOCKSTEP of a data stream `st` at `x` and its SCALE stream at `y` (R245). -/
def Variant.lockstep (v : Variant) (x : Nat) (st : Stream) (y : Nat) (sc : Stream) : List (Nat × Bool) :=
  let levels := (List.range v.depth).filter fun l => bit st.klevels l
  [ (x + 5, st.klevels != 0 && decide (st.klevels < 2 ^ v.depth))
  , (x + 6, match kindBlock st.scaleKind with | some b => st.tileK != 0 && st.tileK % b == 0 | none => st.tileK == 0) ] ++
  levels.flatMap fun l =>
    let n : Int := st.strides.getD l 0 * 8
    let w : Int := ((formatBits st.format).getD 8 : Nat)
    let e : Int := n / w
    let t : Int := sc.strides.getD l 0
    match kindBlock st.scaleKind with
    | some b =>
      let whole : Bool := n % w == 0 && e != 0 && e % (b : Int) == 0
      [(x + 0x18 + 6 * l, whole), (y + 0x18 + 6 * l, !whole || t == e / (b : Int))]
    | none => [(y + 0x18 + 6 * l, t == 0)]

/-- SCALE_LOCKSTEP over a section; TILE_K is 0 in an unscaled or SCALE stream (R241). -/
def Variant.locksteps (v : Variant) (o : Nat) : List (Nat × Bool) :=
  v.streams.zipIdx.flatMap fun p =>
    let x := muStreamAt o p.2
    if p.1.scaled then
      match (v.scalesOf p.2).head? with
      | some j => match v.streams[j]? with | some sc => v.lockstep x p.1 (muStreamAt o j) sc | none => []
      | none => []
    else [(x + 6, p.1.tileK == 0)]

/-- SLOT_POSITION of a template at `x` (R247). -/
def slotChecks (d : List Byte) (v : Variant) (x : Nat) : List (Nat × Bool) :=
  (List.range 4).map fun j =>
    let at_ := x + 0x28 + 2 * j
    let p := muSlot d at_
    let earlier := (List.range j).any fun k =>
      let q := muSlot d (x + 0x28 + 2 * k)
      q.kind != 0 && q.position == p.position
    (at_, if p.kind = 0 then le d at_ 2 == 0
      else p.kind != 3 && decide (p.position ≤ 4) && !earlier &&
        decide (p.source < if p.kind = 1 then v.streams.length else v.dmemBytes / 8))

/-- TEMPLATE_DEPENDENCY of a template at `x` (R249, R257). -/
def depChecks (d : List Byte) (count x : Nat) : List (Nat × Bool) :=
  [0x34, 0x35].map fun f =>
    let e := le d (x + f) 1
    (x + f, if bit e 7 then decide (e % 64 < count) else e % 64 == 0)

/-- Which of DST, SRCA, SRCB and IMM an operation uses; none for an unlisted OP (R251). -/
def opUses (op : Nat) : Option (Bool × Bool × Bool × Bool) :=
  match op with
  | 0x00 => some (false, false, false, false)
  | 0x01 => some (true, false, false, true)
  | 0x02 => some (true, true, true, false)
  | 0x03 => some (true, true, true, false)
  | 0x04 => some (true, true, true, false)
  | 0x05 => some (true, true, true, false)
  | 0x06 => some (true, true, true, false)
  | 0x07 => some (true, true, true, false)
  | 0x08 => some (true, true, true, false)
  | 0x09 => some (true, true, true, false)
  | 0x0A => some (true, true, true, false)
  | 0x0B => some (true, true, false, true)
  | 0x0C => some (true, true, true, false)
  | 0x0D => some (true, true, true, false)
  | 0x10 => some (true, true, false, false)
  | 0x11 => some (true, false, false, true)
  | 0x18 => some (true, false, false, true)
  | 0x19 => some (false, true, false, true)
  | 0x20 => some (false, true, false, true)
  | 0x21 => some (false, true, false, true)
  | _ => none

/-- SCALAR_ENCODING of an operation at `x` (R251, R257). -/
def ScalarOp.encodes (o : ScalarOp) (depth x : Nat) : List (Nat × Bool) :=
  match opUses o.op with
  | none => [(x, false)]
  | some (dst, a, b, imm) =>
    [ (x + 1, (dst || o.dst == 0) && (a || o.a == 0)), (x + 2, b || o.b == 0)
    , (x + 4, (imm || o.imm == 0) &&
        (o.op != 0x11 || decide (0 ≤ o.imm) && decide (o.imm ≤ 7) && (decide (6 ≤ o.imm) || decide (o.imm < depth)))) ]

/-- SCALAR_TRIGGER as R252 requires. -/
def Variant.triggerOk (v : Variant) : Bool :=
  if v.ops.isEmpty then !v.perEntry && v.trigLevel == 0
  else if v.perEntry then decide (v.trigLevel < v.depth) else v.trigLevel == 0

/-- A value in a range. -/
def inRange (v lo hi : Nat) : Bool := decide (lo ≤ v) && decide (v ≤ hi)

/-- A split level in its range (R239, R257). -/
def Variant.levelOk (v : Variant) (level : Option Nat) (count : Nat) : Bool :=
  match level with | some l => decide (l < v.depth) | none => count == 1

/-- The structural checks of the section at `o` but DESC_LENGTH, in ascending code (R257). -/
def sectionChecks (d : List Byte) (o : Nat) : List CodeChecks :=
  let v := muVariant d o
  let used := le d 0xE 2
  let isSigned := le d 0x1C 2
  let count (l : Nat) : Nat := v.counts.getD l 0
  let streams (f : Nat → Stream → List (Nat × Bool)) : List (Nat × Bool) :=
    v.streams.zipIdx.flatMap fun p => f (muStreamAt o p.2) p.1
  let templates (f : Nat → Template → List (Nat × Bool)) : List (Nat × Bool) :=
    v.templates.zipIdx.flatMap fun p => f (muTemplateAt d o p.2) p.1
  let ops (f : Nat → Nat → ScalarOp → List (Nat × Bool)) : List (Nat × Bool) :=
    v.ops.zipIdx.flatMap fun p => f (muOpAt d o p.2) p.2 p.1
  [ (Code.descReserved, sectionReserved d o)
  , (Code.loopDepth, [(o + 7, inRange v.depth 1 6)])
  , (Code.loopCount, (List.range 6).map fun l => (o + 0x10 + 4 * l, (count l != 0) == decide (l < v.depth)))
  , (Code.distribution,
      [ (o + 4, inRange v.targetNibs 1 256), (o + 6, inRange v.cores 1 16)
      , (o + 0x28, v.levelOk v.nibLevel v.targetNibs), (o + 0x29, v.levelOk v.coreLevel v.cores) ] ++
      (List.range v.depth).map fun l => (o + 0x10 + 4 * l, count l % v.parts l == 0))
  , (Code.iterationRange, (List.range v.depth).map fun l => (o + 0x10 + 4 * l, decide (v.walk l ≤ 2 ^ 48)))
  , (Code.streamCount, [(o + 8, inRange v.streams.length 1 8), (o + 0xE, inRange v.lookahead 1 64)])
  , (Code.streamRole, streams fun x st =>
      [(x, decide (st.role ≤ 2)), (x + 4, bit used st.baseReg && !bit isSigned st.baseReg)])
  , (Code.strideRange, streams fun x st =>
      [(x + 8, decide (-(2 ^ 47) ≤ st.baseOffset) && decide (st.baseOffset < 2 ^ 47)), (x + 0x10, inRange st.span 1 16777216)] ++
      (List.range 6).map fun l => (x + 0x18 + 6 * l, decide (l < v.depth) || st.strides.getD l 0 == 0))
  , (Code.extent, streams fun x st =>
      let e := v.extent st
      let lo : Int := (le d (0x40 + 16 * st.baseReg) 8 : Nat)
      let hi : Int := (le d (0x48 + 16 * st.baseReg) 8 : Nat)
      [(x + 8, decide (0 ≤ lo + e.1) && decide (hi + e.2 ≤ 2 ^ 57))])
  , (Code.format, streams fun x st => [(x + 1, (formatBits st.format).isSome && (st.format != 0x0F || st.role == 2))])
  , (Code.scaleKind, streams fun x st =>
      [(x + 2, decide (st.scaleKind ≤ 4) && (st.role == 2 || kindAdmits st.scaleKind st.format))])
  , (Code.scalePairing, v.streams.zipIdx.flatMap fun p => v.pairing (muStreamAt o p.2) p.2 p.1)
  , (Code.scaleLockstep, v.locksteps o)
  , (Code.templateCount, [(o + 9, inRange v.templates.length 1 64)])
  , (Code.slotPosition, templates fun x _ => slotChecks d v x)
  , (Code.templateTrigger, templates fun x t => [(x + 0x33, decide (t.level < v.depth))])
  , (Code.templateDependency, templates fun x _ => depChecks d v.templates.length x)
  , (Code.templateField, templates fun x t =>
      [(x + 0x30, t.cls != 7), (x + 0x31, decide (t.eq ≤ 23)), (x + 0x38, inRange t.duration 1 16777215)])
  , (Code.scalarEncoding,
      [(o + 0xA, decide (v.ops.length ≤ 1024)), (o + 0xF, v.triggerOk)] ++ ops fun x _ op => op.encodes v.depth x)
  , (Code.scalarBranch, ops fun x pc op =>
      [(x + 4, !(op.op == 0x20 || op.op == 0x21) || decide (1 ≤ op.imm) && decide (op.imm ≤ ((v.ops.length - pc : Nat) : Int)))])
  , (Code.scalarDmem, (o + 0xC, v.dmemBytes % 8 == 0) :: ops fun x _ op =>
      [(x + 4, !(op.op == 0x18 || op.op == 0x19) || decide (0 ≤ op.imm) && decide (op.imm < ((v.dmemBytes / 8 : Nat) : Int)))]) ]

/-- DESC_LENGTH of section `i` at its expected offset (R256): its VARIANT_OFF and its VSIZE, then LENGTH after the last one.
A section that is not the last lies inside LENGTH. -/
def sectionLength (d : List Byte) (i expect : Nat) : Option (W16 × Nat) :=
  let o := le d (0x10 + 4 * i) 4
  let size := le d o 4
  let len := le d 4 4
  let last : Bool := i + 1 == le d 8 1
  if o ≠ expect then some (Code.descLength, 0x10 + 4 * i)
  else if size ≠ muSize d o ∨ (¬last ∧ len < o + size) then some (Code.descLength, o)
  else if last ∧ len ≠ o + size then some (Code.descLength, 4)
  else none

/-- The structural checks of the sections from `i` on (R256). -/
def checkSections (d : List Byte) : Nat → Nat → Nat → Option (W16 × Nat)
  | 0, _, _ => none
  | fuel + 1, i, expect =>
    match sectionLength d i expect with
    | some f => some f
    | none =>
      match firstCode (sectionChecks d expect) with
      | some f => some f
      | none => checkSections d fuel (i + 1) (expect + le d expect 4)

/-! ## The fit to the Nibs (R254, R255) -/

/-- Bytes of the translated form (R254). -/
def Variant.formSize (v : Variant) : Nat := 128 + 48 * v.streams.length + 64 * v.templates.length + 8 * v.ops.length

/-- The engine queue classes of every core of the candidate Nibs (R255). -/
def floorCores (nibs : List Nib) : List (List Nat) := nibs.flatMap fun b => b.ports.map Prod.snd

/-- The smallest of some counts; 0 of none. -/
def least (l : List Nat) : Nat := l.min?.getD 0

/-- The resource checks in ascending code, each with its shortfall (R257, R259). -/
def Variant.fit (v : Variant) (nibs : List Nib) : List (W16 × Nat) :=
  let cores := floorCores nibs
  let top := v.templates.foldl (fun m t => max m t.eq) 0
  [ (Code.fitNibs, v.targetNibs - nibs.length)
  , (Code.fitCores, v.cores - least (nibs.map fun b => b.ports.length))
  , (Code.fitQueues, top + 1 - least (cores.map List.length))
  , (Code.fitEngineClass, v.templates.countP fun t => cores.any fun qs => qs[t.eq]? != some t.cls)
  , (Code.fitDmem, v.dmemBytes - 8192)
  , (Code.fitState, v.formSize - 8192)
  , (Code.fitTranslation, v.lookahead * v.streams.length * v.cores - 1024) ]

/-- The first resource check that a variant fails. -/
def Variant.unfit (v : Variant) (nibs : List Nib) : Option (W16 × Nat) := (v.fit nibs).find? fun c => c.2 != 0

/-- The variants of a descriptor whose structure is sound. -/
def muVariants (d : List Byte) : List Variant := (List.range (le d 8 1)).map fun i => muVariant d (le d (0x10 + 4 * i) 4)

/-- The verifier (R256): the chosen variant with its number, or the code and DETAIL of the failure. -/
def verify (d : List Byte) (dataLen : Nat) (nibs : List Nib) : Except (W16 × Nat) (Nat × Variant) :=
  match firstCode (headerChecks d dataLen) with
  | some f => .error f
  | none =>
    match checkSections d (le d 8 1) 0 0x140 with
    | some f => .error f
    | none =>
      match (muVariants d).zipIdx.find? fun p => (p.1.unfit nibs).isNone with
      | some p => .ok (p.2, p.1)
      | none =>
        match (muVariants d).head?.bind fun v => v.unfit nibs with
        | some f => .error f
        | none => .error (Code.variantCount, 8)

/-- The pattern of a verified descriptor (R234, R235, R254). -/
def muPattern (d : List Byte) (number : Nat) (v : Variant) (entry : Nat) (tag : W32) : Pattern :=
  { storeEntry := entry
    stateTag := tag
    constMin := le d 0xC 2
    paramUsed := BitVec.ofNat 16 (le d 0xE 2)
    paramSigned := BitVec.ofNat 16 (le d 0x1C 2)
    bounds := (List.range 16).map fun i => (le64 d (0x40 + 16 * i), le64 d (0x48 + 16 * i))
    variantNo := number
    body := v }

end Sys2Proof.Machine
end

