-- ==== Sys2Proof/Machine/Patterns.lean ====
section
/-! DEFINITION. Registration of patterns and groups (R128, R129, R253 to R255, R260). -/

namespace Sys2Proof.Machine

open Sys2Proof

/-- The candidate Nibs of a context (R255). -/
def State.candidates (s : State) (c : Ctx) : List Nib :=
  let here (n : Nat) : Option Nib := match s.nibs[n]? with | some b => if b.present then some b else none | none => none
  match c.partition with
  | some p => (match tget s.parts p with | some x => x.nibs.filterMap here | none => [])
  | none => s.nibs.filter Nib.present

/-- Whether a pattern index may be taken (R253). -/
def Ctx.indexOpen (c : Ctx) (i : Nat) : Bool :=
  match tget c.patterns i with
  | some x => x.content == .empty && decide (x.gen < 0xFFFF)
  | none => true

/-- The lowest pattern index that may be taken (R253). -/
def Ctx.openIndex (c : Ctx) : Option Nat := lowest (min 65536 (c.patterns.length + 1)) c.indexOpen

/-- A pattern index filled: its generation, the handle and the context after it (R253). -/
def Ctx.register (c : Ctx) (i : Nat) (content : PatContent) : W32 × Ctx :=
  let gen := (match tget c.patterns i with | some x => x.gen | none => 0) + 1
  (BitVec.ofNat 32 (65536 * gen + i), { c with patterns := tset c.patterns i ⟨gen, content⟩ })

/-- Pattern-store entries in use: of registered patterns and of tasks in flight (R254, R260). -/
def State.storeUsed (s : State) : List Nat :=
  (s.ctxs.flatMap fun e => e.2.patterns.filterMap fun x => match x.2.content with | .pattern p => some p.storeEntry | _ => none) ++
    s.tasks.map fun e => e.2.storeEntry

/-- A free entry of the pattern store. -/
def State.freeEntry (s : State) : Nat := (lowest (s.storeUsed.length + 1) fun i => !s.storeUsed.contains i).getD 0

/-- A verified pattern stored at an index of its context, and its translated form written to the pattern store (R253, R254,
R260). -/
def State.storePattern (s : State) (slot i : Nat) (c : Ctx) (d : List Byte) (number : Nat) (v : Variant) : State × W32 :=
  let entry := s.freeEntry
  let tag := s.mgmt.lastTag + 1
  let r := c.register i (.pattern (muPattern d number v entry tag))
  let form := padTo v.formSize (Config.patternForm v tag)
  (State.writePrivate { s with
      ctxs := tset s.ctxs slot r.2
      mgmt := { s.mgmt with store := tset s.mgmt.store entry (tag, v), lastTag := tag } }
    (s.mgmt.patternBase + BitVec.ofNat 64 (entry * 8192)) form, r.1)

/-- PATTERN_REGISTER (R128, R253 to R256). -/
def execPatternRegister (id : Nat) (s : State) : Host.Outcome State Fault Refusal :=
  s.henpen id 0x0401 (fun p => s.handleCheck p :: oneArg p) fun p =>
    s.busyOr p.handle fun slot c =>
      match verify p.bulk p.dataLen (s.candidates c) with
      | .error f => .fail f.1 f.2
      | .ok (number, v) =>
        match c.openIndex with
        | none => .fail Code.noPattern 1
        | some i =>
          let r := s.storePattern slot i c p.bulk number v
          .ok r.1 (leBytes 4 r.2.toNat ++ leBytes 4 number)

/-- Whether a handle names a live pattern of a context (R129). -/
def Ctx.holdsOne (c : Ctx) (h : W32) : Bool :=
  match tget c.patterns (bits h.toNat 15 0) with
  | some x => x.gen == bits h.toNat 31 16 && (match x.content with | .pattern _ => true | _ => false)
  | none => false

/-- Argument checks of PATTERN_GROUP_REGISTER (R129). An unused entry that is not 0 gives BAD_VALUE (log 132). -/
def State.groupChecks (s : State) (p : Prog) : List Check :=
  let n := p.arg 0x24
  let live (h : W32) : Bool := match s.ctxOf p.handle with | some (_, c) => c.holdsOne h | none => true
  [s.handleCheck p, within 0x24 n 1 32] ++
    (List.range 32).map fun i =>
      let h := le32 p.request (0x28 + 4 * i)
      if i < n then (0x28 + 4 * i, live h, Code.badHandle) else (0x28 + 4 * i, h == 0, Code.badValue)

/-- PATTERN_GROUP_REGISTER (R129). -/
def execPatternGroupRegister (id : Nat) (s : State) : Host.Outcome State Fault Refusal :=
  s.henpen id 0x0402 s.groupChecks fun p =>
    s.busyOr p.handle fun slot c =>
      match c.openIndex with
      | none => .fail Code.noPattern 1
      | some i =>
        let members := (List.range (p.arg 0x24)).map fun k => le32 p.request (0x28 + 4 * k)
        let r := c.register i (.group members)
        .ok { s with ctxs := tset s.ctxs slot r.2 } (leBytes 4 r.1.toNat ++ leBytes 4 0)

/-- PATTERN_UNREGISTER (R129, R253; log 29). -/
def execPatternUnregister (id : Nat) (s : State) : Host.Outcome State Fault Refusal :=
  s.henpen id 0x0403 (fun p => (0x20, (s.patternOwner p.handle).isSome, Code.badHandle) :: oneArg p) fun p =>
    match s.patternOwner p.handle with
    | none => .wait
    | some slot =>
      .ok (s.modCtx slot fun c =>
        { c with patterns := tmod c.patterns (bits p.handle.toNat 15 0) fun x => { x with content := .empty } }) []

end Sys2Proof.Machine
end

