-- ==== Sys2Proof/Machine/Power.lean ====
section
/-! DEFINITION. Clock and power states of the Hub (R461). -/

namespace Sys2Proof.Machine

open Sys2Proof

/-- HUB_DOZE_ENTRY (R461): idle for CFG_DOZE_US, or at all after a wake for a poll or an alignment round; 0 keeps the Hub
ACTIVE. -/
def execHubDozeEntry (s : State) : Host.Outcome State Fault Refusal :=
  let us := s.cfg.dozeUs.toNat
  if s.power.hub = .active ∧ us ≠ 0 ∧ s.hubIdle ∧ (s.power.brief ∨ s.power.since + 1000 * us ≤ s.now) then
    done s { s with power := { s.power with hub := .doze, since := s.now, brief := false } }
  else skip s

/-- HUB_SLEEP_ENTRY (R461): in DOZE for CFG_SLEEP_US, every Nib OFF and no watch slot in use; 0 keeps the Hub out of SLEEP. -/
def execHubSleepEntry (s : State) : Host.Outcome State Fault Refusal :=
  let us := s.cfg.sleepUs.toNat
  let off := s.nibs.all fun b => !b.present || b.power == .off
  if s.power.hub = .doze ∧ us ≠ 0 ∧ off ∧ s.sync.watches.isEmpty ∧ s.power.since + 1000 * us ≤ s.now then
    done s { s with power := { s.power with hub := .sleep, since := s.now } }
  else skip s

/-- Whether an alignment round has fallen due since a time: one each 1 ms (R39). -/
def State.roundDue (s : State) : Bool := decide (s.power.since / 1000000 < s.ductus.count / 1000000)

/-- Whether something wakes the Hub (R461); the halt wakes it by itself (R394). -/
def State.wakeCause (s : State) : Bool :=
  !s.bells.catcher.isEmpty || !s.htp.held.isEmpty || (s.sync.due s.aoNow).isSome || s.roundDue

/-- HUB_WAKE (R71, R461): the Hub is ACTIVE, and the accesses it held are served in order. -/
def execHubWake (s : State) : Host.Outcome State Fault Refusal :=
  if ¬s.awake ∧ s.wakeCause then
    let t : State := { s with
      power := { s.power with hub := .active, since := s.now, brief := s.bells.catcher.isEmpty && s.htp.held.isEmpty }
      htp := { s.htp with held := [] } }
    done s (s.htp.held.foldl State.hostAccess t).quiet
  else skip s

end Sys2Proof.Machine
end

