-- ==== Sys2Proof/Machine/Seal.lean ====
section
/-! DEFINITION. The configuration seal (R448 to R455): its checks, in their order, and its commit. -/

namespace Sys2Proof.Machine

open Sys2Proof

/-! ## The snapshot -/

/-- The bytes of a table of the snapshot. -/
def SealCheck.table (k : SealCheck) (t : Nat) : List Byte := match tget k.tables t with | some i => i.bytes | none => []

/-- The seal value of the snapshot (R451): CRC-32C of the six table CRCs. -/
def SealCheck.computed (k : SealCheck) : W32 :=
  crc32c ((List.range 6).flatMap fun i => match tget k.tables (i + 1) with | some t => leBytes 4 t.crc.toNat | none => [])

/-! ## NIB_MAP (R449, checks 3 and 4 of R452) -/

/-- The entry of a Nib. -/
def nibEntry (t : List Byte) (n : Nat) : Nat := le t (4 * n) 4

/-- USE of a Nib. -/
def nibUsed (t : List Byte) (n : Nat) : Bool := bit (nibEntry t n) 0

/-- DIE of a Nib. -/
def nibDie (t : List Byte) (n : Nat) : Nat := bits (nibEntry t n) 14 8

/-- A used entry's DIE and CORES against the report of a present Nib (R449). -/
def State.reportAgrees (s : State) (t : List Byte) (n : Nat) : Bool :=
  match s.nibs[n]? with
  | some b => !b.present || (nibDie t n == b.die && bits (nibEntry t n) 20 16 == b.ports.length)
  | none => false

/-- Whether an entry passes check 3; of the used Nibs of one die the ninth and later break it. -/
def State.nibEntryOk (s : State) (t : List Byte) (n : Nat) : Bool :=
  let e := nibEntry t n
  if nibUsed t n then
    bits e 7 1 == 0 && !bit e 15 && bits e 31 21 == 0 && decide (1 ≤ bits e 20 16) && decide (bits e 20 16 ≤ 16) &&
      s.reportAgrees t n &&
      decide ((List.range (n + 1)).countP (fun i => nibUsed t i && nibDie t i == nibDie t n) ≤ 8)
  else e == 0

/-- Whether an entry passes check 4. -/
def State.nibHere (s : State) (t : List Byte) (n : Nat) : Bool :=
  !nibUsed t n || match s.nibs[n]? with | some b => b.present | none => false

/-! ## PARTITIONS (R450, check 5 of R452) -/

/-- A partition as a table's entry gives it: Nibs, POWER, BANDWIDTH. -/
abbrev PartSpec := List Nat × Nat × Nat

/-- Entry `p` of PARTITIONS. -/
def partEntry (t : List Byte) (p : Nat) : List Byte := slice t (64 * p) 64

/-- Whether an entry is valid. -/
def partValid (t : List Byte) (p : Nat) : Bool := bit (le (partEntry t p) 0 1) 0

/-- What an entry says. -/
def partSpec (t : List Byte) (p : Nat) : PartSpec :=
  let e := partEntry t p
  (maskNibs (slice e 0x20 32), le e 2 2, le e 4 2)

/-- Whether an entry passes check 5: of two partitions with one Nib, the later breaks it. -/
def partEntryOk (nibMap t : List Byte) (p : Nat) : Bool :=
  let e := partEntry t p
  let x := partSpec t p
  if partValid t p then
    bits (le e 0 1) 7 1 == 0 && zeros (slice e 1 1) && zeros (slice e 6 26) && decide (1 ≤ x.2.1) && decide (x.2.1 ≤ 256) &&
      decide (x.2.2 ≤ 1024) && !x.1.isEmpty && x.1.all (nibUsed nibMap) &&
      !(List.range p).any fun q => partValid t q && (partSpec t q).1.any x.1.contains
  else zeros e

/-- The partitions of a table. -/
def tableParts (t : List Byte) : Tbl PartSpec :=
  ((List.range 64).filter (partValid t)).map fun p => (p, partSpec t p)

/-! ## Feed tables (R396 to R399, check 6 of R452) -/

/-- A check of a table: the offset of a field, and whether it holds. -/
abbrev Field := Nat × Bool

/-- A field of `n` bytes in a range. -/
def ranged (t : List Byte) (off n lo hi : Nat) : Field := (off, decide (lo ≤ le t off n) && decide (le t off n ≤ hi))

/-- A field where 0 selects a default. -/
def rangedOr0 (t : List Byte) (off n lo hi : Nat) : Field := (off, le t off n == 0 || (ranged t off n lo hi).2)

/-- A reserved field of `n` bytes. -/
def reserved (t : List Byte) (off n : Nat) : List Field := [(off, zeros (slice t off n))]

/-- The bytes of an entry that is not in use. -/
def unused (t : List Byte) (off n : Nat) : List Field := (List.range n).map fun i => (off + i, zeros (slice t (off + i) 1))

/-- BANDWIDTH (R398). -/
def bandwidthFields (t : List Byte) : List Field := ranged t 0 4 1 1000000 :: reserved t 4 60

/-- FEED_ENERGY (R396). -/
def energyFields (t : List Byte) : List Field := reserved t 0xA40 64

/-- NCLK_MHZ at a level (R399). -/
def State.nclkField (s : State) (t : List Byte) (l : Nat) : Field :=
  let v := le t (0x40 + 2 * l) 2
  (0x40 + 2 * l, v != 0 && decide (v ≤ s.build.nclkMax) && (l == 0 || decide (le t (0x40 + 2 * (l - 1)) 2 ≤ v)))

/-- FEED_LIMITS, in ascending order of offset (R397, R399). -/
def State.limitFields (s : State) (t : List Byte) : List Field :=
  [ ranged t 0 4 1 1000000, ranged t 4 4 1 (le t 0 4), (8, decide (le t 8 4 < le t 4 4)), rangedOr0 t 0xC 4 1000 10000
  , ranged t 0x10 2 1 65535, rangedOr0 t 0x12 2 128 16384, rangedOr0 t 0x14 2 8 1024, ranged t 0x16 2 1 1000
  , ranged t 0x1A 2 8 800, ranged t 0x1E 1 0 15, ranged t 0x1F 1 0 (le t 0x20 1), ranged t 0x20 1 0 15
  , ranged t 0x21 1 0 63, ranged t 0x24 4 1 100000
  , (0x28, le t 0x28 4 == 0 || s.nibs.any fun b => b.present && b.hasFiller), ranged t 0x2C 4 1 16777215 ] ++
  reserved t 0x32 14 ++ ((List.range 16).map (s.nclkField t)) ++ reserved t 0x88 120 ++
  (List.range 256).map fun n => ranged t (0x100 + n) 1 0 15

/-- The first field that does not hold, with its table. -/
def firstField (table : Nat) (l : List Field) : Option Nat := (firstOff l).map fun o => 65536 * table + o

/-! ## SKEIN (R342, R343, R356, R357, check 10 of R452) -/

/-- Entry `i` of SKEIN. -/
def skeinBytes (t : List Byte) (i : Nat) : List Byte := slice t (64 + 256 * i) 256

/-- COUNT. -/
def skeinCount (t : List Byte) : Nat := le t 2 2

/-- A pair (R356). -/
def parsePair (x : Nat) : AlignPair := { p := bits x 14 0, c := bits x 29 15, k := bits x 35 30, slack := bits x 51 36 }

/-- The pairs of an entry. -/
def skeinPairs (e : List Byte) : List AlignPair := (List.range (min 4 (le e 7 1))).map fun j => parsePair (le e (0x40 + 8 * j) 8)

/-- The entry that bytes give (R343). -/
def parseSkein (e : List Byte) : SkeinEntry :=
  let kids := min 16 (le e 5 1)
  { barrier := le e 0 4
    partition := le e 4 1
    children := le e 5 1
    nibCores := le e 6 1
    queueArrivals := le e 8 2
    parent := if le e 0xA 2 = 0xFFFF then none else some (le e 0xA 2)
    timeoutUs := le e 0xC 4
    startGen := le32 e 0x10
    pasid := le e 0x14 4
    upAddr := le64 e 0x18
    releaseAddr := le64 e 0x20
    arriveBase := le64 e 0x28
    pairs := skeinPairs e
    childDevice := (List.range kids).map fun k => le e (0x60 + 2 * k) 2
    childRelease := (List.range kids).map fun k => le64 e (0x80 + 8 * k) }

/-- The words of the pairs that come before pair `j` of entry `i`. -/
def wordsBefore (t : List Byte) (i j : Nat) : List Nat :=
  let earlier := (List.range i).flatMap fun k => skeinPairs (skeinBytes t k)
  (earlier ++ (skeinPairs (skeinBytes t i)).take j).flatMap fun a => [a.p, a.c]

/-- Pair slot `j` of entry `i` (R356, R357): of two pairs with one word, the later breaks it. -/
def pairField (t : List Byte) (i j : Nat) : Bool :=
  let e := skeinBytes t i
  let x := le e (0x40 + 8 * j) 8
  let a := parsePair x
  if j < le e 7 1 then
    decide (a.k ≤ 48) && bits x 63 52 == 0 && !(wordsBefore t i j).contains a.p && !(wordsBefore t i j).contains a.c
  else x == 0

/-- An address of `e`, aligned, and 0 where it must be. -/
def addrField (e : List Byte) (off : Nat) (absent : Bool) : Field :=
  (off, if absent then le e off 8 == 0 else le e off 8 % 8 == 0)

/-- The fields of entry `i`, in ascending order of offset within it. -/
def entryFields (t : List Byte) (parts : List Nat) (i : Nat) : List Field :=
  let e := skeinBytes t i
  let root : Bool := le e 0xA 2 == 0xFFFF
  let kids := le e 5 1
  [ (0, le e 0 4 != 0 && !(List.range i).any fun k => le (skeinBytes t k) 0 4 == le e 0 4)
  , (4, parts.contains (le e 4 1))
  , (5, decide (kids ≤ 16) && decide (1 ≤ kids + le e 6 1 + le e 8 2))
  , ranged e 6 1 0 16, ranged e 7 1 0 4, ranged e 8 2 0 4096, (0xA, root || decide (le e 0xA 2 < 4096))
  , ranged e 0xC 4 1 60000000, (0x14, decide (le e 0x14 4 < 2 ^ 20)), addrField e 0x18 root, addrField e 0x20 root
  , addrField e 0x28 (kids == 0) ] ++
  reserved e 0x30 16 ++ ((List.range 4).map fun j => (0x40 + 8 * j, pairField t i j)) ++
  ((List.range 16).map fun k => (0x60 + 2 * k, if k < kids then decide (le e (0x60 + 2 * k) 2 < 4096) else le e (0x60 + 2 * k) 2 == 0)) ++
  (List.range 16).map fun k => addrField e (0x80 + 8 * k) (decide (kids ≤ k))

/-- SKEIN's fields, in ascending order of offset, against the partition set that the seal makes live. -/
def skeinFields (t : List Byte) (parts : List Nat) : List Field :=
  [(0, decide (le t 0 2 < 4096)), (2, decide (skeinCount t ≤ 64))] ++ reserved t 4 60 ++
  (List.range 64).flatMap fun i =>
    let at_ := 64 + 256 * i
    if i < skeinCount t then (entryFields t parts i).map fun f => (at_ + f.1, f.2) else unused t at_ 256

/-- The entries in use. -/
def skeinEntries (t : List Byte) : List SkeinEntry :=
  (List.range (min 64 (skeinCount t))).map fun i => parseSkein (skeinBytes t i)

/-! ## The checks (R452) -/

/-- The CRC of the snapshot's PARTITIONS. -/
def SealCheck.partCrc (k : SealCheck) : Option W32 := (tget k.tables 2).map TableImage.crc

/-- Whether the live partition set is kept (R454). -/
def State.keepsParts (s : State) (k : SealCheck) : Bool := s.live.sealed && s.live.partCrc == k.partCrc

/-- What a live partition is made of. -/
def Part.spec (x : Part) : PartSpec := (x.nibs, x.power, x.bandwidth)

/-- The partition set that the seal would make live (R454). -/
def State.sealParts (s : State) (k : SealCheck) : Tbl PartSpec :=
  if s.keepsParts k then s.parts.map fun e => (e.1, e.2.spec) else tableParts (k.table 2)

/-- The lowest partition named by a context that is not FREE which the seal would take away or change (check 9). -/
def State.partTaken (s : State) (new : Tbl PartSpec) : Option Nat :=
  lowest 64 fun p => s.partNamed p && tget new p != (tget s.parts p).map Part.spec

/-- A sum over its limit, and the excess. -/
def excess (sum limit : Nat) : Option Nat := if limit < sum then some (sum - limit) else none

/-- A check's code with the DETAIL of its failure. -/
def failing (code : W16) (o : Option Nat) : Option (W16 × Nat) := o.map fun d => (code, d)

/-- The ten checks on a snapshot, in order: the first failure's code and DETAIL (R452). -/
def State.sealChecks (s : State) (k : SealCheck) : Option (W16 × Nat) :=
  let new := s.sealParts k
  [ failing Code.cfgTableMissing ((lowest 6 fun i => (tget k.tables (i + 1)).isNone).map (· + 1))
  , failing Code.cfgSealCrc (if k.value = k.computed then none else some k.computed.toNat)
  , failing Code.cfgNibMap (lowest 256 fun n => !s.nibEntryOk (k.table 1) n)
  , failing Code.cfgNibAbsent (lowest 256 fun n => !s.nibHere (k.table 1) n)
  , failing Code.cfgPartition (lowest 64 fun p => !partEntryOk (k.table 1) (k.table 2) p)
  , failing Code.cfgFeed ((firstField 3 (bandwidthFields (k.table 3))).or
      ((firstField 5 (energyFields (k.table 5))).or (firstField 6 (s.limitFields (k.table 6)))))
  , failing Code.noPowerShare (excess (total (new.map fun e => e.2.2.1)) 256)
  , failing Code.noBandwidth (excess (total (new.map fun e => e.2.2.2)) 1024)
  , failing Code.cfgPartitionLive (s.partTaken new)
  , failing Code.cfgSkein (firstOff (skeinFields (k.table 4) (new.map Prod.fst))) ].findSome? id

/-- The outcome of a seal check (R453): a table loaded meanwhile fails it. -/
def State.sealOutcome (s : State) (k : SealCheck) : Option (W16 × Nat) :=
  match k.changed with
  | some t => some (Code.cfgChanged, t)
  | none => s.sealChecks k

/-! ## Its two ends -/

/-- A failed seal (R455): the state stays, and the outcome is kept and written down. -/
def State.sealFails (s : State) (code : W16) (detail : Nat) : State :=
  State.blot { s with cfg := { s.cfg with check := none, firstFail := code, detail := BitVec.ofNat 32 detail } }
    code 0x04 unitMc (detail % 2 ^ 32)

/-- The partitions after a seal, under what it has made live (R365, R387, R454); one that the seal does not change keeps its
running state (log 33). -/
def State.sealedParts (t : State) (new : Tbl PartSpec) : Tbl Part :=
  new.map fun e =>
    let fresh := t.newPart e.2.1 e.2.2.1 e.2.2.2
    let x := match tget t.parts e.1 with | some x => if x.spec = e.2 then x else fresh | none => fresh
    (e.1, { x with effective := fresh.effective, target := fresh.target, maskSince := fresh.maskSince })

/-- What a snapshot makes live (R454). -/
def SealCheck.live (k : SealCheck) : LiveConfig :=
  { useNibs := (List.range 256).filter (nibUsed (k.table 1))
    deliverable := le (k.table 3) 0 4
    energy := k.table 5
    limits := some (parseLimits (k.table 6))
    skein := skeinEntries (k.table 4)
    deviceId := le (k.table 4) 0 2
    partCrc := k.partCrc
    sealCrc := k.value
    sealed := true }

/-- CORR and COUNT after a seal: the loading of a FEED_ENERGY table resets them (R369, R454). -/
def Rail.atSeal (fresh : Bool) (r : Rail) : Rail := if fresh then { r with corr := 4096, corrCount := 0, clampRun := 0 } else r

/-- The barrier generations of new instances, and the running ones, which finish under their old entries (R343, R355). -/
def SyncUnit.reseal (u : SyncUnit) (entries : List SkeinEntry) : SyncUnit :=
  { u with
    gens := entries.foldl (fun g e => tset g e.barrier e.startGen) []
    barriers := u.barriers.map fun r => { r with resealed := true } }

/-- An accepted seal (R454): the commit. -/
def State.sealCommits (s : State) (k : SealCheck) : State :=
  let t : State := { s with live := k.live }
  State.stepRails (State.sendRates { t with
    parts := t.sealedParts (s.sealParts k)
    sync := s.sync.reseal k.live.skein
    feed := { s.feed with rails := s.feed.rails.map (Rail.atSeal s.cfg.energyNew) }
    cfg := { s.cfg with state := .sealed, firstFail := 0, check := none, energyNew := false }
    iga := { s.iga with configLatch := false } })

/-- SEAL_CHECK_DONE (R452 to R455). -/
def execSealCheckDone (s : State) : Host.Outcome State Fault Refusal :=
  match s.cfg.check with
  | none => skip s
  | some k =>
    match s.sealOutcome k with
    | some f => done s (s.sealFails f.1 f.2)
    | none => done s (s.sealCommits k)

end Sys2Proof.Machine
end

