-- ==== Sys2Proof/Machine/Dispatch.lean ====
section
/-! DEFINITION. The meaning of each command: one arm a constructor, each one call of that command's meaning. -/

namespace Sys2Proof.Machine

open Sys2Proof

/-- What a command does to everything but the queue of waiting commands. -/
def exec (i : Instr) (s : State) : Host.Outcome State Fault Refusal :=
  match i with
  | .deviceReset => Sys2Proof.Machine.execDeviceReset s
  | .hubReset => Sys2Proof.Machine.execHubReset s
  | .splitterReset sp => Sys2Proof.Machine.execSplitterReset sp s
  | .nibReset nib die cores => Sys2Proof.Machine.execNibReset nib die cores s
  | .refclkOk => Sys2Proof.Machine.execRefclkOk s
  | .epochPEdge => Sys2Proof.Machine.execEpochPEdge s
  | .epochMissed => Sys2Proof.Machine.execEpochMissed s
  | .coolantFault => Sys2Proof.Machine.execCoolantFault s
  | .ylinkDown link => Sys2Proof.Machine.execYlinkDown link s
  | .testMode block result => Sys2Proof.Machine.execTestMode block result s
  | .keyDelivery kind words => Sys2Proof.Machine.execKeyDelivery kind words s
  | .dNowReport gbs => Sys2Proof.Machine.execDNowReport gbs s
  | .powerStepAck group level trim => Sys2Proof.Machine.execPowerStepAck group level trim s
  | .powerStepRetry group => Sys2Proof.Machine.execPowerStepRetry group s
  | .senseSample kind group value => Sys2Proof.Machine.execSenseSample kind group value s
  | .senseTick => Sys2Proof.Machine.execSenseTick s
  | .mirrorLinkDown => Sys2Proof.Machine.execMirrorLinkDown s
  | .nclkChange nib level => Sys2Proof.Machine.execNclkChange nib level s
  | .controlRegisterWrite agent offset size data => Sys2Proof.Machine.execControlRegisterWrite agent offset size data s
  | .htpRefusedAccess agent write offset size data => Sys2Proof.Machine.execHtpRefusedAccess agent write offset size data s
  | .lowHalfRead agent offset => Sys2Proof.Machine.execLowHalfRead agent offset s
  | .ducTimeLoRead agent => Sys2Proof.Machine.execDucTimeLoRead agent s
  | .readClearRegister agent offset => Sys2Proof.Machine.execReadClearRegister agent offset s
  | .doorbellWrite offset size data => Sys2Proof.Machine.execDoorbellWrite offset size data s
  | .mbxAcquire agent n value => Sys2Proof.Machine.execMbxAcquire agent n value s
  | .mbxRelease agent n value => Sys2Proof.Machine.execMbxRelease agent n value s
  | .mbxDoorbell agent n value => Sys2Proof.Machine.execMbxDoorbell agent n value s
  | .mbxAck agent n value => Sys2Proof.Machine.execMbxAck agent n value s
  | .mbxForceFree agent value => Sys2Proof.Machine.execMbxForceFree agent value s
  | .mbxInkWrite agent n value => Sys2Proof.Machine.execMbxInkWrite agent n value s
  | .mbxDataWrite agent offset size data => Sys2Proof.Machine.execMbxDataWrite agent offset size data s
  | .inkwellHostWrite agent offset size data => Sys2Proof.Machine.execInkwellHostWrite agent offset size data s
  | .inkwellSlotConsume id eccError => Sys2Proof.Machine.execInkwellSlotConsume id eccError s
  | .inkwellSlotToHost id payload => Sys2Proof.Machine.execInkwellSlotToHost id payload s
  | .inkTimeout id => Sys2Proof.Machine.execInkTimeout id s
  | .synWindowWrite agent index value => Sys2Proof.Machine.execSynWindowWrite agent index value s
  | .ducArmWrite agent value => Sys2Proof.Machine.execDucArmWrite agent value s
  | .ducTraceEnable agent value => Sys2Proof.Machine.execDucTraceEnable agent value s
  | .ducTraceDisable agent value => Sys2Proof.Machine.execDucTraceDisable agent value s
  | .traceFlushDone => Sys2Proof.Machine.execTraceFlushDone s
  | .timeSyncRecord => Sys2Proof.Machine.execTimeSyncRecord s
  | .traceRecordArrival source => Sys2Proof.Machine.execTraceRecordArrival source s
  | .traceWriteVisible => Sys2Proof.Machine.execTraceWriteVisible s
  | .alignmentRound child probes => Sys2Proof.Machine.execAlignmentRound child probes s
  | .alignOffsetReceived child => Sys2Proof.Machine.execAlignOffsetReceived child s
  | .cfgSealWrite agent value => Sys2Proof.Machine.execCfgSealWrite agent value s
  | .sealCheckDone => Sys2Proof.Machine.execSealCheckDone s
  | .cfgLaunchEnWrite agent value => Sys2Proof.Machine.execCfgLaunchEnWrite agent value s
  | .cpbStart agent value => Sys2Proof.Machine.execCpbStart agent value s
  | .bootCheckDone => Sys2Proof.Machine.execBootCheckDone s
  | .fltResetWrite agent value => Sys2Proof.Machine.execFltResetWrite agent value s
  | .warmReset => Sys2Proof.Machine.execWarmReset s
  | .mirFailoverAck agent value => Sys2Proof.Machine.execMirFailoverAck agent value s
  | .mirRejoin agent value => Sys2Proof.Machine.execMirRejoin agent value s
  | .mirHubReset agent value => Sys2Proof.Machine.execMirHubReset agent value s
  | .dbgStopArm agent reg value => Sys2Proof.Machine.execDbgStopArm agent reg value s
  | .dbgResume agent value => Sys2Proof.Machine.execDbgResume agent value s
  | .stopCountReached nibStop => Sys2Proof.Machine.execStopCountReached nibStop s
  | .dbgSyncGo agent value => Sys2Proof.Machine.execDbgSyncGo agent value s
  | .dbgNfCountRead agent => Sys2Proof.Machine.execDbgNfCountRead agent s
  | .dbgSyncFaultCountRead agent => Sys2Proof.Machine.execDbgSyncFaultCountRead agent s
  | .igaClaim agent target => Sys2Proof.Machine.execIgaClaim agent target s
  | .igaComplete agent target value => Sys2Proof.Machine.execIgaComplete agent target value s
  | .igaSwSet agent value => Sys2Proof.Machine.execIgaSwSet agent value s
  | .igaSwClr agent value => Sys2Proof.Machine.execIgaSwClr agent value s
  | .feedQeSelWrite agent value => Sys2Proof.Machine.execFeedQeSelWrite agent value s
  | .queueEnergyReady => Sys2Proof.Machine.execQueueEnergyReady s
  | .feedTrimWrite agent group value => Sys2Proof.Machine.execFeedTrimWrite agent group value s
  | .managementCoreTake request bulk => Sys2Proof.Machine.execManagementCoreTake request bulk s
  | .bootHello id => Sys2Proof.Machine.execBootHello id s
  | .adminQueueSetup id => Sys2Proof.Machine.execAdminQueueSetup id s
  | .cfgLoadTable id => Sys2Proof.Machine.execCfgLoadTable id s
  | .cfgQuery id => Sys2Proof.Machine.execCfgQuery id s
  | .ctxCastOn id => Sys2Proof.Machine.execCtxCastOn id s
  | .ctxBindOff id => Sys2Proof.Machine.execCtxBindOff id s
  | .ctxQuery id => Sys2Proof.Machine.execCtxQuery id s
  | .eventAlloc id => Sys2Proof.Machine.execEventAlloc id s
  | .eventFree id => Sys2Proof.Machine.execEventFree id s
  | .queueCreate id => Sys2Proof.Machine.execQueueCreate id s
  | .queueDisable id => Sys2Proof.Machine.execQueueDisable id s
  | .queueEnable id => Sys2Proof.Machine.execQueueEnable id s
  | .queueDestroy id => Sys2Proof.Machine.execQueueDestroy id s
  | .queueQuery id => Sys2Proof.Machine.execQueueQuery id s
  | .patternRegister id => Sys2Proof.Machine.execPatternRegister id s
  | .patternGroupRegister id => Sys2Proof.Machine.execPatternGroupRegister id s
  | .patternUnregister id => Sys2Proof.Machine.execPatternUnregister id s
  | .partCreate id => Sys2Proof.Machine.execPartCreate id s
  | .partDestroy id => Sys2Proof.Machine.execPartDestroy id s
  | .partQuery id => Sys2Proof.Machine.execPartQuery id s
  | .queryClocks id => Sys2Proof.Machine.execQueryClocks id s
  | .queryTemps id => Sys2Proof.Machine.execQueryTemps id s
  | .queryLimits id => Sys2Proof.Machine.execQueryLimits id s
  | .traceControlConfigure id => Sys2Proof.Machine.execTraceControlConfigure id s
  | .traceControlEnable id => Sys2Proof.Machine.execTraceControlEnable id s
  | .traceControlDisable id => Sys2Proof.Machine.execTraceControlDisable id s
  | .fwStage id => Sys2Proof.Machine.execFwStage id s
  | .fwActivate id => Sys2Proof.Machine.execFwActivate id s
  | .exchangeDrained => Sys2Proof.Machine.execExchangeDrained s
  | .exchangeSwitched => Sys2Proof.Machine.execExchangeSwitched s
  | .recoverQueueReset id => Sys2Proof.Machine.execRecoverQueueReset id s
  | .queueResetDone q => Sys2Proof.Machine.execQueueResetDone q s
  | .recoverNibReinit id => Sys2Proof.Machine.execRecoverNibReinit id s
  | .nibReinitDone nib trained die cores => Sys2Proof.Machine.execNibReinitDone nib trained die cores s
  | .recoverWarmReset id => Sys2Proof.Machine.execRecoverWarmReset id s
  | .recoverFailover id => Sys2Proof.Machine.execRecoverFailover id s
  | .mcWatchdog => Sys2Proof.Machine.execMcWatchdog s
  | .deviceFault bit detail => Sys2Proof.Machine.execDeviceFault bit detail s
  | .microcodeFault dme cause space address => Sys2Proof.Machine.execMicrocodeFault dme cause space address s
  | .dmeEventService dme upset sel => Sys2Proof.Machine.execDmeEventService dme upset sel s
  | .bindOffDeadline slot => Sys2Proof.Machine.execBindOffDeadline slot s
  | .contextRelease slot => Sys2Proof.Machine.execContextRelease slot s
  | .doorbellTake => Sys2Proof.Machine.execDoorbellTake s
  | .queueRecordLoaded q => Sys2Proof.Machine.execQueueRecordLoaded q s
  | .queueEviction => Sys2Proof.Machine.execQueueEviction s
  | .tailWordReturn q word => Sys2Proof.Machine.execTailWordReturn q word s
  | .tailReread q => Sys2Proof.Machine.execTailReread q s
  | .ringEntryReturn q entries => Sys2Proof.Machine.execRingEntryReturn q entries s
  | .arbiterGrant => Sys2Proof.Machine.execArbiterGrant s
  | .queueTimeout q => Sys2Proof.Machine.execQueueTimeout q s
  | .enqueueRequest sp => Sys2Proof.Machine.execEnqueueRequest sp s
  | .slotReservationGrant q => Sys2Proof.Machine.execSlotReservationGrant q s
  | .enqueueEntryWritten sp => Sys2Proof.Machine.execEnqueueEntryWritten sp s
  | .enqueueRefusedFull q => Sys2Proof.Machine.execEnqueueRefusedFull q s
  | .cbReadReturn q bytes => Sys2Proof.Machine.execCbReadReturn q bytes s
  | .bufferHeader q => Sys2Proof.Machine.execBufferHeader q s
  | .nop q => Sys2Proof.Machine.execNop q s
  | .chain q => Sys2Proof.Machine.execChain q s
  | .launch q => Sys2Proof.Machine.execLaunch q s
  | .launchDispatch dme => Sys2Proof.Machine.execLaunchDispatch dme s
  | .launchReplay q => Sys2Proof.Machine.execLaunchReplay q s
  | .replayMemberDispatch dme => Sys2Proof.Machine.execReplayMemberDispatch dme s
  | .patchParams q => Sys2Proof.Machine.execPatchParams q s
  | .setConstants q => Sys2Proof.Machine.execSetConstants q s
  | .eventRecord q => Sys2Proof.Machine.execEventRecord q s
  | .eventWait q => Sys2Proof.Machine.execEventWait q s
  | .syncOp q => Sys2Proof.Machine.execSyncOp q s
  | .syncWait q => Sys2Proof.Machine.execSyncWait q s
  | .barrier q => Sys2Proof.Machine.execBarrier q s
  | .writeImm q => Sys2Proof.Machine.execWriteImm q s
  | .writeImmVisible write ok => Sys2Proof.Machine.execWriteImmVisible write ok s
  | .hintPhase q => Sys2Proof.Machine.execHintPhase q s
  | .fenceFetch q => Sys2Proof.Machine.execFenceFetch q s
  | .fenceFetchComplete q => Sys2Proof.Machine.execFenceFetchComplete q s
  | .partControl q => Sys2Proof.Machine.execPartControl q s
  | .feedSet q => Sys2Proof.Machine.execFeedSet q s
  | .traceSet q => Sys2Proof.Machine.execTraceSet q s
  | .privWrite q => Sys2Proof.Machine.execPrivWrite q s
  | .syncConfig q => Sys2Proof.Machine.execSyncConfig q s
  | .scoreboardLateRegistration => Sys2Proof.Machine.execScoreboardLateRegistration s
  | .taskDoneAtHub sp => Sys2Proof.Machine.execTaskDoneAtHub sp s
  | .writeBackResponse q ok => Sys2Proof.Machine.execWriteBackResponse q ok s
  | .splitterTaskPass sp => Sys2Proof.Machine.execSplitterTaskPass sp s
  | .splitterCompletion nib => Sys2Proof.Machine.execSplitterCompletion nib s
  | .splitterWithdrawn nib => Sys2Proof.Machine.execSplitterWithdrawn nib s
  | .splitterBarrierArrival nib => Sys2Proof.Machine.execSplitterBarrierArrival nib s
  | .nibTaskReceive nib => Sys2Proof.Machine.execNibTaskReceive nib s
  | .stateSlotFilled nib slot => Sys2Proof.Machine.execStateSlotFilled nib slot s
  | .constantsStaged nib tag bytes => Sys2Proof.Machine.execConstantsStaged nib tag bytes s
  | .nibSwapIn nib => Sys2Proof.Machine.execNibSwapIn nib s
  | .stitcherEmit nib core => Sys2Proof.Machine.execStitcherEmit nib core s
  | .nibIssue nib => Sys2Proof.Machine.execNibIssue nib s
  | .completionToken nib core eq token => Sys2Proof.Machine.execCompletionToken nib core eq token s
  | .residueReadAnswer nib => Sys2Proof.Machine.execResidueReadAnswer nib s
  | .nibWithdraw nib => Sys2Proof.Machine.execNibWithdraw nib s
  | .engineTranslateRequest nib core eq request => Sys2Proof.Machine.execEngineTranslateRequest nib core eq request s
  | .engineSyncRequest nib core eq request => Sys2Proof.Machine.execEngineSyncRequest nib core eq request s
  | .engineEnqueueRequest nib core eq request => Sys2Proof.Machine.execEngineEnqueueRequest nib core eq request s
  | .translationCompletion tag status address sizeBit readable writable => Sys2Proof.Machine.execTranslationCompletion tag status address sizeBit readable writable s
  | .translationTimeout tag => Sys2Proof.Machine.execTranslationTimeout tag s
  | .invalidateRequest itag pasid allPasids address sizeBit => Sys2Proof.Machine.execInvalidateRequest itag pasid allPasids address sizeBit s
  | .nibInvalidation nib => Sys2Proof.Machine.execNibInvalidation nib s
  | .invalidateComplete itag => Sys2Proof.Machine.execInvalidateComplete itag s
  | .abortTokenTimeout nib => Sys2Proof.Machine.execAbortTokenTimeout nib s
  | .memoryResponseTimeout request => Sys2Proof.Machine.execMemoryResponseTimeout request s
  | .nibIdleToOff nib => Sys2Proof.Machine.execNibIdleToOff nib s
  | .migrationTimer tag position => Sys2Proof.Machine.execMigrationTimer tag position s
  | .withdrawAnswer sp => Sys2Proof.Machine.execWithdrawAnswer sp s
  | .withdrawDrainTimeout tag position => Sys2Proof.Machine.execWithdrawDrainTimeout tag position s
  | .memorySyncResponse opId answer => Sys2Proof.Machine.execMemorySyncResponse opId answer s
  | .watchPoll => Sys2Proof.Machine.execWatchPoll s
  | .watchPollReturn slot answer => Sys2Proof.Machine.execWatchPollReturn slot answer s
  | .syncWaitLateRegister => Sys2Proof.Machine.execSyncWaitLateRegister s
  | .syncWaitExpiry waitId => Sys2Proof.Machine.execSyncWaitExpiry waitId s
  | .barrierArrivalHub sp => Sys2Proof.Machine.execBarrierArrivalHub sp s
  | .barrierPoll barrier => Sys2Proof.Machine.execBarrierPoll barrier s
  | .barrierPollReturn barrier word answer => Sys2Proof.Machine.execBarrierPollReturn barrier word answer s
  | .barrierInstanceTimeout barrier => Sys2Proof.Machine.execBarrierInstanceTimeout barrier s
  | .barrierReleaseAtNib nib => Sys2Proof.Machine.execBarrierReleaseAtNib nib s
  | .feedIntervalClose reports => Sys2Proof.Machine.execFeedIntervalClose reports s
  | .rampWindowStart => Sys2Proof.Machine.execRampWindowStart s
  | .calibrationTick => Sys2Proof.Machine.execCalibrationTick s
  | .trimCheck => Sys2Proof.Machine.execTrimCheck s
  | .wakeRelease group => Sys2Proof.Machine.execWakeRelease group s
  | .nibWakeDone nib probes => Sys2Proof.Machine.execNibWakeDone nib probes s
  | .eqOpen nib => Sys2Proof.Machine.execEqOpen nib s
  | .hintRampStart partition => Sys2Proof.Machine.execHintRampStart partition s
  | .hubDozeEntry => Sys2Proof.Machine.execHubDozeEntry s
  | .hubSleepEntry => Sys2Proof.Machine.execHubSleepEntry s
  | .hubWake => Sys2Proof.Machine.execHubWake s
  | .blotterWriteVisible => Sys2Proof.Machine.execBlotterWriteVisible s
  | .mirrorRecordReceived record => Sys2Proof.Machine.execMirrorRecordReceived record s
  | .mirrorAckReceived => Sys2Proof.Machine.execMirrorAckReceived s
  | .mirrorAckTimeout => Sys2Proof.Machine.execMirrorAckTimeout s
  | .primaryHeartbeat => Sys2Proof.Machine.execPrimaryHeartbeat s
  | .primaryConfirm => Sys2Proof.Machine.execPrimaryConfirm s
  | .heartbeatTimeout => Sys2Proof.Machine.execHeartbeatTimeout s
  | .failoverReqReceived cause detected => Sys2Proof.Machine.execFailoverReqReceived cause detected s
  | .splitterTakeoverRequest sp silentNs released => Sys2Proof.Machine.execSplitterTakeoverRequest sp silentNs released s
  | .splitterGrantTimeout sp => Sys2Proof.Machine.execSplitterGrantTimeout sp s
  | .takeover => Sys2Proof.Machine.execTakeover s
  | .partnerTakeoverSeen => Sys2Proof.Machine.execPartnerTakeoverSeen s
  | .bulkCopyDone partnerDigest partnerVersion sweepPassed => Sys2Proof.Machine.execBulkCopyDone partnerDigest partnerVersion sweepPassed s
  | .divergenceSweep regions => Sys2Proof.Machine.execDivergenceSweep regions s
  | .splitterPhaseDone => Sys2Proof.Machine.execSplitterPhaseDone s
  | .nibTrainingAttemptEnd nib up splitter => Sys2Proof.Machine.execNibTrainingAttemptEnd nib up splitter s
  | .syncRequestAtSyncUnit sp => Sys2Proof.Machine.execSyncRequestAtSyncUnit sp s
  | .syncReplyAtNib nib => Sys2Proof.Machine.execSyncReplyAtNib nib s
  | .enqueueReplyAtNib nib => Sys2Proof.Machine.execEnqueueReplyAtNib nib s
  | .enqueueEntryWriteResponse nib ok => Sys2Proof.Machine.execEnqueueEntryWriteResponse nib ok s
  | .eventStoreReadReturn slot event => Sys2Proof.Machine.execEventStoreReadReturn slot event s
  | .nibUncorrectableError nib => Sys2Proof.Machine.execNibUncorrectableError nib s
  | .abortAtNib nib => Sys2Proof.Machine.execAbortAtNib nib s
  | .nibPowerUp nib => Sys2Proof.Machine.execNibPowerUp nib s
  | .splitterTrainingAttemptEnd sp up => Sys2Proof.Machine.execSplitterTrainingAttemptEnd sp up s
  | .takeoverRefused sp => Sys2Proof.Machine.execTakeoverRefused sp s

end Sys2Proof.Machine
end

