-- ==== Sys2Proof/Machine/Tick.lean ====
section
/-! DEFINITION. What 1 ns of time does while no command waits (log 2): the master count and the slews (R34, R38, R39), the
counters that advance with time (R387, R389, R463), the Nibs' metering (R366), and the writes of the trace writer and the Blotter (R56, R468). -/

namespace Sys2Proof.Machine

open Sys2Proof

/-- Whether CFG_HOLD_NS counts: launches are held under R457 or R459 (R463). -/
def State.holdCounts (s : State) : Bool := s.cfg.state == .sealBroken || !s.cfg.launchEn

/-- Counters by reason advanced by 1 ns where a mask has the reason (R389). -/
def countReasons (l : List Nat) (mask : Nat) : List Nat :=
  l.zipIdx.map fun p => if bit mask p.2 then min (p.1 + 1) 0xFFFFFFFFFFFFFFFF else p.1

/-- A partition's reason counters and the masks kept for its barriers, after 1 ns (R387, R389). -/
def Part.tick (x : Part) (mask : Nat) : Part :=
  { x with reasonNs := countReasons x.reasonNs mask, maskSince := tmap x.maskSince fun _ m => m ||| mask % 128 }

/-- The device counters of the reasons after 1 ns (R389). -/
def tickReasons (l : List W64) (mask : Nat) : List W64 :=
  l.zipIdx.map fun p => if bit mask p.2 then sat64 p.1 1 else p.1

/-! ## Metering (R366) -/

/-- What an engine queue's active cycle costs (R366): the price of its oldest outstanding macro-op's class, and whether that is
purl; nothing where its engine has a SYNC wait outstanding. -/
def EngineQueue.cyclePj (e : EngineQueue) (energy : List Byte) (level : Nat) : Nat × Bool :=
  match e.live.head? with
  | some o => (if o.syncWaits then 0 else energyOf energy o.packet.activity level, o.packet.purl)
  | none => (0, false)

/-- What an NCLK cycle of a Nib costs at its level (R366): every queue's price, and purl's among them. The queues of a parked
Stitcher count none (R289). -/
def Nib.cyclePj (b : Nib) (energy : List Byte) : Nat × Nat :=
  let prices := b.cores.zipIdx.flatMap fun c =>
    if b.stitchers.any (fun x => x.core == c.2 && x.parked) then [] else c.1.map fun e => e.cyclePj energy b.level
  (total (prices.map Prod.fst), total ((prices.filter Prod.snd).map Prod.fst))

/-- 1 ns of a Nib's metering: the NCLK cycles that end in it are counted at the level in effect (R366). -/
def Nib.count (b : Nib) (l : FeedLimits) (energy : List Byte) : Nib :=
  if b.present && b.power != .off then
    let f := b.cycleFrac + l.nclkMhz.getD b.level 0
    let c := b.cyclePj energy
    { b with cycleFrac := f % 1000, meter := b.meter + f / 1000 * c.1, purlMeter := b.purlMeter + f / 1000 * c.2 }
  else b

/-- The Nibs after 1 ns of metering; Feed has prices once its tables are sealed. -/
def State.metering (s : State) : List Nib :=
  match s.live.limits with
  | some l => s.nibs.map fun b => b.count l s.live.energy
  | none => s.nibs

/-- What the Hub does by itself in a cycle: the trace writer and the Fault Manager use the ports, and the arbiter sees which
visits have ended (R178). -/
def State.seen (s : State) : State := if s.awake && s.primary then s.pump.endVisits else s

/-- 1 ns passes: the slews of the dies take a step whenever the Hub's time passes a multiple of 100 ns, so no count falls (R33). -/
def State.tick (s : State) : State :=
  let d := s.ductus.tick
  let slewing := s.ductus.time / 100 < d.time / 100
  State.seen { s with
    ductus := d
    cfg := { s.cfg with holdNs := if s.holdCounts then sat64 s.cfg.holdNs 1 else s.cfg.holdNs }
    parts := tmap s.parts fun p x => x.tick (s.reasonsOf p x)
    feed := { s.feed with reasonNs := tickReasons s.feed.reasonNs s.deviceMask }
    splitters := if slewing then s.splitters.map Splitter.slewOnce else s.splitters
    nibs := if slewing then s.metering.map Nib.slewOnce else s.metering }

end Sys2Proof.Machine
end

