-- ==== Sys2Proof/Machine/Pins.lean ====
section
/-! DEFINITION. The output signals of the ports that are levels, read off the state (R498 to R524). What a port drives for a beat, a
message or a request is the effect of a command. -/

namespace Sys2Proof.Machine

open Sys2Proof

/-! ## The Hub -/

/-- IRQ_OUT[t] (R412, R414, R521), 0 in test mode (R524). -/
def State.irqOut (s : State) (t : Nat) : Bool := !s.power.testMode && s.primary && s.iga.out t

/-- HUB_PRIMARY (R521), 0 in test mode (R524). -/
def State.hubPrimary (s : State) : Bool := !s.power.testMode && (s.primary || s.mir.role == .claiming)

/-- KYP_REQ (R519). -/
def State.kypReq (s : State) : Bool := s.cpb.keyReq

/-- The step requests of the Power Step Port that are not acknowledged: group, level and trim (R364, R516); none in test mode
(R524). -/
def State.pspReqs (s : State) : List (Nat × Nat × Nat) :=
  if s.power.testMode then []
  else s.feed.rails.zipIdx.filterMap fun e => e.1.request.map fun r => (e.2, r.1, r.2.1)

/-- HREQ_READY for an access (R14, R71, R500), 0 in test mode (R524). -/
def State.hreqReady (s : State) (a : HtpAccess) : Bool :=
  s.ductus.refOk && !s.power.testMode &&
    (s.awake || (decide (a.offset < 0x10000) && !s.htp.held.any fun b => b.agent == a.agent))

/-- HDB_READY for a doorbell write (R80, R500), 0 in test mode (R524). -/
def State.hdbReady (s : State) (d : HeldDoorbell) : Bool :=
  s.ductus.refOk && !s.power.testMode && s.bells.held.isEmpty && s.bells.clears d

/-- XINV_READY (R507). -/
def State.xinvReady (s : State) : Bool := decide ((s.xlat.invs.countP fun i => decide (i.itag < 32)) < 32)

/-! ## The memory ports -/

/-- MREQ_OP (R501). -/
def MemReq.opPins (r : MemReq) : Nat := match r.op with | .read => 0 | .write => 1 | .cas => 2

/-- MREQ_PART (R501, R502): the partition, or NO_PART. -/
def MemReq.partPins (r : MemReq) : Nat := if r.pasid = 0 then 64 else r.part.getD 64

/-- MREQ_AT (R501, R504). -/
def MemReq.atPin (r : MemReq) : Bool := !r.phys

/-! ## Yarn -/

/-- YLINK_TRAIN of a link (R444, R509): high during each attempt. -/
def LinkState.trainPin : LinkState → Bool
  | .training _ => true
  | _ => false

/-- YLINK_TRAIN of a Nib's link under NIB_REINIT (R473): high once its 10 µs in reset have passed. -/
def State.reinitTrainPin (s : State) (n : Nat) : Bool :=
  s.mgmt.recoveries.contains (2, n) && match s.nibs[n]? with | some b => decide (b.trainFrom ≤ s.now) | none => false

/-! ## Engine Queue Ports -/

/-- EQ_OPEN (R378, R511), 0 in test mode (R524). -/
def Nib.eqOpen (b : Nib) (core eq : Nat) : Bool := !b.testMode && match b.queue core eq with | some e => e.opened | none => false

/-- EQ_ABORT (R511), 1 in test mode (R524). -/
def Nib.eqAbort (b : Nib) (core eq : Nat) : Bool := b.testMode || match b.queue core eq with | some e => e.abort.isSome | none => false

/-- EQ_ABORT_ALL (R511), 1 in test mode (R524). -/
def Nib.eqAbortAll (b : Nib) (core eq : Nat) : Bool :=
  b.testMode || match b.queue core eq with | some e => e.abort == some .all | none => false

/-- EQ_ABORT_PASID where it is valid (R511). -/
def Nib.eqAbortPasid (b : Nib) (core eq : Nat) : Option Nat :=
  if b.testMode then none
  else match b.queue core eq with
    | some e => match e.abort with | some (.pasid p) => some p | _ => none
    | none => none

/-- EQR_READY (R511): low while 4 requests of the queue are unanswered. -/
def Nib.eqrReady (b : Nib) (core eq : Nat) : Bool :=
  match b.queue core eq with
  | some e => decide (e.out.foldl (fun n o => n + o.reqs.length) 0 < 4)
  | none => false

end Sys2Proof.Machine
end

