-- ==== Sys2Proof/Safety.lean ====
section
/-! DEFINITION. What a safe state of the block is, in the terms the claims use. -/

namespace Sys2Proof.Machine

open Sys2Proof

/-- The interrupt levels that the Gatherer has sampled are the levels of the sources (R402, R413), unless this Hub holds
effects back as a mirrored primary (R478). -/
abbrev State.levelsTrue (s : State) : Prop := s.mir.role ≠ .primaryMirrored → s.iga.levels = s.highSources

/-- The device mask that Feed last recorded is the OR of the partitions' throttle reasons (R388). -/
abbrev State.maskTrue (s : State) : Prop := s.feed.mask = s.deviceMask

/-- A safe state: what the Gatherer and Feed show of the block is true of it. -/
abbrev State.Safe (s : State) : Prop := s.levelsTrue ∧ s.maskTrue

/-- The Host Target Port serves every access at once, as a primary's does (R71, R443, R481). -/
abbrev State.serves (s : State) : Prop :=
  s.ductus.refOk = true ∧ s.power.testMode = false ∧ s.awake = true ∧ s.primary = true

/-- The state that a command with the effect `t` on `s` ends in, where waits on events may act on the effect (R308). -/
def State.ends (s t : State) : State := State.close s t.settled

/-- The state that a command ends in whose effect `t` on `s` may let barrier arrivals in and waits act (R308, R347). -/
def State.endsQuiet (s t : State) : State := State.close s t.quiet

/-- The Henpen command in progress `id` has code `code`, may act now (R111), passes its gates, its framing and its argument
checks (R104, R115), and has its bulk data (R96): its commit step is next. -/
abbrev State.mayCommit (s : State) (id code : Nat) (checks : Prog → List Check) (p : Prog) : Prop :=
  s.prog id = some p ∧ s.firmware = true ∧ p.command = code ∧ p.pendingAnswer = false ∧ s.behind p = false ∧
    s.frame p = none ∧ lowestFail (p.headerChecks ++ checks p) = none ∧ (takesBulk p.command = true → p.full = true)

/-- A Henpen command answers OK with results, once its commit has had the effect `t` on `s` (R103, R112). -/
def State.answersOk (s t : State) (p : Prog) (results : List Byte) : State := s.endsQuiet (t.answer p Code.ok 0 results)

/-- A queue's next command is of opcode `opcode` with bytes `b`, all read without error, and passes every check of its
parse (R197, R203): queue, submission, context slot and context are `x`, `u`, `slot` and `c`. -/
abbrev State.parses (s : State) (q opcode : Nat) (c5 : List Byte → List Check) (c6 : Sub → Nat → Ctx → List Byte → List Check)
    (x : Queue) (u : Sub) (slot : Nat) (c : Ctx) (b : List Byte) : Prop :=
  s.front q = some (x, u, slot, c) ∧ u.next (!x.kernel) = some (some opcode, .ok (b.map some)) ∧
    firstFail (c5 b) = none ∧ lowestFail (c6 u slot c b) = none

/-- The state a parse ends in: `t` is `s` with the command's bytes gone from the stream and the effect of its parse; a
submission with nothing left retires, and reading goes on. -/
def State.parsedTo (s : State) (q : Nat) (u : Sub) (t : State) : State := s.ends ((t.maybeRetire q u.seq).cbFetch q)

/-- The state that a window command which takes effect ends in (R200). -/
def State.begunTo (s : State) (q : Nat) (t : State) : State := s.ends (t.cbFetch q)

end Sys2Proof.Machine
end

