-- ==== Sys2Proof/Certificates/Slice0/Obligations.lean ====
section
/-! DEFINITION. The statements about the block, for the provers. -/

open Sys2Proof Sys2Proof.Machine

/-- A step runs the command at the front of the queue. -/
def Obligations.StepRunsFront : Prop :=
  ∀ (c : Instr) (rest : List Instr) (s : State), s.pending = c :: rest → step s = exec c { s with pending := rest }

/-- On an empty queue a step lets 1 ns pass (log 2). -/
def Obligations.IdleStepIsOneNanosecond : Prop :=
  ∀ s : State, s.pending = [] → ∃ t, step s = .next t ∧ t.pending = [] ∧
    (s.ductus.refOk = false → t.ductus = s.ductus) ∧
    (s.ductus.refOk = true → s.ductus.phase < 39 →
      t.ductus = { s.ductus with phase := s.ductus.phase + 1 }) ∧
    (s.ductus.refOk = true → 39 ≤ s.ductus.phase → s.ductus.slew = 0 →
      t.ductus = { s.ductus with phase := 0, count := s.ductus.count + 40 }) ∧
    (s.ductus.refOk = true → 39 ≤ s.ductus.phase → 0 < s.ductus.slew →
      t.ductus = { s.ductus with phase := 0, count := s.ductus.count + 39, slew := s.ductus.slew - 1 }) ∧
    (s.ductus.refOk = true → 39 ≤ s.ductus.phase → s.ductus.slew < 0 →
      t.ductus = { s.ductus with phase := 0, count := s.ductus.count + 41, slew := s.ductus.slew + 1 }) ∧
    t.htp = s.htp ∧ t.bells = s.bells ∧ t.mbx = s.mbx ∧ t.iga = s.iga ∧ t.ctxs = s.ctxs ∧
    t.queues = s.queues ∧ t.tasks = s.tasks ∧ t.sync = s.sync ∧ t.mgmt = s.mgmt ∧
    t.cpb = s.cpb ∧ t.dbg = s.dbg ∧ t.power = s.power ∧ t.mir = s.mir ∧ t.live = s.live ∧
    (s.trace.buf = [] → s.trace.ringLoss = none → s.flt.held = [] → s.flt.loss = none →
      t.trace = s.trace ∧ t.mip = s.mip ∧ t.flt = s.flt ∧ t.xlat = s.xlat)

/-- No command of the table ends in a fault or a refusal. -/
def Obligations.EveryCommandAnswersNext : Prop :=
  ∀ (c : Instr) (s : State), ∃ t, exec c s = .next t

/-- Every step keeps the Gatherer's levels and Feed's mask true of the block. -/
def Obligations.EveryStepKeepsSafe : Prop :=
  ∀ s t : State, s.Safe → step s = .next t → t.Safe

/-- The state after a device reset is safe, in every build. -/
def Obligations.ResetIsSafe : Prop :=
  ∀ b : Build, (State.resetOf b).Safe

/-- Registers whose reset value the manual gives as non-zero hold it after a device reset. -/
def Obligations.ResetRegisterValues : Prop :=
  ∀ (b : Build) (agent : Nat),
    let r := State.resetOf b
    r.reg32 agent 0x00000 = 0x04020000 ∧ r.reg32 agent 0x00004 = 0x5741 ∧ r.reg32 agent 0x00008 = 0x5334 ∧
    r.reg32 agent 0x30014 = 0x40 ∧ r.reg32 agent 0x30028 = 0x10 ∧ r.reg32 agent 0x30038 = 0x10 ∧
    r.reg32 agent 0x40000 = 0xF ∧ (∀ g < 16, r.reg32 agent (0x400C0 + 4 * g) = 4096) ∧
    r.reg32 agent 0x50018 = 0x0C ∧ r.reg32 agent 0x60000 = 0x20 ∧ r.reg32 agent 0x60008 = 1 ∧
    r.reg32 agent 0x60020 = 0x0A ∧ r.reg32 agent 0x60024 = 0x3E8 ∧ r.reg32 agent 0x60028 = 0x64 ∧
    (∀ n < 16, r.reg32 agent (0x10000 + 0x40 * n) = 0x10 ∧ r.reg32 agent (0x10010 + 0x40 * n) = 0) ∧
    r.ctxs = [] ∧ r.parts = [] ∧ r.queues = [] ∧ r.tasks = [] ∧ r.cfg.tables = [] ∧ r.mgmt.lastExchange = 0xFFFF

/-- After a device reset no interrupt output can rise until a priority is programmed (R415). -/
def Obligations.GathererAtReset : Prop :=
  (∀ b : Build, let g := (State.resetOf b).iga;
      (∀ n, g.stateOf n = .idle ∧ (g.cfgOf n).priority = 0 ∧ (g.cfgOf n).targets = 0) ∧
      g.thresholds = [] ∧ g.withdrawn = [] ∧ g.levels = [] ∧ g.compat = false ∧ g.stray = 0 ∧ g.strayLast = 0 ∧
      g.sw = 0 ∧ ∀ t, g.out t = false) ∧
    (∀ (g : Iga) (t : Nat), (∀ n, (g.cfgOf n).priority = 0) → g.out t = false)

/-- When an interrupt source is eligible, and when an output is high (R406). -/
def Obligations.EligibilityRule : Prop :=
  ∀ (g : Iga) (n t : Nat),
    (g.eligible n t = true ↔ g.stateOf n = .pending ∧ (g.cfgOf n).targets.getLsbD t = true ∧
      tgetD g.thresholds t 0 < (g.cfgOf n).priority) ∧
    ((g.cfgOf n).priority = 0 → g.eligible n t = false) ∧
    (g.out t = true ↔ ∃ m, g.eligible m t = true)

/-- What the end of every command, and the waits that act in it, may change beside the command's own effect. -/
def Obligations.EndOfCommandFrame : Prop :=
  (∀ b t : State,
      let u := State.close b t
      u = { t with
        trace := { t.trace with inbound := u.trace.inbound, seqs := u.trace.seqs }
        feed := { t.feed with mask := u.feed.mask }
        iga := { t.iga with levels := u.iga.levels, states := u.iga.states, withdrawn := u.iga.withdrawn }
        mir := { t.mir with
          sent := u.mir.sent, held := u.mir.held, lastBeat := u.mir.lastBeat, waitSince := u.mir.waitSince }
        power := { t.power with since := u.power.since } }) ∧
    (∀ s : State,
      let u := s.settled
      u = { s with
        queues := u.queues, ctxs := u.ctxs, sync := u.sync, dmes := u.dmes, mip := u.mip
        trace := { s.trace with inbound := u.trace.inbound, seqs := u.trace.seqs }
        mir := { s.mir with held := u.mir.held } }) ∧
    (∀ s : State, (∀ e ∈ s.queues, ∀ u ∈ e.2.subs, u.cmds = []) → (∀ e ∈ s.ctxs, e.2.state ≠ .bindingOff) → s.settled = s)

/-- An access that lies wholly in reserved ranges or at unassigned offsets changes nothing and is not refused (R14). -/
def Obligations.UnassignedOffsetsDoNothing : Prop :=
  (∀ (s : State) (a : HtpAccess) (n : Nat), s.serves → accessBytes a.size = some n →
      (∀ i < n, assignedByte (a.offset + i) = false) →
      (a.write = true → s.hostAccess a = s) ∧
      (a.write = false → s.hostAccess a = { s with htp := { s.htp with resp := some ⟨a.agent, false, 0⟩ } })) ∧
    (∀ off : Nat, (0xA0000 ≤ off ∧ off < 0x100000) ∨ (0x240000 ≤ off ∧ off < 0x1000000) → assignedByte off = false)

/-- A refused access is counted, recorded and answered; one that cannot be served yet is held in order. -/
def Obligations.RefusedAndHeldAccesses : Prop :=
  (∀ (s : State) (agent : Nat) (w : Bool) (off size : Nat) (data : BitVec 512), s.serves → agent < 16 → off < 2 ^ 24 →
      (accessBytes size = none ∨ ∃ n, accessBytes size = some n ∧ (∃ i < n, assignedByte (off + i) = true) ∧
        accepted off n = false) →
      let htp := { s.htp with
        discards := sat32 s.htp.discards 1
        lastBad := BitVec.ofNat 32 (off + 2 ^ 24 * agent + 2 ^ 28 * b2n w) }
      exec (.htpRefusedAccess agent w off size data) s = .next (s.ends { s with
        htp := if w then htp else { htp with resp := some ⟨agent, true, 0⟩ } })) ∧
    (∀ (s : State) (agent off size : Nat) (data : BitVec 512),
      let a : HtpAccess := ⟨agent, true, off, size, data⟩
      (s.ductus.refOk = false →
        exec (.controlRegisterWrite agent off size data) s =
          .next (s.ends { s with htp := { s.htp with waiting := s.htp.waiting ++ [a] } })) ∧
      (s.ductus.refOk = true → s.power.testMode = false → s.awake = false →
        (0x10000 ≤ off ∨ ∃ b ∈ s.htp.held, b.agent = agent) →
        exec (.controlRegisterWrite agent off size data) s =
          .next (s.ends { s with htp := { s.htp with held := s.htp.held ++ [a] } })))

/-- A write to a plain RW register completes, and the register reads back the value in its field. -/
def Obligations.PlainRegistersReadBack : Prop :=
  ∀ (s : State) (agent off : Nat) (v mask : W32), s.serves →
    (off, mask) ∈ [(0x20000, 1), (0x30008, 0xFFFFFFFF), (0x3000C, 0xFFFFFFFF), (0x30030, 0xFFFFFFFF), (0x30034, 0x7FF),
        (0x30044, 0xF1FFF), (0x40000, 0xF), (0x40010, 0xFFFFFFFF), (0x40200, 0x3F), (0x50000, 1), (0x50024, 0xFFFFFFFF),
        (0x60008, 1), (0x60100, 0xFFF), (0x90104, 0x7FFF), (0x90108, (0xFFFFF : W32))] ∨
      (∃ n < 0x3FE, (off, mask) = (0x21000 + 8 * n, 0xF) ∨ (off, mask) = (0x21004 + 8 * n, (0xFFFFFFFF : W32))) ∨
      (∃ t < 32, (off, mask) = (0x24000 + 0x10 * t, (0xF : W32))) →
    exec (.controlRegisterWrite agent off 2 (inLanes off (leBytes 4 v.toNat))) s =
      .next (s.ends (s.write32 agent off v.toNat)) ∧
    (s.ends (s.write32 agent off v.toNat)).reg32 agent off = (v &&& mask).toNat ∧
    (s.write32 agent off v.toNat).mbx = s.mbx ∧ (s.write32 agent off v.toNat).htp = s.htp ∧
    (s.write32 agent off v.toNat).queues = s.queues ∧ (s.write32 agent off v.toNat).ctxs = s.ctxs

/-- Low and high halves of a 64-bit register: latch, staging and commit. -/
def Obligations.SixtyFourBitRegisters : Prop :=
  ∀ (s : State) (agent off v : Nat) (lo hi : W32), s.serves →
    (s.reg64 off = some v → off % 8 = 0 → off < 0xA0000 → assignedWord off = true →
      exec (.lowHalfRead agent off) s = .next (s.ends { s with htp := { s.htp with
        latches := tset s.htp.latches agent ⟨off, BitVec.ofNat 32 (v / 2 ^ 32)⟩
        resp := some ⟨agent, false, inLanes off (leBytes 4 (v % 2 ^ 32))⟩ } })) ∧
    (off ∈ [0x50010, 0x90110, 0x90118] → s.flt.en = false →
      let staged := s.hostAccess (write4 agent off lo)
      staged = { s with htp := { s.htp with
        staged := ⟨agent, off, lo⟩ :: s.htp.staged.filter fun x => !(x.agent == agent && x.offset == off) } } ∧
      staged.hostAccess (write4 agent (off + 4) hi) =
        State.write64 { s with htp := { s.htp with
          staged := s.htp.staged.filter fun x => !(x.agent == agent && x.offset == off) } } off (hi ++ lo))

/-- A read of DUC_TIME_LO latches the high half; a read of an RC counter returns it and clears it. -/
def Obligations.TimeAndReadClearReads : Prop :=
  ∀ (s : State) (agent off : Nat), s.serves →
    exec (.ducTimeLoRead agent) s = .next (s.ends { s with
      ductus := { s.ductus with hiLatch := tset s.ductus.hiLatch agent (BitVec.ofNat 32 (s.now / 2 ^ 32)) }
      htp := { s.htp with resp := some ⟨agent, false, inLanes 0x30000 (leBytes 4 (s.now % 2 ^ 32))⟩ } }) ∧
    (off ∈ [0x00100, 0x00108, 0x10404, 0x10408, 0x20004, 0x3003C, 0x3004C, 0x50028, 0x50030, 0x60014, 0x7002C, 0x80008,
        0x8000C, 0x80020, 0x9003C, 0x90148] →
      exec (.readClearRegister agent off) s =
        .next (s.ends ((s.readEffect agent off).respond (read4 agent off) false (inLanes off (leBytes 4 (s.reg32 agent off))))) ∧
      (s.ends ((s.readEffect agent off).respond (read4 agent off) false (inLanes off (leBytes 4 (s.reg32 agent off))))).reg32
        agent off = 0) ∧
    exec (.dbgNfCountRead agent) s = .next (s.ends { s with
      dbg := { s.dbg with nfCount := 0 }
      htp := { s.htp with resp := some ⟨agent, false, inLanes 0x9003C (leBytes 4 s.dbg.nfCount.toNat)⟩ } }) ∧
    exec (.dbgSyncFaultCountRead agent) s = .next (s.ends { s with
      dbg := { s.dbg with syncFaults := 0 }
      htp := { s.htp with resp := some ⟨agent, false, inLanes 0x90148 (leBytes 4 s.dbg.syncFaults.toNat)⟩ } })

/-- What the catcher does with a doorbell write: format, binding, replacement in place, order, back-pressure. -/
def Obligations.DoorbellCatcher : Prop :=
  ∀ (s : State) (page index size : Nat) (data : W64), page < 16384 → index < 512 →
    let off := page * 4096 + index * 8
    let tail := data.setWidth 32
    let formed := size = 2 ∨ (size = 3 ∧ data.toNat < 2 ^ 32)
    let dropped (reason : Nat) : State := { s with bells := { s.bells with
      drops := sat32 s.bells.drops 1, lastDrop := BitVec.ofNat 32 (page + 2 ^ 14 * index + 2 ^ 24 * reason) } }
    let flows := s.ductus.refOk = true ∧ s.power.testMode = false ∧ s.bells.held = [];
    (¬flows → ∀ r < 8, ∃ d : HeldDoorbell, d.page = page ∧ d.index = index ∧ d.tail = tail ∧
      (d.formed = true ↔ formed ∧ r = 0) ∧ exec (.doorbellWrite (off + r) size data) s =
        .next (State.close s { s with bells := { s.bells with held := s.bells.held ++ [d] } })) ∧
    (flows → ¬formed → exec (.doorbellWrite off size data) s = .next (State.close s (dropped 1))) ∧
    (flows → ∀ r < 8, r ≠ 0 → exec (.doorbellWrite (off + r) size data) s = .next (State.close s (dropped 1))) ∧
    (formed → flows →
      (tget s.bells.binds page = none →
        exec (.doorbellWrite off size data) s = .next (State.close s (dropped 0))) ∧
      ∀ h, tget s.bells.binds page = some h →
        ((∃ e ∈ s.bells.catcher, e.page = page ∧ e.index = index) →
          exec (.doorbellWrite off size data) s = .next (State.close s { s with bells := { s.bells with
            catcher := s.bells.catcher.map fun e => if e.page = page ∧ e.index = index then
              { e with tail := tail, handle := h, stamp := s.aoNow, ao := !s.awake, traced := s.trace.admits 1 false } else e } })) ∧
        ((¬∃ e ∈ s.bells.catcher, e.page = page ∧ e.index = index) → s.bells.catcher.length < 4096 →
          exec (.doorbellWrite off size data) s = .next (State.close s { s with bells := { s.bells with
            catcher := s.bells.catcher ++ [⟨page, index, tail, h, s.aoNow, !s.awake, s.trace.admits 1 false⟩] } })) ∧
        ((¬∃ e ∈ s.bells.catcher, e.page = page ∧ e.index = index) → 4096 ≤ s.bells.catcher.length →
          exec (.doorbellWrite off size data) s = .next (State.close s { s with bells := { s.bells with
            held := [⟨page, index, tail, true⟩] } })))

/-- Acquiring, releasing, acknowledging and force-freeing a mailbox. -/
def Obligations.MailboxOwnership : Prop :=
  ∀ (s : State) (agent n : Nat) (v : W32) (b : Mailbox), s.serves → n < 16 → s.mbx.boxes[n]? = some b →
    let own := b.state ≠ .free ∧ b.owner = agent
    let counted : State := { s with mbx := { s.mbx with discards := sat32 s.mbx.discards 1 } }
    let becomes (b' : Mailbox) : State := { s with mbx := { s.mbx with boxes := s.mbx.boxes.set n b' } }
    let freed : Mailbox := { b with
      state := .free, inkBase := 0, inkCount := 0, reqLen := 0, respLen := 0, result := 0, forced := false }
    (b.state = .free → exec (.mbxAcquire agent n v) s = .next (s.ends (becomes { b with
      owner := agent, state := .idle, irqEn := false, inkBase := 0, inkCount := 0, toFw := 0, toHost := 0 }))) ∧
    (b.state ≠ .free → exec (.mbxAcquire agent n v) s = .next (s.ends s)) ∧
    (own → b.state = .idle ∨ b.state = .done → exec (.mbxRelease agent n v) s = .next (s.ends (becomes freed))) ∧
    (¬own ∨ b.state = .posted ∨ b.state = .busy → exec (.mbxRelease agent n v) s = .next (s.ends counted)) ∧
    (own → b.state = .done → exec (.mbxAck agent n v) s = .next (s.ends (becomes { b with state := .idle }))) ∧
    (¬own ∨ b.state ≠ .done → exec (.mbxAck agent n v) s = .next (s.ends counted)) ∧
    (bits v.toNat 3 0 = n →
      (b.state = .idle ∨ b.state = .done → exec (.mbxForceFree agent v) s = .next (s.ends (becomes freed))) ∧
      (b.state = .posted ∨ b.state = .busy →
        exec (.mbxForceFree agent v) s = .next (s.ends (becomes { b with forced := true }))) ∧
      (b.state = .free → exec (.mbxForceFree agent v) s = .next (s.ends s)))

/-- Posting a request, setting the Inkwell range, and writing the mailbox buffer. -/
def Obligations.MailboxPosting : Prop :=
  ∀ (s : State) (agent n size k off : Nat) (v : W32) (data : BitVec 512) (b : Mailbox),
    s.serves → n < 16 → s.mbx.boxes[n]? = some b →
    let own := b.state ≠ .free ∧ b.owner = agent
    let counted : State := { s with mbx := { s.mbx with discards := sat32 s.mbx.discards 1 } }
    let len := bits v.toNat 8 0
    let good := len % 8 = 0 ∧ 8 ≤ len ∧ len ≤ 256;
    (own → b.state = .idle → good → s.mgmt.exchange ≠ .switching →
      exec (.mbxDoorbell agent n v) s = .next (s.ends
        ((s.mailboxRecord n 0 false).modBox n fun b => { b with state := .posted, reqLen := len, seen := s.aoNow }))) ∧
    (¬own ∨ b.state ≠ .idle ∨ ¬good → exec (.mbxDoorbell agent n v) s = .next (s.ends counted)) ∧
    (own → b.state = .idle → s.inkRangeOk n (bits v.toNat 7 0) (bits v.toNat 16 8) = true →
      exec (.mbxInkWrite agent n v) s = .next (s.ends
        (s.modBox n fun b => { b with inkBase := bits v.toNat 7 0, inkCount := bits v.toNat 16 8 }))) ∧
    (¬own ∨ b.state ≠ .idle ∨ s.inkRangeOk n (bits v.toNat 7 0) (bits v.toNat 16 8) = false →
      exec (.mbxInkWrite agent n v) s = .next (s.ends counted)) ∧
    (accessBytes size = some k → off % k = 0 → off / 0x100 = n →
      let bytes := HtpAccess.bytes ⟨agent, true, 0x11000 + off, size, data⟩ k;
      (b.owner = agent → b.state = .idle → exec (.mbxDataWrite agent off size data) s =
        .next (s.ends { s with mbx := { s.mbx with data := s.mbx.data.write off bytes } })) ∧
      (b.owner ≠ agent ∨ b.state ≠ .idle → exec (.mbxDataWrite agent off size data) s = .next (s.ends counted)))

/-- When the host may write an Inkwell slot. -/
def Obligations.InkwellHostWrites : Prop :=
  ∀ (s : State) (agent size k off : Nat) (data : BitVec 512), s.serves → off < 0x100000 → accessBytes size = some k →
    off % k = 0 →
    let bytes := HtpAccess.bytes ⟨agent, true, 0x100000 + off, size, data⟩ k
    let wrote : State := { s with mbx := { s.mbx with ink := s.mbx.ink.write off bytes } }
    let counted : State := { s with mbx := { s.mbx with inkDiscards := sat32 s.mbx.inkDiscards 1 } }
    let slot := off / 0x1000
    let old := wordOwner (s.slotWord slot)
    let ends (t : State) := exec (.inkwellHostWrite agent off size data) s = .next (s.ends t)
    (s.cpb.state ≠ .running → ends wrote) ∧
    (s.cpb.state = .running →
      (s.slotBox slot = none → ends counted) ∧
      ∀ b, s.slotBox slot = some b →
        (b.owner ≠ agent → ends counted) ∧
        (b.owner = agent →
          (off % 0x1000 = 0 → k = 8 →
            (wordPermitted old (wordOwner (leNat bytes)) = true → ends wrote) ∧
            (wordPermitted old (wordOwner (leNat bytes)) = false → ends counted)) ∧
          (off % 0x1000 < 8 → (off % 0x1000 ≠ 0 ∨ k ≠ 8) → ends counted) ∧
          (8 ≤ off % 0x1000 → old ≤ 1 → ends wrote) ∧ (8 ≤ off % 0x1000 → 1 < old → ends counted)))

/-- What an EPOCH_P edge, a missed edge and DUC_CTRL.ARM do in each epoch state. -/
def Obligations.EpochLogic : Prop :=
  ∀ (s : State) (agent : Nat) (v : W32), s.primary = true → s.ductus.refOk = true →
    let d := s.ductus
    let off := edgeOffset d.count
    let seen : Ductus := { d with edges := d.edges + 1, offset := BitVec.ofInt 32 off, lastEdge := d.count }
    let near := -1000 ≤ off ∧ off ≤ 1000
    let edge (t : State) := d.phase = 0 → exec .epochPEdge s = .next (State.close s t)
    (d.epoch = .unset → edge { s with ductus := seen }) ∧
    (d.epoch = .locked → near → edge { s with ductus := { seen with slew := off } }) ∧
    (d.epoch = .locked → ¬near →
      edge (State.blotEpoch { s with ductus := { seen with offsetBad := true, epoch := .holdover } } off)) ∧
    (d.epoch = .holdover → near → edge { s with ductus := { seen with slew := off, epoch := .locked } }) ∧
    (d.epoch = .holdover → ¬near → edge { s with ductus := seen }) ∧
    (d.epoch = .armed → d.phase = 0 → ∃ t, exec .epochPEdge s = .next t ∧ t.ductus = { seen with
      count := d.load.toNat, phase := 0, epoch := .locked, slew := 0, lastEdge := d.load.toNat
      loads := d.loads + 1 } ∧
      t.trace.second = d.load.toNat / 1000000000 ∧ t.queues = s.queues ∧ t.mbx = s.mbx ∧ t.flt = s.flt) ∧
    (d.epoch = .locked → d.lastEdge + 2000000000 ≤ d.count →
      exec .epochMissed s = .next (State.close s (State.blotEpoch
        { s with ductus := { d with epochMissed := true, epoch := .holdover } } d.offset.toInt))) ∧
    (s.serves → bits v.toNat 2 0 = 1 + 2 * b2n s.trace.en + 4 * b2n s.trace.wrap →
      (d.load.toNat % 1000000000 = 0 → exec (.ducArmWrite agent v) s = .next (s.ends { s with ductus := { d with
        epoch := .armed, prior := if d.epoch = .armed then d.prior else d.epoch } })) ∧
      (d.load.toNat % 1000000000 ≠ 0 → exec (.ducArmWrite agent v) s = .next (s.ends { s with ductus := { d with
        loadRefused := true, epoch := if d.epoch = .armed then d.prior else d.epoch } })))

/-- An alignment round computes an offset per child, and a child slews by it or raises its alignment fault. -/
def Obligations.AlignmentRounds : Prop :=
  ∀ (s : State) (child : YarnChild) (p0 p1 p2 p3 p : Probe) (off : Int) (rest : List (YarnChild × Int)),
    (s.roundFits child [p0, p1, p2, p3] = true → s.aligns child = true → s.alignDue child = true → s.awake = true → bestProbe [p0, p1, p2, p3] = some p →
      p ∈ [p0, p1, p2, p3] ∧ (∀ q ∈ [p0, p1, p2, p3], probeTrip p ≤ probeTrip q) ∧
      ∃ t, exec (.alignmentRound child [p0, p1, p2, p3]) s = .next t ∧
        t.ductus.sentOffsets = s.ductus.sentOffsets ++ [(child, Int.tdiv ((p.t2 - p.t1) - (p.t4 - p.t3)) 2)] ∧
        t.ductus.count = s.ductus.count ∧ t.ductus.epoch = s.ductus.epoch ∧
        t.splitters = (s.roundRun child).splitters ∧ t.nibs = (s.roundRun child).nibs ∧
        t.queues = s.queues ∧ t.mip = s.mip) ∧
    (s.ductus.sentOffsets = (child, off) :: rest → s.aligns child = true →
      let s' := { s with ductus := { s.ductus with sentOffsets := rest } }
      let took (by_ : Int) : Prop := ∀ n sp : Nat,
        (child = .nib n → exec (.alignOffsetReceived child) s = .next (State.close s (s'.modNib n fun x =>
          { x with unaligned := false, slew := by_, offset := some (x.offset.getD (s.parentNow child - s.now)) }))) ∧
        (child = .splitter sp → exec (.alignOffsetReceived child) s = .next (State.close s (s'.modSplitter sp fun x =>
          { x with unaligned := false, slew := by_, offset := some (x.offset.getD 0) })))
      ((s.childOffset child).isSome = true → off.natAbs ≤ 1000 → took off) ∧
      (s.childOffset child = none → took 0) ∧
      ((s.childOffset child).isSome = true → 1000 < off.natAbs → ∀ n, child = .nib n →
        ∃ t, exec (.alignOffsetReceived child) s = .next t ∧ t.ductus.alignFaults = sat32 s.ductus.alignFaults 1 ∧
          t.nibs = (s.modNib n fun x =>
            { x with unaligned := true, offset := some (x.offset.getD (s.parentNow child - s.now)) }).nibs ∧
          t.flt.seq = s.flt.seq + 1))

/-- Enabling, disabling and flushing the trace; TIME_SYNC records. -/
def Obligations.TraceControl : Prop :=
  ∀ (s : State) (agent : Nat) (v : W32),
    (s.serves → bit v.toNat 0 = false → bit v.toNat 1 = true → s.trace.en = false →
      exec (.ducTraceEnable agent v) s = .next (s.ends (State.timeSync { s with trace := { s.trace with
        wrap := bit v.toNat 2, en := true, idle := false, second := s.now / 1000000000 } }))) ∧
    (s.serves → bit v.toNat 0 = false → bit v.toNat 1 = false →
      exec (.ducTraceDisable agent v) s = .next (s.ends { s with trace := { s.trace with
        wrap := bit v.toNat 2, en := false } })) ∧
    (s.trace.en = true → s.trace.second < s.now / 1000000000 →
      exec .timeSyncRecord s = .next (State.close s (State.timeSync { s with trace := { s.trace with
        second := s.now / 1000000000 } })))

/-- A record reaches the writer buffer or is dropped and counted; records are written in the rings and become visible. -/
def Obligations.TraceRecordsMove : Prop :=
  ∀ (s s0 : State) (q : MemReq) (r : TraceRec) (rest : List TraceRec) (b : BlotRec) (held : List BlotRec),
    (s.trace.inbound = r :: rest →
      (s.now ≤ r.stamp + 100000000 → s.trace.loss = none → s.trace.held + r.size ≤ 4096 →
        exec (.traceRecordArrival none) s = .next (State.close s { s with trace := { s.trace with
          inbound := rest, buf := s.trace.buf ++ [r], idle := false } })) ∧
      (r.stamp + 100000000 < s.now →
        ∃ t, exec (.traceRecordArrival none) s = .next t ∧ t.trace.drop = sat32 s.trace.drop 1 ∧
          t.trace.buf = s.trace.buf ∧ t.trace.loss.isSome = true)) ∧
    (s.trace.buf[s.trace.issued]? = some r → s.trace.ringLoss = none →
      (s.trace.fullAt s.trace.next = true → ∃ t : Trace, s.issueTrace = { s with trace := t } ∧ t.drop = sat32 s.trace.drop 1 ∧
        t.ringLoss = some ⟨1, r.stamp⟩ ∧ t.buf = s.trace.buf.take s.trace.issued ++ s.trace.buf.drop (s.trace.issued + 1)) ∧
      (s.trace.fullAt s.trace.next = false → s.mip.any MemReq.beforeTrace = false → s.paceTrace.trace.spent = 0 →
        (traceFull r.typ = false ∨ s.trace.next.toNat * 16 % 2 ^ s.trace.log2 ≠ 2 ^ s.trace.log2 - 16) →
        s.issueTrace = State.portWrite { s with trace := { s.paceTrace.trace with
            issued := s.trace.issued + 1, spent := r.size } } .traceWrite s.trace.pasid.toNat
          (s.trace.base + BitVec.ofNat 64 (s.trace.next.toNat * 16 % 2 ^ s.trace.log2)) r.bytes)) ∧
    (s.trace.buf = r :: rest → s.trace.loss = none → s.answered .traceWrite = some (q, s0) →
      exec .traceWriteVisible s = .next (State.close s0 { s0 with trace := { s0.trace with
        buf := rest, issued := s.trace.issued - 1, wr := s.trace.wr + BitVec.ofNat 32 (r.size / 16) } })) ∧
    (s.flt.en = true → (s.flt.wr - s.flt.rd).toNat < 2 ^ s.flt.log2 / 64 - 1 → s.flt.loss = none → s.flt.flight = none →
      s.flt.held = b :: held →
      s.issueBlot = State.portWrite { s with flt := { s.flt with flight := some b } } .blotWrite s.flt.pasid.toNat
        (s.flt.base + BitVec.ofNat 64 (s.flt.wr.toNat * 64 % 2 ^ s.flt.log2)) b.bytes) ∧
    (s.flt.flight = some b → b.kind ≠ 0x0F → s.answered .blotWrite = some (q, s0) →
      exec .blotterWriteVisible s = .next (State.close s0 { s0 with flt := { s0.flt with
        flight := none, wr := s.flt.wr + 1, held := s.flt.held.drop 1 } }))

/-- A Henpen command that a gate, its framing or an argument check refuses has no effect but its answer. -/
def Obligations.HenpenRefusals : Prop :=
  ∀ (s : State) (id : Nat) (p : Prog) (st : W16) (detail off : Nat), s.prog id = some p → s.firmware = true →
    p.pendingAnswer = false → s.behind p = false →
    (s.frame p = some (st, detail) →
      (p.command = 0x0201 → exec (.ctxCastOn id) s = .next (s.ends (s.answer p st detail []))) ∧
      (p.command = 0x0301 → exec (.queueCreate id) s = .next (s.ends (s.answer p st detail []))) ∧
      (p.command = 0x0204 → exec (.eventAlloc id) s = .next (s.ends (s.answer p st detail []))) ∧
      (p.command = 0x0501 → exec (.partCreate id) s = .next (s.ends (s.answer p st detail [])))) ∧
    (s.frame p = none → p.command = 0x0201 → lowestFail (p.headerChecks ++ s.castChecks p) = some (off, st) →
      exec (.ctxCastOn id) s = .next (s.ends (s.answer p st off []))) ∧
    (s.frame p = none → p.command = 0x0301 → lowestFail (p.headerChecks ++ s.queueChecks p) = some (off, st) →
      exec (.queueCreate id) s = .next (s.ends (s.answer p st off []))) ∧
    (∀ command, s.cfg.state = .halted → passesHalt command = false → s.gate command = some Code.halted) ∧
    (∀ command, s.cfg.state ≠ .halted → s.cfg.ready = false → command ≠ 0x0001 → s.gate command = some Code.notReady) ∧
    (∀ command, s.cfg.state = .incomplete → s.cfg.ready = true → needsSeal command = true →
      s.gate command = some Code.configIncomplete) ∧
    (∀ command, s.cfg.state ∉ [.halted, .incomplete, .sealed] → s.cfg.ready = true → needsSeal command = true →
      s.gate command = some Code.sealInvalid)

/-- BOOT_HELLO and the queries answer OK with the results of their layouts, and change nothing else. -/
def Obligations.BootAndQueryCommands : Prop :=
  ∀ (s : State) (id : Nat) (p : Prog),
    (s.mayCommit id 0x0001 (fun p => [(0x22, zeros (slice p.request 0x22 6), Code.reservedSet)]) p →
      exec (.bootHello id) s = .next (s.answersOk { s with iga := { s.iga with exchangeLatch := false } } p
        (leBytes 2 s.mgmt.fwVersion.toNat ++ leBytes 2 s.helloState ++ leBytes 4 0x04020000 ++
          leBytes 2 (s.nibs.countP Nib.present) ++ leBytes 2 s.openSlots ++ leBytes 2 s.mgmt.lastExchange.toNat ++
          leBytes 2 0))) ∧
    (s.mayCommit id 0x0102 (fun _ => []) p → ∃ crcs : List Byte, crcs.length = 24 ∧
      exec (.cfgQuery id) s = .next (s.answersOk s p
        (leBytes 2 s.helloState ++ leBytes 2 s.cfg.firstFail.toNat ++ crcs ++ leBytes 4 0)) ∧
      ∀ i < 6, le crcs (4 * i) 4 = match tget s.cfg.tables (i + 1) with | some t => t.crc.toNat | none => 0) ∧
    (s.mayCommit id 0x0203 (fun p => (0x20, s.queryable p.handle, Code.badHandle) :: oneArg p) p →
      exec (.ctxQuery id) s = .next (s.answersOk s p (s.ctxResults p.handle)) ∧
      (s.ctxOf p.handle = none → s.ctxResults p.handle = List.replicate 32 0)) ∧
    (s.mayCommit id 0x0503 (fun p => s.partCheck p :: oneArg p) p → ∀ x, tget s.parts (p.arg 0x20) = some x →
      exec (.partQuery id) s = .next (s.answersOk s p
        (leBytes 4 x.nibs.length ++ leBytes 4 (x.power + 65536 * x.effective) ++ nibMask x.nibs))) ∧
    (s.mayCommit id 0x0305 (fun p => s.queueCheck p true :: oneArg p) p → ∀ x, tget s.queues (p.arg 0x20) = some x →
      x.resident = true → exec (.queueQuery id) s = .next (s.answersOk s p (s.queueResults (p.arg 0x20) x))) ∧
    (s.mayCommit id 0x0601 (fun _ => []) p → ∃ r, exec (.queryClocks id) s = .next (s.answersOk s p r) ∧
      le r 0 2 = s.build.hclk % 65536 ∧ le r 3 1 = b2n s.ductus.refOk ∧
      ∀ (g : Nat) (x : Rail), s.feed.rails[g]? = some x → le r (8 + 4 * g) 4 = (x.level + 16 * s.nclkAt x.level) % 2 ^ 32) ∧
    (s.mayCommit id 0x0602 (fun _ => []) p → ∃ r, exec (.queryTemps id) s = .next (s.answersOk s p r) ∧
      ∀ (g : Nat) (x : Rail), s.feed.rails[g]? = some x → le r (2 * g) 2 = unsignedOf 16 x.lastTemp) ∧
    (s.mayCommit id 0x0603 (fun _ => []) p → ∃ r, exec (.queryLimits id) s = .next (s.answersOk s p r) ∧
      le r 0 2 = s.openSlots)

/-- Casting a context on and binding it off. -/
def Obligations.ContextCommands : Prop :=
  ∀ (s : State) (id slot : Nat) (p : Prog),
    (s.mayCommit id 0x0201 s.castChecks p →
      (s.openSlot = none → exec (.ctxCastOn id) s = .next (s.ends (s.answer p Code.noContextSlot 1 []))) ∧
      (s.openSlot = some slot → s.freePages < p.arg 0x28 →
        exec (.ctxCastOn id) s = .next (s.ends (s.answer p Code.noDoorbell (p.arg 0x28 - s.freePages) []))) ∧
      (s.openSlot = some slot → p.arg 0x28 ≤ s.freePages →
        let gen := s.slotGen slot + 1
        let h := handleOf slot gen
        let pages := s.lowestPages (p.arg 0x28)
        slot < 1024 ∧ s.slotOpen slot = true ∧ (∀ i < slot, s.slotOpen i = false) ∧
        exec (.ctxCastOn id) s = .next (s.answersOk { s with
          ctxs := tset s.ctxs slot { Ctx.blank gen false with
            state := .active, pasid := p.arg 0x20, partition := partArg (p.arg 0x24), kernel := bit (p.arg 0x30) 0
            budget := p.arg 0x2C, pages := pages }
          bells := { s.bells with binds := pages.foldl (fun b pg => tset b pg h) s.bells.binds } } p
          (leBytes 4 h.toNat ++ leBytes 4 (p.arg 0x28) ++ pageList pages)))) ∧
    (s.mayCommit id 0x0202 s.bindOffChecks p →
      let t := s.bindOff (handleSlot p.handle) (if bit (p.arg 0x24) 0 then some (p.arg 0x28) else none);
      (p.isAdmin = false → exec (.ctxBindOff id) s = .next (s.endsQuiet (t.answer p Code.pending 0 []))) ∧
      (p.isAdmin = true → exec (.ctxBindOff id) s =
        .next (s.endsQuiet (t.modProg id fun p => { p with pendingAnswer := true }))) ∧
      (∀ c, tget s.ctxs (handleSlot p.handle) = some c →
        (tget t.ctxs (handleSlot p.handle)).map Ctx.state = some .bindingOff) ∧
      ∀ q x, tget t.queues q = some x → handleSlot x.handle = handleSlot p.handle → x.enabled = false) ∧
    (s.mayCommit id 0x0002 s.adminChecks p →
      ((tget s.queues 0).isSome = true → exec (.adminQueueSetup id) s = .next (s.ends (s.answer p Code.adminExists 0 []))) ∧
      (tget s.queues 0 = none → s.openSlot = some slot → tget s.bells.binds (p.arg 0x24) = none →
        let h := handleOf slot (s.slotGen slot + 1)
        let t := s.castOn slot (p.arg 0x20) none [p.arg 0x24] 0 true
        exec (.adminQueueSetup id) s = .next (s.answersOk
          (State.makeResident { t with queues := tset t.queues 0 (adminQueue p h) } 0) p
          (leBytes 4 h.toNat ++ leBytes 4 0))))

/-- Allocating and freeing event indices. -/
def Obligations.EventCommands : Prop :=
  ∀ (s : State) (id slot : Nat) (p : Prog) (c : Ctx), s.ctxOf p.handle = some (slot, c) →
    (s.mayCommit id 0x0204 (fun p => [s.handleCheck p, within 0x24 (p.arg 0x24) 1 65536]) p →
      let run := (freeRuns (c.events.map Prod.fst) 0).find? fun r => decide (p.arg 0x24 ≤ r.2);
      (c.state ≠ .active →
        exec (.eventAlloc id) s = .next (s.ends (s.answer p Code.contextBusy (handleOf slot c.gen).toNat []))) ∧
      (c.state = .active → ∀ first len, run = some (first, len) →
        exec (.eventAlloc id) s = .next (s.answersOk
          ((s.modCtx slot fun c => { c with events := allocEvents c.events first (p.arg 0x24) }).writePrivate
            (s.mgmt.eventBase + BitVec.ofNat 64 (8 * (65536 * slot + first)))
            (List.replicate (8 * p.arg 0x24) 0)) p
          (leBytes 4 first ++ leBytes 4 0))) ∧
      (c.state = .active → run = none → ∃ short,
        exec (.eventAlloc id) s = .next (s.ends (s.answer p Code.noEvent short [])))) ∧
    (s.mayCommit id 0x0205 s.eventFreeChecks p →
      let evs := (List.range (p.arg 0x28)).map (p.arg 0x24 + ·);
      (c.state = .active → evs.any (s.eventUsed slot) = false →
        exec (.eventFree id) s = .next (s.answersOk
          (s.modCtx slot fun c => { c with events := c.events.filter fun e => !evs.contains e.1 }) p [])) ∧
      (c.state = .active → evs.any (s.eventUsed slot) = true →
        exec (.eventFree id) s = .next (s.ends (s.answer p Code.contextBusy (handleOf slot c.gen).toNat []))))

/-- Creating, disabling, enabling and destroying a queue. -/
def Obligations.QueueCommands : Prop :=
  ∀ (s : State) (id slot q : Nat) (p : Prog) (c : Ctx) (x : Queue), c.state = .active →
    (s.mayCommit id 0x0301 s.queueChecks p → s.ctxOf p.handle = some (slot, c) → s.freeQueue = some q →
      ∀ page index, s.freeIndex c.pages = some (page, index) →
        0 < q ∧ tget s.queues q = none ∧ (∀ e ∈ s.queues, ¬(e.2.dbPage = page ∧ e.2.dbIndex = index)) ∧
        exec (.queueCreate id) s = .next (s.answersOk { s with queues := tset s.queues q (newQueue p page index) } p
          (leBytes 4 q ++ leBytes 2 page ++ leBytes 2 index))) ∧
    (p.arg 0x20 = q → tget s.queues q = some x → x.resident = true → s.ctxOf x.handle = some (slot, c) →
      (s.mayCommit id 0x0302 (fun p => s.queueCheck p false :: oneArg p) p → x.enabled = true →
        exec (.queueDisable id) s = .next (s.answersOk
          (s.modQueue q fun x => { x.discardRa with enabled := false }) p [])) ∧
      (s.mayCommit id 0x0303 (fun p => s.queueCheck p false :: oneArg p) p → x.enabled = false → x.device = false →
        exec (.queueEnable id) s = .next (s.answersOk
          ((s.modQueue q fun x => { x with enabled := true }).bell q x.fetch) p [])) ∧
      (s.mayCommit id 0x0304 (fun p => s.queueCheck p false :: oneArg p) p →
        (s.queueIdle q x = true → exec (.queueDestroy id) s = .next (s.answersOk (State.pageIn { s with
          queues := tdel s.queues q
          qe := { s.qe with
            resident := s.qe.resident.filter (· != q), loads := tdel s.qe.loads q
            paging := s.qe.paging.filter fun e => e.1 != q } }) p [])) ∧
        (s.queueIdle q x = false →
          exec (.queueDestroy id) s = .next (s.ends (s.answer p Code.queueNotIdle q [])))))

/-- Registering and unregistering patterns and groups. -/
def Obligations.PatternCommands : Prop :=
  ∀ (s : State) (id slot i : Nat) (p : Prog) (c : Ctx), s.ctxOf p.handle = some (slot, c) → c.state = .active →
    c.openIndex = some i →
    let gen := (match tget c.patterns i with | some x => x.gen | none => 0) + 1
    let handle : W32 := BitVec.ofNat 32 (65536 * gen + i)
    (s.mayCommit id 0x0401 (fun p => s.handleCheck p :: oneArg p) p →
      (∀ number v, verify p.bulk p.dataLen (s.candidates c) = .ok (number, v) →
        let tag := s.mgmt.lastTag + 1
        exec (.patternRegister id) s = .next (s.answersOk (State.writePrivate { s with
          ctxs := tset s.ctxs slot { c with
            patterns := tset c.patterns i ⟨gen, .pattern (muPattern p.bulk number v s.freeEntry tag)⟩ }
          mgmt := { s.mgmt with store := tset s.mgmt.store s.freeEntry (tag, v), lastTag := tag } }
          (s.mgmt.patternBase + BitVec.ofNat 64 (s.freeEntry * 8192))
          (padTo v.formSize (Config.patternForm v tag))) p
          (leBytes 4 handle.toNat ++ leBytes 4 number))) ∧
      (∀ code detail, verify p.bulk p.dataLen (s.candidates c) = .error (code, detail) →
        exec (.patternRegister id) s = .next (s.ends (s.answer p code detail [])))) ∧
    (s.mayCommit id 0x0402 s.groupChecks p →
      exec (.patternGroupRegister id) s = .next (s.answersOk { s with
        ctxs := tset s.ctxs slot { c with
          patterns := tset c.patterns i ⟨gen, .group ((List.range (p.arg 0x24)).map fun k => le32 p.request (0x28 + 4 * k))⟩ } } p
        (leBytes 4 handle.toNat ++ leBytes 4 0))) ∧
    (s.mayCommit id 0x0403 (fun p => (0x20, (s.patternOwner p.handle).isSome, Code.badHandle) :: oneArg p) p →
      ∀ owner, s.patternOwner p.handle = some owner →
        exec (.patternUnregister id) s = .next (s.answersOk (s.modCtx owner fun c =>
          { c with patterns := tmod c.patterns (bits p.handle.toNat 15 0) fun x => { x with content := .empty } }) p []))

/-- Creating and destroying partitions, and a report of D_now. -/
def Obligations.PartitionCommands : Prop :=
  ∀ (s : State) (id gbs : Nat) (p : Prog) (nibs : List Nat),
    let q := p.arg 0x20
    let power := s.powerSum + p.arg 0x28
    let band := s.bandwidthSum + p.arg 0x2C;
    (s.mayCommit id 0x0501 partChecks p →
      ((tget s.parts q).isSome = true →
        exec (.partCreate id) s = .next (s.ends (s.answer p Code.partitionBusy q []))) ∧
      (tget s.parts q = none → s.grantNibs p.nibs (p.arg 0x24) = .ok nibs →
        (256 < power → exec (.partCreate id) s = .next (s.ends (s.answer p Code.noPowerShare (power - 256) []))) ∧
        (power ≤ 256 → 1024 < band →
          exec (.partCreate id) s = .next (s.ends (s.answer p Code.noBandwidth (band - 1024) []))) ∧
        (power ≤ 256 → band ≤ 1024 →
          exec (.partCreate id) s = .next (s.answersOk
            (State.sendRates { s with parts := tset s.parts q (s.newPart nibs (p.arg 0x28) (p.arg 0x2C)) }).stepRails p
            (leBytes 4 nibs.length ++ leBytes 4 0 ++ nibMask nibs))))) ∧
    (s.mayCommit id 0x0502 (fun p => s.partCheck p :: oneArg p) p →
      (s.partNamed q = true → exec (.partDestroy id) s = .next (s.ends (s.answer p Code.partitionBusy q []))) ∧
      (s.partNamed q = false → exec (.partDestroy id) s = .next (s.answersOk
        (State.sendRates { s with parts := tdel s.parts q }).stepRails p []))) ∧
    (s.awake = true → gbs < 2 ^ 20 →
      let t : State := { s with feed := { s.feed with dNow := some gbs } }
      let scaled : State := State.sendRates { t with parts := tmap s.parts fun _ x => { x with
        effective := if gbs < s.live.deliverable then x.bandwidth * gbs / s.live.deliverable else x.bandwidth } }
      (¬(s.live.sealed = true ∧ s.primary = true) → exec (.dNowReport gbs) s = .next (State.close s t)) ∧
      (s.live.sealed = true → s.primary = true → s.live.deliverable ≤ gbs → scaled.parts = s.parts →
        exec (.dNowReport gbs) s = .next (State.close s scaled)) ∧
      (s.live.sealed = true → s.primary = true → gbs < s.live.deliverable ∨ scaled.parts ≠ s.parts →
        exec (.dNowReport gbs) s = .next (State.close s (scaled.blot 0 0x05 unitFm (s.live.deliverable + 2 ^ 32 * gbs +
          2 ^ 64 * scaled.parts.countP fun e => e.2.effective != e.2.bandwidth)))))

/-- Loading a configuration table; TRACE_CONTROL. -/
def Obligations.TableAndTraceCommands : Prop :=
  ∀ (s : State) (id : Nat) (p : Prog),
    (s.mayCommit id 0x0101 (fun p => within 0x20 (p.arg 0x20) 1 6 :: oneArg p) p →
      let k := p.arg 0x20
      let crc := crc32c p.bulk
      let c : Cfg := { s.cfg with
        tables := tset s.cfg.tables k ⟨p.bulk, crc⟩, energyNew := s.cfg.energyNew || k == 5
        check := s.cfg.check.map fun x => { x with changed := some (x.changed.getD k) } }
      (s.cfg.state ≠ .sealed → exec (.cfgLoadTable id) s =
        .next (s.answersOk { s with cfg := c } p (leBytes 4 crc.toNat ++ leBytes 4 0))) ∧
      (s.cfg.state = .sealed → exec (.cfgLoadTable id) s = .next (s.answersOk
        (State.withholdAll (reason := none) { s with
          cfg := { c with state := .sealBroken, breaks := sat32 s.cfg.breaks 1 }
          iga := { s.iga with configLatch := true } }) p (leBytes 4 crc.toNat ++ leBytes 4 0)))) ∧
    (s.mayCommit id 0x0701 traceChecks p →
      let t := s.traceMasks p
      t = { s with trace := { s.trace with
        mask := BitVec.ofNat 32 (p.arg 0x24) &&& 0x7FF, mopSel := BitVec.ofNat 32 (p.arg 0x3C) &&& 0xF1FFF } } ∧
      (p.arg 0x20 = 0 → s.trace.en = true →
        exec (.traceControlConfigure id) s = .next (s.ends (s.answer p Code.traceActive 0 []))) ∧
      (p.arg 0x20 = 0 → s.trace.en = false →
        exec (.traceControlConfigure id) s = .next (s.answersOk { t with trace := { t.trace with
          base := le64 p.request 0x28, log2 := p.arg 0x30, rate := BitVec.ofNat 32 (p.arg 0x34)
          pasid := BitVec.ofNat 32 (p.arg 0x38), wrap := p.arg 0x40 == 1 } } p [])) ∧
      (p.arg 0x20 = 1 → exec (.traceControlEnable id) s = .next (s.answersOk (t.setTraceEn true) p [])) ∧
      (p.arg 0x20 = 2 → s.trace.idle = true →
        exec (.traceControlDisable id) s = .next (s.answersOk { t with trace := { t.trace with en := false } } p [])) ∧
      (p.arg 0x20 = 2 → s.trace.idle = false →
        exec (.traceControlDisable id) s = .next (s.endsQuiet (State.modProg { t with trace := { t.trace with en := false } }
          id fun p => { p with pendingAnswer := true })))) ∧
    (s.trace.en = false → s.trace.idle = false → s.trace.buf = [] →
      exec .traceFlushDone s = .next (s.ends (s.traceWaiters.foldl (fun t p => t.answer p Code.ok 0 [])
        { s with trace := { s.trace with idle := true } })))

/-- Staging an image, activating it, draining and switching. -/
def Obligations.ImageExchange : Prop :=
  ∀ (s : State) (id : Nat) (p : Prog) (i : Image),
    (s.mayCommit id 0x0801 (fun _ => []) p →
      (s.mgmt.exchange ≠ .none → exec (.fwStage id) s = .next (s.ends (s.answer p Code.exchangeBusy 0 []))) ∧
      (s.mgmt.exchange = .none →
        (∀ code detail, s.cpb.judge p.bulk 1 = .error (code, detail) →
          exec (.fwStage id) s = .next (s.ends (s.answer p code detail []))) ∧
        (∀ plain, s.cpb.judge p.bulk 1 = .ok plain →
          let image : Image := { version := BitVec.ofNat 16 (le p.bulk 0x14 2), rollback := le32 p.bulk 0xC, bytes := plain }
          image.version.toNat / 256 = s.mgmt.fwVersion.toNat / 256 →
          exec (.fwStage id) s = .next (s.answersOk { s with mgmt := { s.mgmt with staged := some image } } p
            (leBytes 2 image.version.toNat ++ leBytes 6 0))))) ∧
    (s.mayCommit id 0x0802 (fun _ => []) p →
      (s.mgmt.exchange ≠ .none → exec (.fwActivate id) s = .next (s.ends (s.answer p Code.exchangeBusy 0 []))) ∧
      (s.mgmt.exchange = .none → s.mgmt.staged = none →
        exec (.fwActivate id) s = .next (s.ends (s.answer p Code.notReady 0 []))) ∧
      (s.mgmt.exchange = .none → s.mgmt.staged = some i →
        exec (.fwActivate id) s = .next (s.endsQuiet
          (State.answer { s with mgmt := { s.mgmt with exchange := .draining } } p Code.pending 0 [])))) ∧
    (s.firmware = true → s.mgmt.exchange = .draining → s.mgmt.progs = [] →
      (∀ b ∈ s.mbx.boxes, b.state ≠ .busy) →
      ∃ t, exec .exchangeDrained s = .next t ∧ t.mgmt = { s.mgmt with fwVersion := 0, exchange := .switching } ∧
        (∀ (n : Nat) (b : Mailbox), s.mbx.boxes[n]? = some b → b.state = .posted → b.forced = false →
          t.mbx.boxes[n]? = some { b with state := .done, result := Code.retry, respLen := 0 }) ∧
        (∀ (n : Nat) (b : Mailbox), s.mbx.boxes[n]? = some b → b.state ≠ .posted → t.mbx.boxes[n]? = some b) ∧ t.queues = s.queues ∧
        t.ctxs = s.ctxs) ∧
    (s.mgmt.exchange = .switching → s.mgmt.staged = some i →
      (Config.selfTestPasses i.bytes = true → exec .exchangeSwitched s = .next (State.close s { s with
        cpb := { s.cpb with henpenRollback := i.rollback }
        mgmt := { s.mgmt with
          image := some i, staged := none, fwVersion := i.version, lastExchange := Code.ok, exchange := .none }
        iga := { s.iga with exchangeLatch := true } })) ∧
      (Config.selfTestPasses i.bytes = false → ∃ t, exec .exchangeSwitched s = .next t ∧ t.mgmt.exchange = .none ∧
        t.mgmt.staged = none ∧ t.mgmt.image = s.mgmt.image ∧ t.iga.exchangeLatch = true ∧
        t.mgmt.fwVersion = (match s.mgmt.image with | some j => j.version | none => 0)))

/-- Claiming, completing and software sources of the Interrupt Gatherer (R408). -/
def Obligations.InterruptClaims : Prop :=
  ∀ (s : State) (agent t : Nat) (v : W32), s.serves → t < 32 →
    let g := s.iga
    let claimed (n : Nat) (u : State) : State := State.respond u (read4 agent (0x24004 + 0x10 * t)) false
      (inLanes (0x24004 + 0x10 * t) (leBytes 4 n))
    let flag (u : State) : State := { u with iga := { u.iga with withdrawn := u.iga.withdrawn.filter (· != t) } }
    let rec_ (n : Nat) : State := s.record unitIga 0x0D (n + 2 ^ 10 * t)
    let n := bits v.toNat 9 0
    let stray (other : Bool) : State := { s with iga := { g with
      stray := sat32 g.stray 1, strayLast := BitVec.ofNat 32 (n + 2 ^ 10 * t + if other then 2 ^ 15 else 0) } }
    (∀ m, g.best t = some m → g.eligible m t = true ∧ (∀ k, g.eligible k t = true →
        (g.cfgOf k).priority ≤ (g.cfgOf m).priority) ∧
      ((g.states.map Prod.fst).Pairwise (· < ·) → ∀ k, g.eligible k t = true →
        (g.cfgOf k).priority = (g.cfgOf m).priority → m ≤ k) ∧
      exec (.igaClaim agent t) s = .next (s.ends (claimed m { flag (rec_ m) with
        iga := Iga.setState { g with withdrawn := g.withdrawn.filter (· != t) } m (.inService t)
        queues := tmap s.queues fun _ x => if x.irqSource = m then { x with irqPending := false } else x }))) ∧
    (g.best t = none → (∀ k, g.eligible k t = false) ∧
      ((g.compat = true ∧ g.withdrawn.contains t = true →
        exec (.igaClaim agent t) s = .next (s.ends (claimed 0x3FE (flag (rec_ 0x3FE))))) ∧
      (¬(g.compat = true ∧ g.withdrawn.contains t = true) →
        exec (.igaClaim agent t) s = .next (s.ends (claimed 0x3FF (flag (rec_ 0x3FF))))))) ∧
    (n < 0x3FE →
      (g.stateOf n = .inService t → exec (.igaComplete agent t v) s = .next (s.ends { s with
        iga := g.setState n (if g.levels.contains n then .pending else .idle) })) ∧
      (∀ o, g.stateOf n = .inService o → o ≠ t → exec (.igaComplete agent t v) s = .next (s.ends (stray true))) ∧
      (g.stateOf n = .idle ∨ g.stateOf n = .pending →
        exec (.igaComplete agent t v) s = .next (s.ends (stray false)))) ∧
    (0x3FE ≤ n → exec (.igaComplete agent t v) s = .next (s.ends s)) ∧
    exec (.igaSwSet agent v) s = .next (s.ends { s with iga := { g with sw := g.sw ||| v.setWidth 16 } }) ∧
    exec (.igaSwClr agent v) s = .next (s.ends { s with iga := { g with sw := g.sw &&& ~~~(v.setWidth 16) } })

/-- CFG_SEAL, CFG_CTRL, CPB_BOOT_CTRL, FLT_RESET and MIR_CTRL writes. -/
def Obligations.ConfigurationAndBootWrites : Prop :=
  ∀ (s : State) (agent : Nat) (v : W32), s.serves →
    (s.cfg.state ∈ [.ready, .incomplete, .sealBroken] → s.cfg.check = none →
      exec (.cfgSealWrite agent v) s = .next (s.ends { s with
        cfg := { s.cfg with check := some { value := v, tables := s.cfg.tables, changed := none } } })) ∧
    (s.cfg.state ∈ [.training, .sealed, .halted] ∨ s.cfg.check.isSome = true →
      exec (.cfgSealWrite agent v) s = .next (s.ends s)) ∧
    (bit v.toNat 0 = true ∨ s.feed.halt = true →
      exec (.cfgLaunchEnWrite agent v) s = .next (s.ends { s with cfg := { s.cfg with launchEn := bit v.toNat 0 } })) ∧
    (bit v.toNat 0 = false → s.feed.halt = false → exec (.cfgLaunchEnWrite agent v) s =
      .next (s.ends (State.withholdAll (reason := none) { s with cfg := { s.cfg with launchEn := false } }))) ∧
    (bit v.toNat 0 = true →
      (s.cpb.state = .waitKeys →
        exec (.cpbStart agent v) s = .next (s.ends { s with cpb := { s.cpb with start := true } })) ∧
      (s.cpb.state = .opened ∨ s.cpb.state = .failed → s.cpb.henpenLen = 0 → exec (.cpbStart agent v) s =
        .next (s.ends { s with cpb := { s.cpb with lastStatus := Code.notReady, start := false } })) ∧
      (s.cpb.state = .opened ∨ s.cpb.state = .failed → s.cpb.henpenLen ≠ 0 → exec (.cpbStart agent v) s =
        .next (s.ends { s with
          cpb := { s.cpb with state := .checking, start := true }, power := { s.power with hclk := true } })) ∧
      (s.cpb.state = .checking ∨ s.cpb.state = .running → exec (.cpbStart agent v) s = .next (s.ends s))) ∧
    (bit v.toNat 0 = false → exec (.cpbStart agent v) s = .next (s.ends s)) ∧
    (bits v.toNat 15 0 = 0x5752 → bit v.toNat 16 = true → exec (.fltResetWrite agent v) s =
      .next (s.ends { s with mgmt := { s.mgmt with warmReset := true } })) ∧
    (bits v.toNat 15 0 ≠ 0x5752 ∨ bit v.toNat 16 = false → exec (.fltResetWrite agent v) s = .next (s.ends s)) ∧
    (s.build.mirrored = true → bit v.toNat 0 = true → exec (.mirFailoverAck agent v) s =
      .next (s.ends { s with mir := { s.mir with failoverSource := false } })) ∧
    (s.build.mirrored = true → bit v.toNat 0 = false → exec (.mirRejoin agent v) s = .next (s.ends s) ∧
      exec (.mirHubReset agent v) s = .next (s.ends s)) ∧
    (s.build.mirrored = false → exec (.mirFailoverAck agent v) s = .next (s.ends s) ∧
      exec (.mirRejoin agent v) s = .next (s.ends s) ∧ exec (.mirHubReset agent v) s = .next (s.ends s))

/-- REJOIN and HUB_RESET of a Hub that has handed over. -/
def Obligations.DetachedHubControl : Prop :=
  ∀ (s : State) (agent : Nat) (v : W32), s.ductus.refOk = true → s.power.testMode = false → s.awake = true →
    s.build.mirrored = true →
    (s.mir.role = .detached → bit v.toNat 0 = false → bit v.toNat 1 = true → bit v.toNat 2 = false →
      exec (.mirRejoin agent v) s = .next (s.ends { s with mir := { s.mir with role := .syncing } })) ∧
    (s.mir.role = .yielded ∨ s.mir.role = .detached → bit v.toNat 0 = false → bit v.toNat 1 = false →
      bit v.toNat 2 = true →
      (bits v.toNat 31 16 ≠ 0x4852 → exec (.mirHubReset agent v) s = .next (s.ends s)) ∧
      (bits v.toNat 31 16 = 0x4852 → ∃ t, exec (.mirHubReset agent v) s = .next t ∧ t.mir.role = .detached ∧
        t.cpb.verifyKey = none ∧ t.cpb.imageKey = none ∧ t.cpb.counter = none ∧ t.cpb.keyReq = true ∧
        t.cpb.state = .waitKeys ∧ (∀ e ∈ t.ctxs, e.2.state = .free) ∧ t.queues = [] ∧ t.tasks = [] ∧ t.parts = [] ∧
        t.splitters = s.splitters ∧ t.nibs = s.nibs ∧ t.bells = s.bells ∧ t.ductus.count = s.ductus.count ∧
        t.pending = s.pending))

/-- Stop-counts: arming, running out, resuming. -/
def Obligations.DebugStops : Prop :=
  ∀ (s : State) (agent : Nat) (v : W32),
    let d := s.dbg
    let q := v &&& 0x800FFFFF
    let n := v &&& 0x800000FF;
    (s.serves →
      exec (.dbgStopArm agent .qCtrl v) s = .next (s.ends { s with dbg := { d with
        qCtrl := q, qLeft := if q.getLsbD 31 = true ∧ d.qCtrl.getLsbD 31 = false then d.qCount else d.qLeft } }) ∧
      exec (.dbgStopArm agent .nCtrl v) s = .next (s.ends { s with dbg := { d with
        nCtrl := n, nLeft := if n.getLsbD 31 = true ∧ d.nCtrl.getLsbD 31 = false then d.nCount else d.nLeft } }) ∧
      (v ≠ 0 → exec (.dbgStopArm agent .qCount v) s = .next (s.ends { s with dbg := { d with
          qCount := v, qLeft := if d.qCtrl.getLsbD 31 then v else d.qLeft } }) ∧
        exec (.dbgStopArm agent .nCount v) s = .next (s.ends { s with dbg := { d with
          nCount := v, nLeft := if d.nCtrl.getLsbD 31 then v else d.nLeft } })) ∧
      (v = 0 → exec (.dbgStopArm agent .qCount v) s = .next (s.ends s) ∧
        exec (.dbgStopArm agent .nCount v) s = .next (s.ends s)) ∧
      (bits v.toNat 1 0 = 1 → exec (.dbgResume agent v) s = .next (s.ends { s with dbg := { d with
        stops := d.stops &&& 0xFFFFFFFE, qLeft := if d.qCtrl.getLsbD 31 then d.qCount else d.qLeft } })) ∧
      (bits v.toNat 1 0 = 2 → exec (.dbgResume agent v) s = .next (s.ends { s with dbg := { d with
        stops := d.stops &&& 0xFFFFFFFD, nLeft := if d.nCtrl.getLsbD 31 then d.nCount else d.nLeft } }))) ∧
    (d.nCtrl.getLsbD 31 = true → d.nCount ≠ 0 → d.nLeft = 0 → d.stops.getLsbD 1 = false →
      exec (.stopCountReached true) s = .next (State.close s { s with dbg := { d with
        stops := d.stops ||| 2, stopNib := bits d.nCtrl.toNat 7 0 } })) ∧
    (d.qCtrl.getLsbD 31 = true → d.qCount ≠ 0 → d.qLeft = 0 → d.stops.getLsbD 0 = false →
      exec (.stopCountReached false) s = .next (State.close s (State.latchQueue { s with
        dbg := { d with stops := d.stops ||| 1, stopQueue := bits d.qCtrl.toNat 19 0 } } (bits d.qCtrl.toNat 19 0) fun m => { m with stopCount := true })))

/-- A host or debugger write to a Sync SRAM word: SET, exact ADD, underflow, and the record. -/
def Obligations.SyncWordWrites : Prop :=
  ∀ (s : State) (agent i : Nat) (v : W32) (x : W64),
    let sorted (s : State) : Prop := (s.sync.words.map Prod.fst).Pairwise (· < ·)
    (∀ b, sorted (State.resetOf b)) ∧
    (s.serves → i < 32768 → sorted s →
    exec (.synWindowWrite agent i x) s = .next (s.ends (s.setWord i x 0 .host 0)) ∧
    (s.sync.waits = [] → ∃ t, exec (.synWindowWrite agent i x) s = .next t ∧ t.word i = x ∧ sorted t ∧
      (∀ j, j ≠ i → t.word j = s.word j) ∧ t.mbx = s.mbx ∧ t.dbg = s.dbg ∧ t.tasks = s.tasks ∧ t.nibs = s.nibs) ∧
    (s.dbg.syncCtrl.getLsbD 31 = false → v.getLsbD 31 = true → s.sync.waits = [] →
      let k := s.dbg.syncIndex.toNat % 32768
      let old := s.word k
      let sum : Int := old.toNat + s.dbg.syncValue.toInt
      (v.getLsbD 0 = false → v.getLsbD 1 = false → ∃ t, exec (.dbgSyncGo agent v) s = .next t ∧
        t.word k = s.dbg.syncValue ∧ t.dbg.syncOld = old ∧ t.dbg.syncResult = 0 ∧ t.dbg.syncCtrl.getLsbD 31 = false ∧ sorted t ∧
        ∀ j, j ≠ k → t.word j = s.word j) ∧
      (v.getLsbD 0 = false → v.getLsbD 1 = true → 0 ≤ sum → sum < 2 ^ 64 → ∃ t, exec (.dbgSyncGo agent v) s = .next t ∧
        (t.word k).toNat = sum.toNat ∧ t.dbg.syncOld = old ∧ t.dbg.syncResult = 0 ∧ t.dbg.syncCtrl.getLsbD 31 = false ∧ sorted t ∧
        ∀ j, j ≠ k → t.word j = s.word j) ∧
      (v.getLsbD 0 = false → v.getLsbD 1 = true → sum < 0 ∨ 2 ^ 64 ≤ sum → ∃ t, exec (.dbgSyncGo agent v) s = .next t ∧
        (∀ j, t.word j = s.word j) ∧ t.dbg.syncFaults = sat32 s.dbg.syncFaults 1 ∧
        t.dbg.syncResult = Code.syncUnderflow.setWidth 32 ∧ t.dbg.syncCtrl.getLsbD 31 = false) ∧
      (v.getLsbD 0 = true → s.sync.memOps = [] → ∃ t, exec (.dbgSyncGo agent v) s = .next t ∧
        t.dbg.syncCtrl.getLsbD 31 = true ∧ t.sync.memOps.length = 1 ∧ ∀ j, t.word j = s.word j)) ∧
    (s.dbg.syncCtrl.getLsbD 31 = true → v.getLsbD 31 = true → exec (.dbgSyncGo agent v) s =
      .next (s.ends { s with dbg := { s.dbg with syncCtrl := 0x80000000 ||| (v &&& 3) } })))

/-- FEED_TRIM and FEED_QE_SEL writes, and the counter fetched. -/
def Obligations.FeedRegisterWrites : Prop :=
  ∀ (s : State) (agent g : Nat) (v : W32),
    (s.serves → g < 16 →
      (bits v.toNat 3 0 ≤ 12 → exec (.feedTrimWrite agent g v) s = .next (s.ends
        ((s.modRail g fun r => { r with trimWanted := bits v.toNat 3 0 }).stepRail g))) ∧
      (12 < bits v.toNat 3 0 → exec (.feedTrimWrite agent g v) s = .next (s.ends s)) ∧
      exec (.feedQeSelWrite agent v) s = .next (s.ends { s with
        feed := { s.feed with qeSel := v &&& 0xFFFFF, qeReady := false } })) ∧
    (s.feed.qeReady = false →
      (∀ x, tget s.queues s.feed.qeSel.toNat = some x → exec .queueEnergyReady s = .next (State.close s { s with
        feed := { s.feed with qeUj := BitVec.ofNat 64 x.energyUj, qeReady := true } })) ∧
      (tget s.queues s.feed.qeSel.toNat = none → exec .queueEnergyReady s = .next (State.close s { s with
        feed := { s.feed with qeUj := 0, qeReady := true } })))

/-- What the device reset, the Hub pin reset, the warm reset, TEST_MODE and the resets of splitters and Nibs leave. -/
def Obligations.ResetsOfTheBlock : Prop :=
  ∀ s : State,
    (let r := State.resetOf s.build; exec .deviceReset s = .next (State.close s { r with
      pending := s.pending, power := { r.power with selfTests := s.power.selfTests } })) ∧
    (∃ t, exec .hubReset s = .next t ∧ (∀ e ∈ t.ctxs, e.2.state = .free) ∧
      (∀ (slot : Nat) (c : Ctx), tget s.ctxs slot = some c →
        ∃ c', tget t.ctxs slot = some c' ∧ c'.gen = c.gen ∧ c'.retired = c.retired) ∧
      t.queues = [] ∧ t.tasks = [] ∧ t.parts = [] ∧ t.cfg.tables = [] ∧ t.live.sealed = false ∧
      t.cpb.verifyKey = s.cpb.verifyKey ∧ t.cpb.imageKey = s.cpb.imageKey ∧ t.bells = s.bells ∧ t.iga.cfg = s.iga.cfg ∧
      t.ductus.count = s.ductus.count ∧ t.flt.wr = s.flt.wr ∧ t.flt.base = s.flt.base ∧ t.power.hubReleased = true) ∧
    (∃ t, exec (.testMode .hub none) s = .next t ∧ t.power.testMode = true ∧ t.cpb.verifyKey = none ∧ t.cpb.imageKey = none ∧
      t.cpb.counter = none ∧ t.ctxs = [] ∧ t.queues = [] ∧ t.splitters = s.splitters ∧ t.nibs = s.nibs) ∧
    (∀ block pass, ∃ t, exec (.testMode block (some pass)) s = .next t ∧
      ((blockIdent block).1, (blockIdent block).2, pass) ∈ t.power.selfTests) ∧
    (∀ sp, exec (.testMode (.splitter sp) none) s =
      .next (State.close s (s.modSplitter sp fun _ => { Splitter.reset with testMode := true }))) ∧
    (∀ n, exec (.testMode (.nib n) none) s = .next (State.close s (s.modNib n fun b =>
      { Nib.reset with testMode := true, die := b.die, ports := b.ports, via := b.via }))) ∧
    (∃ t, exec (.testMode .hub none) s = .next t ∧ t.hubPrimary = false ∧ t.pspReqs = [] ∧ (∀ i, t.irqOut i = false) ∧
      (∀ a, t.hreqReady a = false) ∧ ∀ d, t.hdbReady d = false) ∧
    (∀ (n : Nat) (b : Nib), s.nibs[n]? = some b → ∃ t b', exec (.testMode (.nib n) none) s = .next t ∧ t.nibs[n]? = some b' ∧
      ∀ core eq, b'.eqOpen core eq = false ∧ b'.eqAbort core eq = true ∧ b'.eqAbortAll core eq = true) ∧
    (s.primary = false → exec .warmReset s = .next (State.close s (s.warmResetState.recovered 3 0 Code.ok))) ∧
    (s.mgmt.warmReset = true → s.primary = true →
      (s.mgmt.warmAborted = false → exec .warmReset s = .next (s.ends
        (State.abortAll { s with mgmt := { s.mgmt with warmAborted := true } } Code.deviceReset))) ∧
      (s.mgmt.warmAborted = true → s.tasks = [] →
        let t := s.retireAll Code.deviceReset;
        (t.writingBack = true → t.queues ≠ s.queues → exec .warmReset s = .next (State.close s t)) ∧
        (t.writingBack = false → exec .warmReset s = .next (State.close s (t.warmResetState.recovered 3 0 Code.ok))))) ∧
    (let t := s.warmResetState;
      (∀ e ∈ t.ctxs, e.2.state = .free) ∧ t.queues = [] ∧ t.tasks = [] ∧ t.parts = [] ∧ t.bells.binds = [] ∧ t.cfg.tables = [] ∧
      t.live.sealed = false ∧ t.cpb.verifyKey = none ∧ t.cpb.state = .waitKeys ∧ t.mgmt.image = none ∧ t.cpb.margin = [] ∧
      t.mgmt.warmReset = false ∧ t.ductus.count = s.ductus.count ∧ t.flt.wr = s.flt.wr ∧ t.iga.cfg = s.iga.cfg ∧
      t.splitters = s.splitters.map Splitter.again ∧ t.nibs = s.nibs.map Nib.again ∧ t.flt.lost = s.flt.lost) ∧
    (∀ (sp : Nat) (x : Splitter), s.splitters[sp]? = some x → x.link ≠ .up → exec (.splitterReset sp) s =
      .next (State.close s ((s.freshLink sp).modSplitter sp fun x => { Splitter.reset with
        link := if x.link = .inReset then .waiting else x.link, heard := x.heard, testMode := x.testMode }))) ∧
    (∀ (sp : Nat) (x : Splitter), s.splitters[sp]? = some x → x.link = .up →
      let behind := (List.range s.nibs.length).filter fun n => (s.nibs[n]?).map Nib.via == some sp
      exec (.splitterReset sp) s = .next (State.close s (State.quiet (behind.foldl (fun t n => t.nibLost n 1)
        ((s.freshLink sp).modSplitter sp fun x => { Splitter.reset with
          link := .absent, heard := x.heard, testMode := x.testMode }))))) ∧
    (∀ (n die : Nat) (cores : List (List EqPort)) (b : Nib), s.nibs[n]? = some b → b.present = false →
      exec (.nibReset n die cores) s = .next (State.close s (s.modNib n fun b => { Nib.reset with
        link := if b.link = .inReset then .waiting else b.link, via := b.via, die := die, ports := portsOf cores
        firstReport := b.firstReport, trainFrom := b.trainFrom, testMode := b.testMode }))) ∧
    (∀ (n die : Nat) (cores : List (List EqPort)) (b : Nib), s.nibs[n]? = some b → b.present = true →
      exec (.nibReset n die cores) s = .next (State.close s ((s.nibLost n 1).quiet.modNib n fun b => { Nib.reset with
        link := b.link.pulsed, via := b.via, die := die, ports := portsOf cores
        firstReport := b.firstReport, trainFrom := b.trainFrom, testMode := b.testMode })))

/-- REFCLK_OK, key delivery and the boot load. -/
def Obligations.ClockKeysAndBoot : Prop :=
  ∀ (s : State) (words : List W32) (key : W32),
    (s.ductus.refOk = false → s.htp.waiting = [] → s.bells.held = [] → exec .refclkOk s = .next (s.ends { s with
      ductus := { s.ductus with refOk := true }, cpb := { s.cpb with keyReq := true } })) ∧
    (s.cpb.keyReq = true → words.length = 8 →
      (s.cpb.verifyKey = none ∨ s.cpb.counter = none → exec (.keyDelivery 1 words) s =
        .next (State.close s { s with cpb := { s.cpb with imageKey := some words } })) ∧
      (∀ k n, s.cpb.verifyKey = some k → s.cpb.counter = some n → s.cpb.state = .waitKeys → s.cpb.start = false →
        exec (.keyDelivery 1 words) s = .next (State.close s { s with cpb := { s.cpb with
          imageKey := some words, keyReq := false, keyCounter := n, state := .opened } })) ∧
      (∀ k n, s.cpb.verifyKey = some k → s.cpb.counter = some n → s.cpb.state = .waitKeys → s.cpb.start = true →
        exec (.keyDelivery 1 words) s = .next (State.close s { s with
          cpb := { s.cpb with imageKey := some words, keyReq := false, keyCounter := n, state := .checking, start := true }
          power := { s.power with hclk := true } }))) ∧
    (s.cpb.keyReq = true → s.cpb.verifyKey = none → exec (.keyDelivery 2 [key]) s =
      .next (State.close s { s with cpb := { s.cpb with counter := some key } })) ∧
    (s.cpb.keyReq = true → words.length = 25 → (words.getLastD 0).toNat < 256 → s.cpb.counter = none →
      exec (.keyDelivery 0 words) s = .next (State.close s { s with cpb := { s.cpb with verifyKey := some words } })) ∧
    (s.cpb.state = .checking → s.power.hubReleased = true → s.power.testMode = false → s.cpb.patchLen = 0 →
      let pkg := s.mbx.ink.read s.cpb.henpenOffset.toNat s.cpb.henpenLen.toNat;
      (∀ code detail, s.cpb.judge pkg 1 = .error (code, detail) → exec .bootCheckDone s = .next (State.close s { s with
        cpb := { s.cpb with state := .failed, lastStatus := code, detail := BitVec.ofNat 32 detail, start := false } })) ∧
      (∀ plain, s.cpb.judge pkg 1 = .ok plain → Config.selfTestPasses plain = true → ∃ t,
        exec .bootCheckDone s = .next t ∧ t.cpb.state = .running ∧ t.cpb.lastStatus = Code.ok ∧ t.mbx.ink = [] ∧
        t.mgmt.fwVersion = BitVec.ofNat 16 (le pkg 0x14 2) ∧ t.cpb.henpenRollback = le32 pkg 0xC ∧
        t.cfg.train = .splitters ∧ t.cpb.verifyKey = s.cpb.verifyKey ∧ t.queues = s.queues ∧ t.nibs = s.nibs))

/-- Training of splitter and Nib links, and the end of the Nib phase. -/
def Obligations.LinkTraining : Prop :=
  ∀ (s : State) (sp n k since b : Nat),
    (∀ x : Splitter, s.splitters[sp]? = some x → s.cfg.train = .splitters → x.link = .waiting ∨ x.link = .training k →
      let tries := if x.link = .waiting then 1 else k + 1
      exec (.splitterTrainingAttemptEnd sp true) s = .next (State.close s ((s.freshLink sp).modSplitter sp fun x =>
        { Splitter.reset with link := .up, heard := s.now, testMode := x.testMode })) ∧
      (x.heard + 200000 * tries ≤ s.now → tries < 3 → exec (.splitterTrainingAttemptEnd sp false) s =
        .next (State.close s (s.modSplitter sp fun x => { x with link := .training tries }))) ∧
      (x.heard + 200000 * tries ≤ s.now → 3 ≤ tries → exec (.splitterTrainingAttemptEnd sp false) s =
        .next (State.close s ((s.modSplitter sp fun x => { x with link := .absent }).blotAbsent false sp tries)))) ∧
    (s.cfg.train = .splitters → (∀ x ∈ s.splitters, x.link = .up ∨ x.link = .absent) →
      (∀ m < s.nibs.length, ∃ j ∈ s.homes m, s.splitterUpNow j = true) → 0 < s.nibs.length →
      (∃ (m : Nat) (x : Nib), m < 16 ∧ s.nibs[m]? = some x ∧ x.link ≠ .up ∧ x.link ≠ .absent) →
      exec .splitterPhaseDone s = .next (State.close s { s with cfg := { s.cfg with train := .batch 0 s.now } })) ∧
    (∀ x : Nib, s.nibs[n]? = some x → s.cfg.train = .batch b since → n / 16 = b →
      (x.link = .waiting → since + n % 16 * 256 ≤ s.now → exec (.nibPowerUp n) s =
        .next (State.close s (s.modNib n fun x => { x with link := .training 0, trainFrom := s.now }))) ∧
      (x.link = .training k →
        (x.ports ≠ [] → sp ∈ s.homes n → s.splitterUpNow sp = true → ∃ t,
          exec (.nibTrainingAttemptEnd n true sp) s = .next t ∧
          t.nibs = (s.modNib n fun x => { Nib.reset with
            link := .up, via := sp, die := x.die, ports := x.ports, firstReport := some (x.die, x.ports)
            testMode := x.testMode }).nibs ∧ t.queues = s.queues ∧ t.splitters = s.splitters ∧
          ((∀ y ∈ t.nibs, y.link = .up ∨ y.link = .absent) → s.nibs.length ≤ 16 * (b + 1) →
            t.cfg.ready = true ∧ t.iga.configLatch = true ∧ (s.cfg.state = .training →
              t.cfg.state = if t.nibs.all Nib.present then .ready else .incomplete))) ∧
        (x.trainFrom + 200000 * (k + 1) ≤ s.now → k + 1 < 3 → exec (.nibTrainingAttemptEnd n false sp) s =
          .next (State.close s (s.modNib n fun x => { x with link := .training (k + 1) })))))

/-- The end of a seal check: the commit of the tables, or the first failure. -/
def Obligations.SealCheckEnds : Prop :=
  ∀ (s : State) (k : SealCheck), s.cfg.check = some k →
    (∀ t, k.changed = some t → s.sealOutcome k = some (Code.cfgChanged, t)) ∧
    (k.changed = none → (∃ n < 6, tget k.tables (n + 1) = none) →
      ∃ n, s.sealOutcome k = some (Code.cfgTableMissing, n) ∧ 1 ≤ n ∧ n ≤ 6 ∧ tget k.tables n = none) ∧
    (∀ code detail, s.sealOutcome k = some (code, detail) →
      exec .sealCheckDone s = .next (State.close s (State.blot { s with
        cfg := { s.cfg with check := none, firstFail := code, detail := BitVec.ofNat 32 detail } }
        code 0x04 unitMc (detail % 2 ^ 32)))) ∧
    (s.sealOutcome k = none → ∃ t, exec .sealCheckDone s = .next t ∧ t.cfg.state = .sealed ∧ t.cfg.firstFail = 0 ∧
      t.cfg.check = none ∧ t.cfg.tables = s.cfg.tables ∧ t.cfg.breaks = s.cfg.breaks ∧ t.live = k.live ∧
      t.live.sealed = true ∧ t.live.sealCrc = k.value ∧ t.reg32 0 0x60010 = k.value.toNat ∧ t.iga.configLatch = false ∧
      t.sync.words = s.sync.words ∧ t.ctxs = s.ctxs ∧ t.queues = s.queues ∧ t.tasks = s.tasks ∧ t.mbx = s.mbx ∧
      t.nibs = s.nibs ∧ t.splitters = s.splitters)

/-- The Management Core takes a request; Inkwell slots move bulk data. -/
def Obligations.TakingRequestsAndBulk : Prop :=
  ∀ (s : State) (id n : Nat) (ecc : Bool) (payload req bulk : List Byte) (p : Prog) (b : Mailbox), s.firmware = true →
    (s.mgmt.exchange = .none → s.mgmt.progs.length < 8 → s.nextBox = some (n, b) → s.nextAdmin = none →
      s.mbx.boxes[n]? = some b →
      let q : Prog := { ident := s.mgmt.nextProg, origin := .mailbox n, request := s.mbx.data.read (n * 0x100) b.reqLen
                        bulk := [], slots := 0, handed := 0, waitFrom := s.now, pendingAnswer := false }
      let t : State := State.modBox { s with mgmt := { s.mgmt with
        progs := s.mgmt.progs ++ [q], nextProg := s.mgmt.nextProg + 1 } } n fun b => { b with state := .busy }
      b.state = .posted ∧
      (t.refusedAtTake q = none → exec (.managementCoreTake req bulk) s = .next (State.close s t)) ∧
      (∀ st detail, t.refusedAtTake q = some (st, detail) →
        exec (.managementCoreTake req bulk) s = .next (State.close s (t.answer q st detail [])))) ∧
    (s.prog id = some p → p.origin = .mailbox n → s.mbx.boxes[n]? = some b →
      let slot := p.slot b
      let units := (payload.length + 63) / 64;
      (takesBulk p.command = true → p.full = false → wordOwner (s.slotWord slot) = 2 →
        (∀ code, s.slotFailure slot b.toFw ecc = some code → exec (.inkwellSlotConsume id ecc) s =
          .next (State.close s ((s.setOwner slot 3).answer p code 0 []))) ∧
        (s.slotFailure slot b.toFw ecc = none → exec (.inkwellSlotConsume id ecc) s = .next (State.close s
          (((s.setOwner slot 0).modBox n fun b => { b with toFw := (b.toFw + 1) % 16384 }).modProg id fun p => { p with
            bulk := (p.bulk ++ s.mbx.ink.read (slot * 0x1000 + 0x40) (64 * wordLen (s.slotWord slot))).take p.dataLen
            slots := p.slots + 1, waitFrom := s.now })))) ∧
      (takesBulk p.command = false → p.handed % 4032 = 0 → 0 < b.inkCount → wordOwner (s.slotWord slot) = 0 → 0 < payload.length →
        payload.length ≤ 4032 → ∃ t, exec (.inkwellSlotToHost id payload) s = .next t ∧
          t.mbx.ink = s.mbx.ink.write (slot * 0x1000)
            (leBytes 8 (makeWord 1 b.toHost units (crc32c (padTo (64 * units) payload)).toNat) ++
              List.replicate 56 0 ++ padTo 4032 payload) ∧
          (t.prog id).map Prog.handed = some (p.handed + payload.length) ∧
          t.mbx.boxes = (s.modBox n fun b => { b with toHost := (b.toHost + 1) % 16384 }).mbx.boxes ∧
          t.mbx.data = s.mbx.data ∧ t.queues = s.queues ∧ t.ctxs = s.ctxs) ∧
      (takesBulk p.command = true → p.full = false → wordOwner (s.slotWord slot) ≠ 2 → p.waitFrom + 10000000 ≤ s.now →
        exec (.inkTimeout id) s = .next (State.close s (s.answer p Code.inkTimeout 0 []))))

/-- Taking a doorbell, reading the tail word, and paging queue records in and out. -/
def Obligations.DoorbellsTailsAndRecords : Prop :=
  ∀ (s : State) (q : Nat) (e : Doorbell) (rest : List Doorbell) (x : Queue) (p : TailProc) (w : W64) (r : MemReq) (u : State),
    (s.bells.catcher = e :: rest → s.bells.held = [] → s.awake = true → s.primary = true → s.feed.halt = false →
      s.mgmt.warmReset = false → s.qe.paging.length < 256 →
      let t : State := { s with bells := { s.bells with catcher := rest } }
      let dropped (reason : Nat) := exec .doorbellTake s = .next (State.close s (t.dropDoorbell e.page e.index reason))
      (tget s.bells.binds e.page ≠ some e.handle → dropped 3) ∧
      (tget s.bells.binds e.page = some e.handle →
        let found := s.queues.find? fun x => x.2.dbPage == e.page && x.2.dbIndex == e.index && x.2.handle == e.handle;
        (found = none → dropped 2) ∧ (found = some (q, x) → x.enabled = false → dropped 4) ∧
        (found = some (q, x) → x.enabled = true → x.device = false → exec .doorbellTake s = .next (s.ends
          (((t.recordWhen (s.trace.en && e.traced) unitQe 0x01 e.stamp (q + 2 ^ 20 * (e.tail.toNat % 2 ^ 28)) false
            e.ao).modQueue q fun x =>
            { x with lastBell := e.stamp }).needRecord q e.tail))))) ∧
    (s.answered (.tailWord q) = some (r, u) → tget u.queues q = some x → x.tailProc = some p → x.tailDrop = 0 →
      (x.tailOk w = true ↔ w.toNat < 2 ^ 32 ∧ (x.fetch - x.head).toNat ≤ (w.setWidth 32 - x.head).toNat ∧
        (w.setWidth 32 - x.head).toNat ≤ 2 ^ x.ringLog2) ∧
      (x.tailOk w = false → exec (.tailWordReturn q (some w)) s = .next (s.ends (u.tailInvalid q))) ∧
      (x.tailOk w = true → (p.d - x.fetch).toNat ≤ (w.setWidth 32 - x.fetch).toNat →
        exec (.tailWordReturn q (some w)) s = .next (s.ends
          ((u.modQueue q fun x => { x with tail := w.setWidth 32, tailProc := none }).readAhead q)))) ∧
    (tget s.queues q = some x → x.tailProc = some p → p.reading = false → p.returned + 1000 ≤ s.now →
      exec (.tailReread q) s = .next (State.close s (s.readTail q))) ∧
    (∀ d, s.answered (.queueRecord q) = some (r, u) → tget s.qe.loads q = some (some d) →
      exec (.queueRecordLoaded q) s = .next (State.close s (((u.makeResident q).bell q d).readAhead q))) ∧
    (8176 < s.residentUsed → s.evictable = some q →
      s.pinned q = false ∧ ∃ t, exec .queueEviction s = .next t ∧ (∀ y, tget s.queues q = some y →
        s.qe.paging = [] → tget t.queues q = some { y.discardRa with resident := false }) ∧
        (s.qe.paging = [] → q ∉ t.qe.resident) ∧ t.ctxs = s.ctxs ∧ t.tasks = s.tasks ∧ t.mbx = s.mbx)

/-- Ring entries return, chains are granted in arbitration, command bytes return, buffer headers are parsed. -/
def Obligations.RingEntriesAndArbitration : Prop :=
  ∀ (s : State) (q k : Nat) (entries : List (Option (List Byte))) (bytes : List Byte) (x : Queue) (c : Chain) (r : MemReq)
      (u : State) (sub : Sub) (slot : Nat) (ctx : Ctx),
    (s.answered (.ringEntry q) = some (r, u) → exec (.ringEntryReturn q entries) s = .next (State.close s
      (u.entriesReturned q ((List.range (r.len / 64)).map fun i => match entries.getD i none with
        | some b => RaEntry.got (padTo 64 b) u.now | none => RaEntry.error u.now))) ∧
      (∀ y got, tget u.queues q = some y → 0 < y.raDrop →
        u.entriesReturned q got = u.modQueue q fun x => { x with raDrop := x.raDrop - got.length })) ∧
    (s.awake = true → s.primary = true → s.feed.halt = false → s.mgmt.warmReset = false → s.readyClass = some k →
      k < 8 ∧ (∀ j < k, ∀ e ∈ s.queues, e.2.cls = j → s.ready e.1 = false) ∧
      (tget s.qe.visits k = none → (s.queues.find? fun e => e.2.cls == k && s.ready e.1) = some (q, x) →
        tget s.queues q = some x → x.deficit ≤ 0 → chainAt (q == 0) x.ra = some c →
        let t := (s.setVisit k q true).modQueue q fun x => { x with deficit := clampDeficit (x.deficit + x.weight) };
        (0 < clampDeficit (x.deficit + x.weight) → exec .arbiterGrant s = .next (s.ends (t.grant q c))) ∧
        (clampDeficit (x.deficit + x.weight) ≤ 0 → exec .arbiterGrant s = .next (State.close s t)))) ∧
    (s.answered (.commandBytes q) = some (r, u) →
      exec (.cbReadReturn q (some bytes)) s =
        .next (s.ends ((u.bytesReturned q ((padTo r.len bytes).map some)).cbFetch q)) ∧
      exec (.cbReadReturn q none) s = .next (s.ends ((u.bytesReturned q (List.replicate r.len none)).cbFetch q))) ∧
    (s.front q = some (x, sub, slot, ctx) → sub.header = false → 16 ≤ sub.held.length →
      firstBad (sub.held.take 16) = none →
      let b := plain (sub.held.take 16);
      (le b 0 2 = 1 → le b 2 2 < 2 → zeros (slice b 4 12) = true → exec (.bufferHeader q) s = .next (s.ends
        ((((s.consume q sub.seq 16).modSub q sub.seq fun v => { v with header := true, explicit := bit (le b 2 2) 0
          }).maybeRetire q sub.seq).cbFetch q))) ∧
      (le b 0 2 ≠ 1 → exec (.bufferHeader q) s = .next (s.ends (s.parseFail q sub.seq Code.cbHeaderBad))))

/-- Commands that parsing completes or lets into the window. -/
def Obligations.StreamCommands : Prop :=
  ∀ (s : State) (q slot : Nat) (x : Queue) (u v : Sub) (c : Ctx) (b : List Byte) (row : Option Nat) (code : W16) (d : Cmd),
    let t := s.consume q u.seq b.length;
    (s.parses q 0x00 (fun b => headerCheck b 0) noChecks x u slot c b → exec (.nop q) s = .next (s.parsedTo q u t)) ∧
    (s.parses q 0x01 chainChecks (fun u _ _ _ => [(0, decide (u.chains < 255), Code.chainLimit)]) x u slot c b →
      t.subOf q u.seq = some v →
      let t' := t.modSub q u.seq fun v =>
        { v with segs := [(le64 b 8, le b 0x10 4)], held := [], asked := 0, chains := v.chains + 1, parsed := false }
      (v.asked = 0 → exec (.chain q) s = .next (s.parsedTo q u t')) ∧
      (v.asked ≠ 0 → exec (.chain q) s = .next (s.parsedTo q u (t'.modQueue q fun x => { x with cbDrop := x.cbDrop + 1 })))) ∧
    (s.parses q 0x12 patchParamsChecks noChecks x u slot c b → exec (.patchParams q) s = .next (s.parsedTo q u
      (t.modSub q u.seq fun v =>
        { v with params := overlay v.params (patchEntries b 0x10 (bits (flagsOf b) 4 0)) 0, version := v.version + 1 }))) ∧
    (s.parses q 0x13 setConstantsChecks (fun _ _ _ b => constChecks b 8 0x10) x u slot c b →
      exec (.setConstants q) s = .next (s.parsedTo q u
        (t.modSub q u.seq fun v => { v with const := constRef b 8 0x10, version := v.version + 1 }))) ∧
    (s.parses q 0x40 hintPhaseChecks noChecks x u slot c b →
      (c.partition = none → exec (.hintPhase q) s = .next (s.parsedTo q u t)) ∧
      (∀ p, c.partition = some p →
        exec (.hintPhase q) s = .next (s.parsedTo q u (t.takeHint p (le b 4 2) (le b 6 2) (le b 8 4) (le b 0xC 1))))) ∧
    (s.parses q 0x50 fenceFetchChecks noChecks x u slot c b →
      exec (.fenceFetch q) s = .next (s.parsedTo q u (t.addCmd q u .fenceFetch []))) ∧
    (s.parses q 0x10 (launchChecks 0x10) (fun _ slot c b => launchChecks6 0x10 slot c b) x u slot c b →
      exec (.launch q) s = .next (s.parsedTo q u (t.addLaunch q 0x10 u slot b))) ∧
    (s.parses q 0x11 (launchChecks 0x11) (fun _ slot c b => launchChecks6 0x11 slot c b) x u slot c b →
      exec (.launchReplay q) s = .next (s.parsedTo q u (t.addLaunch q 0x11 u slot b))) ∧
    (s.parses q 0x21 eventWaitChecks (fun _ slot c b => waitRangeChecks slot c b 0x10 (bits (flagsOf b) 2 0)) x u slot c b →
      exec (.eventWait q) s = .next (s.parsedTo q u
        ((t.addCmd q u .eventWait (waitEntries b 0x10 (bits (flagsOf b) 2 0))).registerNew q u.seq u.pos))) ∧
    (s.front q = some (x, u, slot, c) → u.next (!x.kernel) = some (row, .error code) →
      (row = none ∨ row = some 0x00 → exec (.nop q) s = .next (s.ends (s.parseFail q u.seq code))) ∧
      (row = none ∨ row = some 0x10 → exec (.launch q) s = .next (s.ends (s.parseFail q u.seq code)))) ∧
    (s.front q = some (x, u, slot, c) → u.next (!x.kernel) = some (some 0x10, .ok (b.map some)) →
      (firstFail (launchChecks 0x10 b)).map Prod.snd = some code →
      exec (.launch q) s = .next (s.ends (s.parseFail q u.seq code))) ∧
    (tget s.queues q = some x → x.subs.flatMap Sub.cmds = [d] → u ∈ x.subs → u.cmds = [d] → d.op = .fenceFetch →
      s.dmeRuns x.dme = true →
      exec (.fenceFetchComplete q) s =
        .next (s.begunTo q ((s.modQueue q Queue.refetch).completeCmd q u.seq d.off)))

/-- Commands of the window take effect once they are eligible. -/
def Obligations.WindowCommands : Prop :=
  ∀ (s t : State) (q slot e p index first count timeoutUs pollUs op : Nat) (x y : Queue) (u : Sub) (c : Ctx) (d : Cmd)
      (held : SyncWait)
      (b : List Byte) (wide release local_ m k : Bool) (addr value mask : W64) (w mop : W32) (r : MemReq),
    let begin_ := s.modCmd q u.seq d.off fun d => { d with state := .begun }
    let park := begin_.modQueue q fun x => { x with parked := true }
    let me : SyncParty := .queue q u.seq d.off
    (∀ opcode, s.eligibleCmd q opcode = some (x, u, d, slot, c) → opcode = d.op.opcode ∧
      (d.op = .eventRecord e →
        exec (.eventRecord q) s = .next (s.begunTo q ((s.recordEvent slot e Code.ok).completeCmd q u.seq d.off))) ∧
      (d.op = .writeImm wide addr value → exec (.writeImm q) s = .next (s.begunTo q
        (begin_.writeMem (some (.writeImm q)) c.pasid c.partition addr (leBytes (if wide then 8 else 4) value.toNat) true))) ∧
      (d.op = .feedSet w → exec (.feedSet q) s = .next (s.begunTo q
        (State.completeCmd { s with feed := { s.feed with hostLimit := w } } q u.seq d.off))) ∧
      (d.op = .traceSet m k w mop → exec (.traceSet q) s = .next (s.begunTo q (State.completeCmd { s with
        trace := { s.trace with
          mask := if m then w &&& 0x7FF else s.trace.mask
          mopSel := if k then mop &&& 0xF1FFF else s.trace.mopSel } } q u.seq d.off))) ∧
      (d.op = .privWrite wide index value → exec (.privWrite q) s = .next (s.begunTo q
        ((s.serveAccess (privAccess wide index value)).completeCmd q u.seq d.off))) ∧
      (d.op = .partControl p release →
        ((tget s.parts p).isSome = true → exec (.partControl q) s = .next (s.begunTo q
          ((s.modPart p fun x => { x with hold := !release }).completeCmd q u.seq d.off))) ∧
        (tget s.parts p = none → exec (.partControl q) s = .next (s.begunTo q (s.failCmd q u.seq d.off Code.badValue
          (s.dmeUnit q))))) ∧
      (d.op = .syncConfig local_ first count value → exec (.syncConfig q) s = .next (s.begunTo q
        ((s.syncConfig local_ first count value x.handle (.queue q u.seq d.off)).completeCmd q u.seq d.off))) ∧
      (d.op = .syncOp op false index addr value → exec (.syncOp q) s = .next (s.begunTo q
        (begin_.sramOp (op == 1) index value x.handle (.queue q u.seq d.off)))) ∧
      (d.op = .syncOp op true index addr value → exec (.syncOp q) s = .next (s.begunTo q
        (park.memOp (op == 1) c.pasid c.partition addr value x.handle (.queue q u.seq d.off)))) ∧
      (d.op = .syncWait op k index addr value mask timeoutUs pollUs → held ∈ s.sync.waits → held.party = me →
        (∀ v ∈ s.sync.waits, v.party = me → v = held) → exec (.syncWait q) s = .next (s.begunTo q
        (State.enter { park with sync := s.sync.arrive me } held.ident))) ∧
      (d.op = .barrier index timeoutUs → (∀ y, s.skeinEntry index = some y → c.partition ≠ some y.partition) →
        exec (.barrier q) s = .next (s.begunTo q
          ((s.barrierRefused ⟨index, [], some me⟩ Code.badValue x.handle).failCmd q u.seq d.off Code.badValue unitSync).quiet)) ∧
      (d.op = .barrier index timeoutUs → ∀ y, s.skeinEntry index = some y → c.partition = some y.partition →
        let t := { park with sync := s.sync.arrive me }
        exec (.barrier q) s = .next (s.begunTo q (t.orLate ⟨index, [], some me⟩ (t.arriveQueue index me)).quiet))) ∧
    (s.eligibleCmd q 0x20 = none →
      s.parses q 0x20 eventRecordChecks (fun _ _ c b => [eventCheck c 4 (le b 4 2)]) x u slot c b →
      exec (.eventRecord q) s = .next (s.parsedTo q u
        (((s.consume q u.seq b.length).armEvent slot (le b 4 2)).addCmd q u (.eventRecord (le b 4 2)) []))) ∧
    (s.eligibleCmd q 0x23 = none → s.parses q 0x23 syncWaitChecks noChecks x u slot c b → u.explicit = false →
      let f := flagsOf b
      exec (.syncWait q) s = .next (s.parsedTo q u
        (((s.consume q u.seq b.length).addCmd q u (.syncWait (bits f 2 0) (bit f 3) (le b 4 4 % 32768) (le64 b 8) (le64 b 0x10)
          (le64 b 0x18) (le b 0x20 4) (le b 0x24 4)) []).holdLast x.handle c q u.seq))) ∧
    (s.answered (.writeImm q) = some (r, t) → tget t.queues q = some y → u ∈ y.subs → d ∈ u.cmds →
      (∀ v ∈ y.subs, ∀ f ∈ v.cmds, f.issued r = true → v = u ∧ f = d) → d.issued r = true →
      exec (.writeImmVisible (.writeImm q) true) s = .next (s.begunTo q (t.completeCmd q u.seq d.off)) ∧
      exec (.writeImmVisible (.writeImm q) false) s = .next (s.ends
        ((t.failCmd q u.seq d.off Code.memoryError (t.dmeUnit q)).pasidFault r.pasid Code.memoryError)))

/-- A DME's next launch is failed, wakes its Nibs, is withheld, or is dispatched. -/
def Obligations.LaunchDispatch : Prop :=
  ∀ (s : State) (dme q slot tag e i : Nat) (later : Bool) (x : Queue) (u : Sub) (d : Cmd) (c : Ctx) (code : W16) (reason : Nat)
      (nibs : List Nat) (parts : List (Nat × Nat)) (rest : List (Nat × Pattern)) (p : Pattern) (ps : List W64) (n : W64)
      (m : LaunchMove) (r : MemReq) (t : State),
    let run (t : State) : Prop := (later = false → exec (.launchDispatch dme) s = .next t) ∧
      (later = true → exec (.replayMemberDispatch dme) s = .next t)
    (s.dmeRuns dme = true → s.nextLaunch dme later = some (q, x, u, d, slot, c, m) →
      (x.dme = dme ∧ q ≠ 0 ∧ d.state = .parsed ∧ d.op.isLaunch = true ∧ d.waits.all CmdWait.met = true ∧
        s.ctxOf x.handle = some (slot, c) ∧ s.launchMove c d = some m ∧ (d.rest.isEmpty = true ↔ later = false)) ∧
      (m = .fail code → run (s.begunTo q (s.failCmd q u.seq d.off code (s.dmeUnit q)))) ∧
      (m = .wake nibs → nibs ≠ [] ∧ run (s.begunTo q (nibs.foldl (fun s n => s.askWake n c.partition) s))) ∧
      (m = .withhold reason → run (s.begunTo q
        ((s.reclaim (c.partition.getD 0)).modCmd q u.seq d.off fun d => { d with withheld := some reason }))) ∧
      (m = .go (i, p, ps) rest nibs parts →
        s.feed.halt = false ∧ (d.granted = false → s.launchHeld = false ∧ s.partHeld c = false) ∧
        nibs = s.place c p.body.targetNibs ∧ p.body.targetNibs ≤ nibs.length ∧
        (∀ n ∈ nibs, s.held n < 4) ∧ (c.partition.bind (tget s.parts)).isSome = true ∧
        (d.granted = true → run (s.begunTo q (s.dispatch q u d slot c (i, p, ps) rest nibs))) ∧
        (d.granted = false → run (s.begunTo q
          (((s.reclaim (c.partition.getD 0)).chargeRamp parts).dispatch q u d slot c (i, p, ps) rest nibs))))) ∧
    (lowest 65536 (fun t => (tget s.tasks t).isNone) = some tag →
      let t := s.dispatch q u d slot c (i, p, ps) rest nibs
      tget s.tasks tag = none ∧ t.epoch = s.epoch + 1 ∧ (∀ j ≠ tag, tget t.tasks j = tget s.tasks j) ∧
        ∃ k, tget t.tasks tag = some k ∧ k.queue = q ∧ k.sub = u.seq ∧ k.off = d.off ∧ k.slot = slot ∧ k.pasid = c.pasid ∧
          k.params = p.values ps ∧ k.positions = (nibs.map fun n => ⟨n, s.epoch + 1, false, false, none⟩) ∧ k.status = 0) ∧
    (s.oldestUnregistered = some (q, n, d) → d.waits.length + s.waitsUsed ≤ 32768 →
      exec .scoreboardLateRegistration s = .next (s.ends (s.registerLater q n d))) ∧
    (s.answered (.eventState slot e) = some (r, t) → exec (.eventStoreReadReturn slot e) s = .next (s.ends
      (t.modCtx slot fun c => { c with events := tmod c.events e fun v => { v with cached := true } })))

/-- Completion messages at the Hub, and the write-back response. -/
def Obligations.TasksCompleteAndWriteBack : Prop :=
  ∀ (s t : State) (sp nib i q : Nat) (m : DoneMsg) (k : Task) (p : Pos) (r : MemReq),
    (s.hubFront sp = some (.done m, t) → (tget t.tasks m.tag = none →
        exec (.taskDoneAtHub sp) s = .next (s.endsQuiet (t.staleEpoch m.tag m.epoch m.position))) ∧
      (tget t.tasks m.tag = some k → m.arrived = [nib] →
        (k.positions.findIdx? (fun p => p.nib == nib) = none →
          exec (.taskDoneAtHub sp) s = .next (s.endsQuiet (t.staleEpoch m.tag m.epoch m.position))) ∧
        (k.positions.findIdx? (fun p => p.nib == nib) = some i → k.positions[i]? = some p →
          (p.counted = true ∨ p.epoch ≠ m.epoch →
            exec (.taskDoneAtHub sp) s = .next (s.endsQuiet (t.staleEpoch m.tag m.epoch i))) ∧
          (p.counted = false → p.epoch = m.epoch →
            exec (.taskDoneAtHub sp) s = .next (s.endsQuiet (t.countPos m.tag i m.status m.nf)))))) ∧
    (tget t.tasks m.tag = some k →
      let k' := k.count i m.status m.nf;
      (k'.positions.all Pos.counted = false → t.countPos m.tag i m.status m.nf = { t with tasks := tset t.tasks m.tag k' }) ∧
      (k'.positions.all Pos.counted = true → t.countPos m.tag i m.status m.nf = t.finishTask m.tag k') ∧
      (k'.status = if k.rank < statusRank m.status then m.status else k.status) ∧
      (∀ j, j ≠ i → k'.positions[j]? = k.positions[j]?)) ∧
    ((s.staleEpoch m.tag m.epoch i).flt = { s.flt with stale := sat32 s.flt.stale 1 } ∧
      (s.staleEpoch m.tag m.epoch i).tasks = s.tasks ∧ (s.staleEpoch m.tag m.epoch i).queues = s.queues ∧
      (s.staleEpoch m.tag m.epoch i).ctxs = s.ctxs) ∧
    (s.answered (.writeBack q) = some (r, t) →
      (let u := t.modQueue q fun x => { x with wbFlight := false, irqPending := true };
        (∀ slot c, u.ctxOfQueue q = some (slot, c) → c.served = true →
          exec (.writeBackResponse q true) s = .next (State.close s (u.issueWriteBack q))) ∧
        (∀ slot c, u.ctxOfQueue q = some (slot, c) → c.served = false → exec (.writeBackResponse q true) s =
          .next (State.close s (u.modQueue q fun x => { x with wbPending := false }))) ∧
        (u.ctxOfQueue q = none → exec (.writeBackResponse q true) s = .next (State.close s u))) ∧
      (let u := ((t.modQueue q fun x => { x with wbFlight := false }).queueCtxFault q Code.memoryError).quiet;
        (∀ slot c, u.ctxOfQueue q = some (slot, c) → c.served = true →
          exec (.writeBackResponse q false) s = .next (State.close s (u.issueWriteBack q))) ∧
        (∀ slot c, u.ctxOfQueue q = some (slot, c) → c.served = false → exec (.writeBackResponse q false) s =
          .next (State.close s (u.modQueue q fun x => { x with wbPending := false })))))

/-- Submission timeouts, unanswered memory requests, bind-off deadlines and the release of a context. -/
def Obligations.TimeoutsKillsAndReleases : Prop :=
  ∀ (s : State) (q slot : Nat) (x : Queue) (u : Sub) (c : Ctx) (r : MemReq) (w : MemWait),
    (tget s.queues q = some x → (x.subs.find? fun u => u.retired.isNone) = some u → u.fetched + 1000 * x.timeoutUs ≤ s.now →
      (q = 0 → exec (.queueTimeout q) s = .next (s.ends (s.retire 0 u.seq Code.queueTimeout))) ∧
      (q ≠ 0 → s.ctxOfQueue q = some (slot, c) → c.kill = none →
        exec (.queueTimeout q) s = .next (s.endsQuiet ((s.overtaken q).queueCtxFault q Code.queueTimeout)))) ∧
    ((s.mip.find? fun r => r.wait == some w && !r.dead && r.pages.isEmpty) = some r → r.since + 1000000 ≤ s.now →
      let t := { s with mip := s.mip ++ [{ r with dead := true }] };
      (w = .queueRecord q → exec (.memoryResponseTimeout w) s = .next (State.close t (t.reissue r))) ∧
      (w = .tailWord q → exec (.memoryResponseTimeout w) s = exec (.tailWordReturn q none) t) ∧
      (w = .commandBytes q → exec (.memoryResponseTimeout w) s = exec (.cbReadReturn q none) t) ∧
      (w = .writeBack q → exec (.memoryResponseTimeout w) s = exec (.writeBackResponse q false) t) ∧
      (w = .writeImm q → exec (.memoryResponseTimeout w) s = exec (.writeImmVisible w false) t) ∧
      (w = .syncOp q → exec (.memoryResponseTimeout w) s = exec (.memorySyncResponse q none) t) ∧
      (w = .watchPoll q → exec (.memoryResponseTimeout w) s = exec (.watchPollReturn q none) t)) ∧
    (tget s.ctxs slot = some c → s.primary = true → c.state = .bindingOff →
      (∀ d, c.kill = none → c.deadline = some d → d ≤ s.now →
        let t := s.modCtx slot fun c => { c with deadline := none };
        (s.workLeft slot = true →
          exec (.bindOffDeadline slot) s = .next (s.endsQuiet (t.startKill slot Code.killedAtDeadline))) ∧
        (s.workLeft slot = false → exec (.bindOffDeadline slot) s = .next (State.close s t))) ∧
      ((∀ k, c.kill = some k → k.eventsDone = true) → s.workLeft slot = false →
        (c.releasing = false → exec (.contextRelease slot) s = .next (s.endsQuiet (s.beginRelease slot c))) ∧
        (c.releasing = true → c.idle = false → s.ctxBusy slot c = false →
          exec (.contextRelease slot) s = .next (State.close s (s.modCtx slot fun c => { c with idle := true }))) ∧
        (c.releasing = true → c.idle = false → s.ctxBusy slot c = true → exec (.contextRelease slot) s = .next s) ∧
        (c.releasing = true → c.idle = true →
          let t := s.freeCtx slot c
          exec (.contextRelease slot) s =
            .next (s.ends ((s.bindOffWaiters slot).foldl (fun t p => t.answer p Code.ok 0 []) t)) ∧
          (∃ f, tget t.ctxs slot = some f ∧ f.state = .free ∧ f.gen = c.gen ∧ f.events = [] ∧ f.patterns = []) ∧
          (∀ b ∈ t.bells.binds, b.2 ≠ handleOf slot c.gen) ∧ (∀ j ≠ slot, tget t.ctxs j = tget s.ctxs j))))

/-- Splitters pass tasks and fold completions, withdrawals and arrivals; positions migrate; Nibs are lost. -/
def Obligations.SplitterFanInAndMigration : Prop :=
  ∀ (s t : State) (sp nib n tag pos part ident : Nat) (epoch : W32) (x : Splitter) (rest : List DownMsg) (m : TaskMsg) (d : DoneMsg)
      (b : Nib) (c : FanIn) (k : Task) (j : NibTask) (p : Pos) (nibs : List Nat),
    (s.splitters[sp]? = some x → x.down = .task m :: rest → x.link = .up → m.placement.Nodup →
      (∀ f ∈ x.counters, ¬(f.tag = m.tag ∧ f.epoch = m.epoch)) →
      let mine := m.placement.filter fun n => match s.nibs[n]? with | some b => b.via == sp && b.present | none => false
      ∃ t : State, exec (.splitterTaskPass sp) s =
          .next (State.close s ((t.passDown sp).latchAll fun m => { m with wake := true })) ∧
        (∃ y : Splitter, t.splitters[sp]? = some y ∧ y.down = rest ∧ y.forwarded = x.forwarded + 1 ∧ y.up = x.up ∧
          (m.migrated = true → y.counters = x.counters) ∧
          (m.migrated = false → mine ≠ [] → ∃ f : FanIn, y.counters = x.counters ++ [f] ∧ f.tag = m.tag ∧ f.epoch = m.epoch ∧
            f.expected = sortNats mine ∧ f.arrived = [] ∧ f.status = 0)) ∧
        (∀ n ∈ mine, ∀ b, s.nibs[n]? = some b → t.nibs[n]? = some { b with down := b.down ++ [.task m] }) ∧
        (∀ n, n ∉ mine → t.nibs[n]? = s.nibs[n]?) ∧ t.tasks = s.tasks ∧ t.queues = s.queues) ∧
    (s.splitterFront nib = some (.done d, b, t) →
      (t.counterOf b.via d.tag d.epoch = some c → d.migrated = false → c.expected.contains nib = true →
        c.arrived.contains nib = false →
        exec (.splitterCompletion nib) s = .next (State.close s ((t.putCounter b.via (c.add nib d)).passUp nib))) ∧
      (t.counterOf b.via d.tag d.epoch = none ∨ d.migrated = true → exec (.splitterCompletion nib) s = .next (State.close s
        ((t.splitterUp b.via (.done { d with splitter := b.via, arrived := [nib], folded := false })).passUp nib)))) ∧
    (s.splitters[sp]? = some x → x.link = .up →
      (c.full = true → ((s.putCounter sp c).splitters[sp]?).map Splitter.up = some (x.up ++ [.done (c.message sp)])) ∧
      (c.full = false → ((s.putCounter sp c).splitters[sp]?).map Splitter.up = some x.up)) ∧
    (s.splitterFront nib = some (.withdrawn n tag epoch pos, b, t) →
      let u := t.splitterUp b.via (.withdrawn n tag epoch pos);
      (u.counterOf b.via tag epoch = none → exec (.splitterWithdrawn nib) s = .next (State.close s (u.passUp nib))) ∧
      (u.counterOf b.via tag epoch = some c → c.expected.contains nib = true → c.arrived.contains nib = false →
        exec (.splitterWithdrawn nib) s = .next (State.close s
          ((u.putCounter b.via { c with expected := c.expected.filter (· != nib) }).passUp nib)))) ∧
    (s.splitterFront nib = some (.barrier nibs ident part, b, t) → t.splitters[b.via]? = some x → x.barriers = [] →
      let here := sortNats nibs
      let want := (t.partNibs part).filter fun n => match t.nibs[n]? with | some y => y.via == b.via | none => false
      let u := t.recordSplitter b.via 0x09 (t.barrierPayload ident false);
      (want.all here.contains = true → exec (.splitterBarrierArrival nib) s = .next (State.close s
        (((u.modSplitter b.via fun x => { x with barriers := [] }).splitterUp b.via (.barrier here ident part)).passUp nib))) ∧
      (want.all here.contains = false → exec (.splitterBarrierArrival nib) s = .next (State.close s
        ((u.modSplitter b.via fun x => { x with barriers := [⟨ident, part, here⟩] }).passUp nib)))) ∧
    (tget s.tasks tag = some k → k.positions[pos]? = some p →
      (s.primary = true → p.counted = false → p.drain = none → s.stuck tag p = true → (s.otherNibs k).any s.idleNib = true →
        exec (.migrationTimer tag pos) s = .next (State.close s
          ((s.modPos tag pos fun p => { p with drain := some s.now }).sendNib p.nib (.withdraw p.nib tag p.epoch pos)))) ∧
      (∀ t0, s.primary = true → p.drain = some t0 → t0 + 100000 ≤ s.now → exec (.withdrawDrainTimeout tag pos) s =
        .next (s.endsQuiet ((s.modPos tag pos fun p => { p with drain := none }).nibLost p.nib 3)))) ∧
    (tget t.tasks tag = some k → k.positions[pos]? = some p → p.drain.isSome = true → p.epoch = epoch → p.counted = false →
      (s.hubFront sp = some (.withdrawn n tag epoch pos, t) → (tget t.ctxs k.slot).bind Ctx.kill = none → t.feed.halt = false →
        t.mgmt.warmReset = false → exec (.withdrawAnswer sp) s = .next (s.endsQuiet (t.replace tag pos p.nib k))) ∧
      (∀ kill, s.hubFront sp = some (.withdrawn n tag epoch pos, t) → (tget t.ctxs k.slot).bind Ctx.kill = some kill →
        exec (.withdrawAnswer sp) s = .next (s.endsQuiet (t.countPos tag pos kill.cause none))) ∧
      (s.hubFront sp = some (.started n tag epoch pos, t) ∨ s.hubFront sp = some (.unknown n tag epoch pos, t) →
        exec (.withdrawAnswer sp) s = .next (State.close s (t.modPos tag pos fun p => { p with drain := none })))) ∧
    (s.nibFront nib = some (.withdraw n tag epoch pos, b, t) →
      (b.task tag epoch = none → exec (.nibWithdraw nib) s = .next (State.close s (t.sendUp nib (.unknown nib tag epoch pos)))) ∧
      (b.task tag epoch = some j → j.started = true →
        exec (.nibWithdraw nib) s = .next (State.close s (t.sendUp nib (.started nib tag epoch pos)))) ∧
      (b.task tag epoch = some j → j.started = false →
        ∃ u : State, exec (.nibWithdraw nib) s = .next (State.close s (u.sendUp nib (.withdrawn nib tag epoch pos))) ∧
          (∀ y, u.nibs[nib]? = some y → y.task tag epoch = none) ∧ (∀ i ≠ nib, u.nibs[i]? = t.nibs[i]?) ∧
          u.tasks = s.tasks ∧ u.splitters = s.splitters)) ∧
    (s.nibs[nib]? = some b → b.present = true →
      exec (.ylinkDown (.nib nib)) s = .next (s.endsQuiet (s.nibLost nib 1)) ∧
      exec (.nibUncorrectableError nib) s = .next (s.endsQuiet (s.nibLost nib 4)) ∧
      (s.dropNib nib).nibs[nib]? = some { Nib.reset with
        link := .absent, via := b.via, die := b.die, ports := b.ports, firstReport := b.firstReport, testMode := b.testMode } ∧
      ∀ i ≠ nib, (s.dropNib nib).nibs[i]? = s.nibs[i]?) ∧
    (s.splitters[sp]? = some x → x.link = .up → (∃ u : State, exec (.ylinkDown (.splitter sp)) s = .next (s.endsQuiet u)) ∧
      ((∀ b ∈ s.nibs, b.via ≠ sp) → exec (.ylinkDown (.splitter sp)) s =
        .next (s.endsQuiet (s.modSplitter sp fun x => { x with link := .absent, down := [], up := [] }))))

/-- A Nib takes a task, fills its slot, stages its constants, swaps it in, and its Stitchers emit. -/
def Obligations.NibTasks : Prop :=
  ∀ (s t : State) (nib core slot tag tp : Nat) (m : TaskMsg) (b : Nib) (k : NibTask) (v : Variant) (x : Stitcher) (r : MemReq)
      (l : List Byte) (f : Template) (e : EngineQueue),
    (s.nibFront nib = some (.task m, b, t) →
      (b.power ≠ .off → exec (.nibTaskReceive nib) s = .next (State.close s (t.takeTask nib m))) ∧
      (b.power = .off → exec (.nibTaskReceive nib) s = .next (State.close s (s.askWake nib (s.partOfNib nib)))) ∧
      ∃ (y : Nib) (j : NibTask), (t.takeTask nib m).nibs[nib]? = some y ∧ y.tasks = b.tasks ++ [j] ∧ j.msg = m ∧
        j.position = m.positionAt nib ∧ j.started = false ∧ j.slot = (b.chooseSlot m.stateTag).1 ∧
        (m.const = none → j.constant = some []) ∧ y.cores = b.cores ∧ y.stitchers = b.stitchers ∧
        (t.takeTask nib m).tasks = s.tasks ∧ (t.takeTask nib m).queues = s.queues) ∧
    (s.answered (.nibSlot nib slot) = some (r, t) → exec (.stateSlotFilled nib slot) s = .next (State.close s
      (t.modNib nib fun b => { b with slots := lmod b.slots slot fun x =>
        { x with body := match tget t.mgmt.store x.entry with
            | some (tag, v) => if x.tag = some tag then some v else none
            | none => none } }))) ∧
    (s.answered (.nibConstants nib tag) = some (r, t) →
      exec (.constantsStaged nib tag (some l)) s = .next (State.close s
        (t.modNib nib fun b => { b with tasks := b.tasks.map fun k =>
          if k.msg.tag = tag ∧ k.constant.isNone then { k with constant := some (padTo r.len l) } else k })) ∧
      exec (.constantsStaged nib tag none) s = .next (s.endsQuiet (t.pasidFault r.pasid Code.memoryError))) ∧
    (s.nibs[nib]? = some b → b.present = true → b.swapsIn = some (k, v) →
      k.started = false ∧ k.abort = none ∧ b.stitchers.all Stitcher.ended = true ∧
      ∃ (u : State) (y : Nib), exec (.nibSwapIn nib) s = .next (State.close s
          (u.recordNib nib (nibSource nib) 0x04 (k.msg.patIndex + 2 ^ 16 * (k.msg.epoch.toNat % 65536)))) ∧
        u.nibs[nib]? = some y ∧ y.cores = b.cores ∧ (∀ i ≠ nib, u.nibs[i]? = s.nibs[i]?) ∧
        (∀ z ∈ y.stitchers, z.core < v.cores → z.tag = k.msg.tag ∧ z.epoch = k.msg.epoch ∧ z.flat = 0 ∧ z.todo = none ∧
          z.ended = false ∧ z.index = v.pointAt k.position z.core 0 ∧ z.dmem = startDmem (k.constant.getD []) v.dmemBytes) ∧
        (∀ c < v.cores, ∃ z ∈ y.stitchers, z.core = c) ∧
        (∀ j, y.task k.msg.tag k.msg.epoch = some j → j.started = true)) ∧
    (s.nibs[nib]? = some b → (b.stitchers.find? fun x => x.core == core && !x.ended) = some x →
      b.task x.tag x.epoch = some k → b.body k = some v →
      let y := x.begin k v
      let r := b.emitAll k v y (y.todo.getD []);
      (r.2.2 = [] →
        let z := ({ r.2.1 with todo := some [] } : Stitcher).next k v
        let u := s.modNib nib fun _ => r.1.modStitcher core fun _ => { z with parked := false }
        exec (.stitcherEmit nib core) s = .next (s.endsQuiet
          ((u.lookAhead nib k v { z with core := core } x.flat).checkShare nib x.tag x.epoch))) ∧
      (r.2.2 ≠ [] → x.todo ≠ some r.2.2 →
        let u := s.modNib nib fun _ => r.1.modStitcher core fun _ => { r.2.1 with todo := some r.2.2, parked := false }
        exec (.stitcherEmit nib core) s = .next (s.endsQuiet (u.checkShare nib x.tag x.epoch)))) ∧
    (v.templates[tp]? = some f → b.queue x.core f.eq = some e →
      (4 ≤ e.buf.length → b.emitOne k v x tp = none) ∧
      (e.buf.length < 4 → ∃ (b' : Nib) (x' : Stitcher) (p : Packet), b.emitOne k v x tp = some (b', x') ∧
        b'.queue x.core f.eq = some { e with buf := e.buf ++ [p] } ∧ p.template = tp ∧ p.iter = x.flat ∧ p.tag = x.tag ∧
        p.pasid = k.msg.pasid ∧ p.payload = f.form v.streams k.msg.param x.index x.dmem ∧
        p.deps = f.deps.filterMap (tget x.lastUid) ∧ tget x'.lastUid tp = some p.uid ∧ b'.tasks = b.tasks))

/-- Issue, completion tokens, residue checks and aborts at a Nib. -/
def Obligations.NibIssueAndTokens : Prop :=
  ∀ (s t : State) (nib core eq tag : Nat) (epoch : W32) (b : Nib) (e : EngineQueue) (o : OutMop) (p : Packet) (token : List Byte)
      (values : List W64) (k : NibTask) (pasid : Option Nat) (cause : W16) (nibs : List Nat) (r : Nat × W64 × Nat) (v : W64),
    (b.readyHead core eq = some p ↔ ∃ e rest, b.queue core eq = some e ∧ e.buf = p :: rest ∧ e.opened = true ∧
      e.live.length < e.credits ∧ ∀ u ∈ p.deps, b.pendingUid core u = false) ∧
    (s.nibs[nib]? = some b → b.present = true → b.power ≠ .off →
      let room := min 4 (s.issueRoom nib)
      let granted := b.readyHeads.take room
      let last := match granted.getLast? with | some c => c.1 | none => b.lastCore
      let u := (issueOrder granted).foldl (fun t c => t.issueHead nib c) (s.modNib nib fun b => { b with lastCore := last })
      let purl := match u.nibs[nib]? with | some b => b.purlDue.take (room - granted.length) | none => []
      let w := (purl.foldl (fun t c => t.issuePurl nib c) u).modNib nib Nib.repark
      granted.length ≤ 4 ∧ (∀ c ∈ granted, (b.readyHead c.1 c.2).isSome = true) ∧
      (w.nibs[nib]? ≠ some b → exec (.nibIssue nib) s = .next (State.close s w))) ∧
    (s.nibs[nib]? = some b → b.present = true → b.queue core eq = some e →
      ((e.live.find? fun o => o.mopSeq == le token 0 2) = none →
        exec (.completionToken nib core eq token) s = .next (State.close s (s.strayMop nib core eq))) ∧
      ((e.live.find? fun o => o.mopSeq == le token 0 2) = some o → o.packet = p → p.purl = false →
        let status := if le token 2 1 < 64 then le token 3 1 else 0x10
        let covered : Bool := match e.abort with | some a => a.covers p | none => false
        let code := tokenFatal status covered
        let nf : Option NonFinite := if status = 1 then some ⟨s.nibNow nib, engineAddr nib core eq⟩ else none
        let u := (s.chargeToken nib (le token 4 4) (le token 2 1 % 64) p).modNib nib fun b =>
          let b := (b.modEq core eq fun e => e.token (le token 0 2) s.now).modTask p.tag p.epoch fun k =>
            { k with doneAt := some (s.nibNow nib) }
          let b := b.modTask p.tag p.epoch fun k => k.tokened code (status == 2 && covered) nf
          Nib.settle { b with invalidations := b.invalidations.map fun i => (i.1, i.2.1, i.2.2.filter (· != p.uid)) } s.now
        let ends (t : State) : State := (t.answerInvalidations nib).checkShare nib p.tag p.epoch
        (code = none → exec (.completionToken nib core eq token) s = .next (State.close s (ends u))) ∧
        ∀ c, code = some c → exec (.completionToken nib core eq token) s = .next (s.endsQuiet (State.pasidFault
          (ends (u.recordNib nib (nibSource nib) 0x0A (c.toNat + 2 ^ 16 * engineAddr nib core eq + 2 ^ 64 * le token 8 8)))
          p.pasid c)))) ∧
    (tokenFatal 0 false = none ∧ tokenFatal 1 false = none ∧ tokenFatal 2 true = none ∧ tokenFatal 2 false = some Code.engineFault ∧
      tokenFatal 0x11 false = some Code.memoryError ∧ tokenFatal 0x12 false = some Code.translationFault) ∧
    (s.nibFront nib = some (.residue nib tag epoch values, b, t) →
      (b.task tag epoch = none → exec (.residueReadAnswer nib) s = .next (State.close s t)) ∧
      (b.task tag epoch = some k → ((k.residue.zip values).find? fun r => r.1.2.1 != r.2) = none →
        exec (.residueReadAnswer nib) s = .next (State.close s (t.completeShare nib k))) ∧
      (b.task tag epoch = some k → ((k.residue.zip values).find? fun r => r.1.2.1 != r.2) = some (r, v) →
        exec (.residueReadAnswer nib) s = .next (State.close s
          ((t.nibSyncFault nib Code.syncResidue (syncObject (.sram r.1))
            (syncWaiter (t.taskHandle tag) (.engine nib r.2.2 0 0 0 tag))).completeShare nib
              { k with waiter := some Code.syncResidue })))) ∧
    (s.nibFront nib = some (.abort nibs pasid cause, b, t) →
      exec (.abortAtNib nib) s = .next (State.close s (t.abortNib nib pasid cause))) ∧
    (s.nibs[nib]? = some b → b.queue core eq = some e → e.abort.isSome = true → e.abortSince + 100000 ≤ s.now →
      exec (.abortTokenTimeout nib) s = .next (s.endsQuiet (s.nibLost nib 2)))

/-- Requests of engines and the replies to them at the Nib. -/
def Obligations.EngineRequests : Prop :=
  ∀ (s t : State) (nib n core eq : Nat) (request : List Byte) (b : Nib) (o : OutMop) (e : Tlb) (y : SkeinEntry) (k : NibTask)
      (r : SyncReply) (q : EngineQueue) (nibs : List Nat) (part ident mopSeq reqTag result queue len pasid : Nat) (gen : W32)
      (code : W16) (entry addr : W64) (oq : OpenReq) (mr : MemReq) (stray : Bool),
    let tag := le request 4 1;
    (s.nibs[nib]? = some b →
      (b.fate core eq 1 request = .answered result stray → exec (.engineTranslateRequest nib core eq request) s =
        .next (State.close s (s.refuseReq nib core eq request result stray))) ∧
      (b.queue core eq = some q → b.present = true → (q.out.foldl (fun n o => n + o.reqs.length) 0) < 4 → le request 0 1 = 1 →
        (q.live.find? (fun o => o.mopSeq == le request 2 2) = none → b.fate core eq 1 request = .answered 5 true) ∧
        (q.live.find? (fun o => o.mopSeq == le request 2 2) = some o → o.packet.purl = false → reqClean request = true →
          (b.abortedShare o.packet = true → b.fate core eq 1 request = .answered 6 false) ∧
          (b.abortedShare o.packet = false → b.fate core eq 1 request = .taken o))) ∧
      (b.fate core eq 1 request = .taken o →
        let write := bit (le request 1 1) 0
        let page := le request 8 8 / 4096 * 4096;
        ((b.cache.find? fun e => e.serves o.packet.pasid page write) = some e →
          exec (.engineTranslateRequest nib core eq request) s = .next (State.close s (s.modNib nib fun b =>
            (b.touch e).drive core eq (engineReply 1 0 o.mopSeq tag 0 (e.trans (le request 8 8)))))) ∧
        ((b.cache.find? fun e => e.serves o.packet.pasid page write) = none →
          let open_ : OpenReq := ⟨tag, 1, false, none, none, BitVec.ofNat 64 (le request 8 8), 0, write⟩
          exec (.engineTranslateRequest nib core eq request) s = .next (State.close s
            ((s.modNib nib fun b => b.openWith core eq o.mopSeq open_).askXlat nib o.packet.pasid page write
              (core, eq, o.mopSeq, tag, BitVec.ofNat 64 (le request 8 8)))))) ∧
      (b.fate core eq 2 request = .taken o →
        (bits (le request 1 1) 2 0 = 6 → s.coreMayArrive b o.packet core (le request 0x20 4) = some y →
          exec (.engineSyncRequest nib core eq request) s = .next (State.close s
            ((s.sendSync nib core eq o request).countCore nib core o.packet y))) ∧
        (bits (le request 1 1) 2 0 ≠ 6 → b.task o.packet.tag o.packet.epoch = some k →
          s.tracks k (bits (le request 1 1) 2 0) (le request 0x20 4) (bit (le request 1 1) 3) = false →
          exec (.engineSyncRequest nib core eq request) s = .next (State.close s (s.sendSync nib core eq o request)))) ∧
      (b.fate core eq 3 request = .taken o →
        let open_ : OpenReq := ⟨tag, 3, false, none, none, le64 request 8, le request 0x2C 4, false⟩
        exec (.engineEnqueueRequest nib core eq request) s = .next (State.close s
          ((s.modNib nib fun b => b.openWith core eq o.mopSeq open_).sendUp nib (.enqueue nib core eq o.mopSeq tag
            o.packet.pasid (le request 0x20 4) (le64 request 8) (le request 0x2C 4)))))) ∧
    (s.nibFront nib = some (.syncReply r, b, t) →
      exec (.syncReplyAtNib nib) s = .next (State.close s (t.syncReplied nib r))) ∧
    (s.nibFront nib = some (.release nibs part ident gen code, b, t) → b.barrierReqs ident = [] →
      let purl : Bool := ((tget s.parts part).bind Part.purl).isSome
      exec (.barrierReleaseAtNib nib) s = .next (State.close s
        (((t.recordNib nib (nibSource nib) 0x09 (t.barrierPayload ident true)).modNib nib fun b =>
          { b with barrierCores := tdel b.barrierCores ident, purl := if purl then b.purl else 0 }).reclaim part))) ∧
    (s.nibFront nib = some (.enqueueReply n core eq mopSeq reqTag result queue entry addr len pasid, b, t) →
      b.openReq core eq mopSeq 3 reqTag = some (o, oq) →
      (result = 0 → exec (.enqueueReplyAtNib nib) s = .next (State.close s
        ((t.modNib nib fun b => { b with
          enqueues := b.enqueues ++ [.enqueueReply n core eq mopSeq reqTag result queue entry addr len pasid] }).writeEntry
            nib pasid o.packet.partition entry addr len))) ∧
      (result ≠ 0 → exec (.enqueueReplyAtNib nib) s = .next (State.close s
        ((t.answerReq nib core eq mopSeq 3 reqTag result 0 0).checkShare nib o.packet.tag o.packet.epoch)))) ∧
    (s.answered (.nibEntry nib) = some (mr, t) → s.nibs[nib]? = some b →
      b.enqueues.head? = some (.enqueueReply n core eq mopSeq reqTag result queue entry addr len pasid) →
      let u := t.modNib nib fun b => { b with enqueues := b.enqueues.drop 1 }
      exec (.enqueueEntryWriteResponse nib true) s = .next (State.close s
        ((u.sendUp nib (.entryWritten queue nib core eq mopSeq reqTag)).enqueueAnswered nib core eq mopSeq reqTag)) ∧
      exec (.enqueueEntryWriteResponse nib false) s = .next (s.endsQuiet (u.pasidFault pasid Code.memoryError)))

/-- Translations return and are invalidated; device-side enqueues are reserved, refused and written. -/
def Obligations.TranslationsAndEnqueues : Prop :=
  ∀ (s t : State) (tag status nib itag pasid page size q sp core eq mopSeq reqTag len : Nat) (addr : W64) (sizeBit readable writable
      allPasids : Bool) (r : XReq) (b : Nib) (x y : Queue) (slot : Nat) (c : Ctx) (v : Reservation) (rest : List Reservation)
      (cover : Option Nat) (i : Inv) (n : Nat),
    ((s.xlat.reqs.find? fun r => r.tag == tag && decide (r.tag < 256)) = some r →
      let range := atsRange addr.toNat sizeBit
      let e : Tlb := ⟨r.pasid, r.page / range.2 * range.2, range.2, BitVec.ofNat 64 range.1, readable, writable, r.core⟩
      let met : Bool := r.dirty.any fun d => rangesMeet d.1 d.2 e.page e.size
      let permitted : Bool := status == 0 && (if r.write then writable else readable)
      (r.dead = true → exec (.translationCompletion tag status addr sizeBit readable writable) s =
        .next (State.close s (s.freeTag tag))) ∧
      (r.dead = false → met = true → exec (.translationCompletion tag status addr sizeBit readable writable) s =
        .next (State.close s ((s.freeTag tag).resend r))) ∧
      (r.dead = false → met = false → permitted = true →
        (∀ m, r.nib = some m → exec (.translationCompletion tag status addr sizeBit readable writable) s = .next (State.close s
          (r.asks.foldl (fun t a => t.answerXlat m (some e) a) ((s.freeTag tag).translated r e))) ∧
          ((s.freeTag tag).translated r e).nibs = (s.modNib m fun b => b.cacheIn e).nibs) ∧
        (r.nib = none → exec (.translationCompletion tag status addr sizeBit readable writable) s =
          .next (State.close s ((s.freeTag tag).translated r e)) ∧ e ∈ ((s.freeTag tag).translated r e).xlat.cache)) ∧
      (r.dead = false → met = false → permitted = false →
        exec (.translationCompletion tag status addr sizeBit readable writable) s =
          .next (State.close s ((s.freeTag tag).refuseXlat r)))) ∧
    (∀ m, r.nib = some m → (∀ q ∈ (r.asks.foldl (fun t a => t.answerXlat m none a) s).mip, r.holds q = false) →
      s.refuseXlat r = r.asks.foldl (fun t a => t.answerXlat m none a) s) ∧
    ((∀ a, atsRange a false = (a / 4096 * 4096, 4096)) ∧ atsRange 0x1000 true = (0, 0x4000) ∧ atsRange 0x8000 true = (0x8000, 0x2000)) ∧
    ((s.xlat.reqs.find? fun r => r.tag == tag && decide (r.tag < 256) && !r.dead) = some r → r.since + 1000000 ≤ s.now →
      exec (.translationTimeout tag) s = .next (State.close s (State.refuseXlat
        { s with xlat := { s.xlat with reqs := s.xlat.reqs.map fun x =>
          if x.tag = tag then { x with dead := true, asks := [] } else x } } r))) ∧
    (s.awake = true → s.primary = true → s.xlat.invs = [] → itag < 32 →
      exec (.invalidateRequest itag pasid allPasids addr sizeBit) s = .next (State.close s
        (s.startInv itag (if allPasids then none else some pasid) (atsRange addr.toNat sizeBit).1 (atsRange addr.toNat sizeBit).2)) ∧
      ((s.startInv itag cover page size).xlat.invs).map Inv.itag = [itag]) ∧
    (s.nibFront nib = some (.invalidate n itag cover page size, b, t) →
      exec (.nibInvalidation nib) s = .next (State.close s ((t.modNib nib fun b =>
        { b with cache := b.cache.filter fun e => !invCovers cover page size e.pasid e.page e.size
                 invalidations := b.invalidations ++ [(itag, cover, b.liveUids cover)] }).answerInvalidations nib))) ∧
    (s.awake = true → s.primary = true → s.xlat.invs = [i] → i.itag = itag → i.nibs = [] → itag < 32 →
      (∀ x ∈ s.splitters, x.up = []) → exec (.invalidateComplete itag) s = .next (State.close s
        (State.emit { s with xlat := { s.xlat with invs := [] } } (.xic itag)))) ∧
    (s.hubFront sp = some (.enqueue nib core eq mopSeq reqTag pasid q addr len, t) →
      let fresh : Reservation := ⟨nib, core, eq, mopSeq, reqTag, addr, len, t.now, none, false⟩
      (∀ result, t.enqueueCheck pasid q addr len = some result →
        exec (.enqueueRequest sp) s = .next (State.close s (t.answerEnqueue q pasid fresh result 0))) ∧
      (t.enqueueCheck pasid q addr len = none → tget t.queues q = some x →
        let u := t.modQueue q fun x => { x with resv := x.resv ++ [fresh] };
        (x.resv.any (fun r => r.index.isNone) = true → exec (.enqueueRequest sp) s = .next (State.close s u)) ∧
        (x.resv.any (fun r => r.index.isNone) = false →
          exec (.enqueueRequest sp) s = .next (State.close s ((u.grantSlot q).getD u))))) ∧
    (s.grantSlot q = some t → s.primary = true → s.awake = true →
      exec (.slotReservationGrant q) s = .next (State.close s t)) ∧
    (tget s.queues q = some x → s.ctxOfQueue q = some (slot, c) → takeFirst (fun r => r.index.isNone) x.resv = some (v, rest) →
      (x.hasSlot = true → s.grantSlot q = some
        ((s.modQueue q fun x => { x with
          resvTail := x.resvTail + 1
          resv := modFirst (fun r => r.index.isNone) (fun r => { r with index := some x.resvTail }) x.resv }).answerEnqueue
            q c.pasid v 0 (x.entryAddr x.resvTail))) ∧
      (x.hasSlot = false → s.grantSlot q = none) ∧
      (v.since + 100000 ≤ s.now → exec (.enqueueRefusedFull q) s = .next (State.close s
        ((s.modQueue q fun x => { x with resv := rest }).answerEnqueue q c.pasid v 3 0)))) ∧
    (s.hubFront sp = some (.entryWritten q nib core eq mopSeq reqTag, t) → tget t.queues q = some x → t.ctxOfQueue q = some (slot, c) →
      y = Queue.advanceTail 65537 { x with
        resv := modFirst (fun r => r.is nib core eq mopSeq reqTag) (fun r => { r with written := true }) x.resv } →
      (y.tail = x.tail → ∃ w : State, exec (.enqueueEntryWritten sp) s = .next (State.close s w) ∧ tget w.queues q = some y ∧
        w.mip = s.mip) ∧
      (y.tail ≠ x.tail → y.resident = true → ∃ w : State, tget w.queues q = some y ∧ w.ctxs = s.ctxs ∧
        exec (.enqueueEntryWritten sp) s = .next (State.close s
          ((w.writeMem (some (.tailStore q)) c.pasid c.partition y.tailAddr (leBytes 8 y.tail.toNat) false).readAhead q))))

/-- Memory-word operations, watch slots, and waits of the Sync Unit. -/
def Obligations.SyncUnitCommands : Prop :=
  ∀ (s t : State) (i slot waitId sp : Nat) (v old new word value mask : W64) (o : MemOp) (r : MemReq) (w : SyncWait) (x : Watch)
      (q : SyncReq) (k : Task) (nib tag : Nat) (epoch : W32) (words : List Nat),
    (s.answered (.syncOp i) = some (r, t) → s.sync.memOps.find? (fun o => o.ident == i) = some o →
      let wd : WordRef := .mem o.pasid o.addr
      let ended := t.endMemOp o;
      (∃ free, exec (.memorySyncResponse i none) s = .next (s.ends
        ((((ended.debugRecord wd (b2n o.add) o.handle o.party).syncFault Code.memoryError (syncObject wd)
        (syncWaiter o.handle o.party)).answerSync o.party Code.memoryError free).pasidFault o.pasid Code.memoryError))) ∧
      (o.phase = .setting → ∃ free, exec (.memorySyncResponse i (some v)) s = .next (s.ends
        (((ended.syncRecord wd 0 o.handle o.party).evalWord wd o.value).answerSync o.party Code.ok free))) ∧
      (o.phase = .reading →
        (∀ sum, syncAdd v o.value = some sum → exec (.memorySyncResponse i (some v)) s = .next (s.ends (t.swapMemOp o v sum))) ∧
        (syncAdd v o.value = none → exec (.memorySyncResponse i (some v)) s = .next (s.ends
          (((ended.debugRecord wd 1 o.handle o.party).syncFault Code.syncUnderflow (syncObject wd) (syncWaiter o.handle o.party)).answerSync o.party Code.syncUnderflow v)))) ∧
      (o.phase = .swapping old new →
        (v = old → exec (.memorySyncResponse i (some v)) s = .next (s.ends
          (((ended.syncRecord wd 1 o.handle o.party).evalWord wd new).answerSync o.party Code.ok old))) ∧
        (v ≠ old → exec (.memorySyncResponse i (some v)) s = .next (s.ends (t.startMemOp o))))) ∧
    (s.sync.due s.now = some i → tget s.sync.watches i = some x → exec .watchPoll s = .next (State.close s
      (State.readMem { s with sync := { s.sync with watches := tset s.sync.watches i { x with polling := true } } }
        (.watchPoll i) x.pasid x.partition x.addr 8 false))) ∧
    (s.sync.due s.now = some i → tget s.sync.watches i = some x → (s.sync.watches.map Prod.fst).Nodup →
      x.polling = false ∧ ∀ p, x.lastPoll = some p → p + 1000 * x.periodUs ≤ s.now) ∧
    (s.answered (.watchPoll slot) = some (r, t) → tget s.sync.watches slot = some x →
      (x.pasid ≠ r.pasid ∨ x.addr ≠ r.addr → exec (.watchPollReturn slot (some v)) s = .next (s.ends t)) ∧
      (x.pasid = r.pasid → x.addr = r.addr →
      let u := { t with sync := { t.sync with
        watches := tset t.sync.watches slot { x with polling := false, lastPoll := some s.now } } }
      exec (.watchPollReturn slot (some v)) s = .next (s.ends (u.evalWord (.mem x.pasid x.addr) v)) ∧
      exec (.watchPollReturn slot none) s = .next (s.ends
        ((u.failWatch x.pasid x.addr).pasidFault x.pasid Code.memoryError)))) ∧
    (s.sync.waits.find? (fun w => !w.registered && !w.held && w.onWord && s.sync.room w) = some w →
      exec .syncWaitLateRegister s = .next (s.ends (s.registerWait w.ident))) ∧
    (s.sync.waits.find? (fun w => w.ident == waitId) = some w → 0 < w.timeoutUs → w.since + 1000 * w.timeoutUs ≤ s.now →
      ∃ u : State, (∀ z ∈ u.sync.waits, z.ident ≠ waitId) ∧ u.queues = s.queues ∧ u.sync.words = s.sync.words ∧
        exec (.syncWaitExpiry waitId) s = .next (s.endsQuiet ((u.syncFault Code.syncTimeout (s.waitObject w)
          (syncWaiter w.handle w.party)).answerSync w.party Code.syncTimeout 0))) ∧
    (s.hubFront sp = some (.sync q, t) →
      (tget t.tasks q.tag = some k → q.op < 2 ∨ t.aborted k = false →
        exec (.syncRequestAtSyncUnit sp) s = .next (s.endsQuiet (t.engineSync q k))) ∧
      (tget t.tasks q.tag = some k → 2 ≤ q.op → t.aborted k = true →
        exec (.syncRequestAtSyncUnit sp) s = .next (s.endsQuiet t)) ∧
      (tget t.tasks q.tag = none → exec (.syncRequestAtSyncUnit sp) s = .next (State.close s t))) ∧
    (s.hubFront sp = some (.residue nib tag epoch words, t) → exec (.syncRequestAtSyncUnit sp) s = .next (State.close s
      (t.sendNib nib (.residue nib tag epoch (words.map s.word))))) ∧
    (∀ sum, syncAdd word value = some sum ↔
      (sum.toNat : Int) = (word.toNat : Int) + value.toInt) ∧
    (syncHolds 2 word value mask = true ↔ value.toNat ≤ word.toNat) ∧ (syncHolds 3 word value mask = true ↔ word = value) ∧
    (syncHolds 4 word value mask = true ↔ word &&& mask = value)

/-- Barrier arrivals, polls of the relay, and the instance timer. -/
def Obligations.BarrierInstances : Prop :=
  ∀ (s t : State) (sp bar k part : Nat) (nibs : List Nat) (e : SkeinEntry) (r : BarrierRun) (req : MemReq) (v : W64)
      (word : Option Nat) (fail : Option (Nat × Nat)),
    (s.hubFront sp = some (.barrier nibs bar part, t) →
      (t.skeinEntry bar = none → exec (.barrierArrivalHub sp) s = .next (State.close s t)) ∧
      (t.skeinEntry bar = some e → exec (.barrierArrivalHub sp) s =
        .next (s.endsQuiet (t.orLate ⟨bar, nibs, none⟩ (t.arriveNibs bar nibs)))) ∧
      (t.barrierRun bar = none → 16 ≤ t.sync.barriers.length → t.arriveNibs bar nibs = none)) ∧
    (s.barrierRun bar = none → s.skeinEntry bar = some e → 0 < e.children → s.primary = true →
      exec (.barrierPoll bar) s = .next (State.close s (s.pollChildren e (List.range e.children)))) ∧
    (s.barrierRun bar = some r → (∀ p, r.lastPoll = some p → p + 200 ≤ s.now) →
      let u := s.putRun { r with lastPoll := some s.now };
      (r.upWait = true → s.waitsFor (.barrierPoll bar none) = false → exec (.barrierPoll bar) s = .next (State.close s
        (u.readMem (.barrierPoll bar none) r.entry.pasid (some r.entry.partition) r.entry.releaseAddr 8 false))) ∧
      (r.upWait = false → 0 < r.entry.children → exec (.barrierPoll bar) s = .next (State.close s
        (u.pollChildren r.entry (List.range r.entry.children))))) ∧
    (s.answered (.barrierPoll bar word) = some (req, t) →
      exec (.barrierPollReturn bar word none) s = .next (s.endsQuiet
        ((t.syncFault Code.memoryError (syncObject (.mem req.pasid req.addr)) 0).pasidFault req.pasid Code.memoryError)) ∧
      (t.barrierRun bar = some r → word = some k →
        exec (.barrierPollReturn bar word (some v)) s = .next (s.endsQuiet (t.childSlot r k v.toNat)) ∧
        (v.toNat % 2 ^ 32 ≠ r.gen.toNat ∨ slotClean v.toNat = false → t.childSlot r k v.toNat = t)) ∧
      (t.barrierRun bar = some r → word = none →
        (v.toNat % 2 ^ 32 = r.gen.toNat → r.upWait = true → releaseClean v.toNat = true →
          bit v.toNat 32 = false →
          exec (.barrierPollReturn bar word (some v)) s = .next (s.endsQuiet (t.releaseRun r none))) ∧
        (v.toNat % 2 ^ 32 = r.gen.toNat → r.upWait = true → releaseClean v.toNat = true →
          bit v.toNat 32 = true →
          exec (.barrierPollReturn bar word (some v)) s = .next (s.endsQuiet
            (t.releaseRun r (some (bits v.toNat 34 33, bits v.toNat 54 35))))) ∧
        (v.toNat % 2 ^ 32 ≠ r.gen.toNat ∨ r.upWait = false ∨ releaseClean v.toNat = false →
          exec (.barrierPollReturn bar word (some v)) s = .next (s.endsQuiet t))) ∧
      (t.barrierRun bar = none → word = none →
        exec (.barrierPollReturn bar word (some v)) s = .next (State.close s t))) ∧
    (s.barrierRun bar = some r → r.since + 1000 * r.entry.timeoutUs ≤ s.now →
      let missing := if r.upWait then (3, r.entry.parent.getD 0xFFFF) else s.missingOf r;
      (r.entry.parent = none → exec (.barrierInstanceTimeout bar) s = .next (s.endsQuiet (s.releaseRun r (some missing)))) ∧
      (r.entry.parent ≠ none → exec (.barrierInstanceTimeout bar) s = .next (s.endsQuiet
        ((s.relay r.entry r.entry.upAddr (slotFail r.gen missing)).releaseRun r (some missing))))) ∧
    ((s.releaseRun r fail).barrierRun r.entry.barrier = none ∧
      (r.resealed = false → tget (s.releaseRun r fail).sync.gens r.entry.barrier = some (r.gen + 1)))

/-- Feed's intervals, ramp windows, calibrations, samples, sense periods, trim checks and hints. -/
def Obligations.FeedTimers : Prop :=
  ∀ (s : State) (l : FeedLimits) (reports : List Nat) (group p : Nat) (value : W32) (r : Rail) (x : Part) (h : Hint),
    (∀ i period, s.due i period = true ↔ s.feed.served.getD i 0 < s.now / period) ∧
    (s.due 0 1024 = true →
      (s.primary = true → exec (.feedIntervalClose s.nibReports) s = .next (State.close s
        (((s.serve 0 1024).closeInterval s.reportDue).decideAll false))) ∧
      (s.primary = true → reports ≠ s.nibReports → exec (.feedIntervalClose reports) s = .next s) ∧
      (s.primary = false → exec (.feedIntervalClose reports) s = .next (State.close s (s.serve 0 1024).clearMeters))) ∧
    s.nibReports = (List.range 16).map (fun g => total ((s.groupNibs g).map s.rawOf)) ∧
    (s.live.limits = some l → (s.closeInterval false).feed.window = ((s.metered + l.baseW * wattPj) :: s.feed.window).take l.window) ∧
    (s.due 1 2048 = true → s.live.limits = some l → exec .rampWindowStart s = .next (State.close s (State.decideAll
      { s.serve 1 2048 with feed := { (s.serve 1 2048).feed with rails := s.feed.rails.map fun r => r.newWindow l.rampBudget } } true))) ∧
    (s.due 1 2048 = true → s.live.limits = none → exec .rampWindowStart s = .next (State.close s (s.serve 1 2048))) ∧
    ((0 < r.debt → r.newWindow l.rampBudget = { r with charge := l.rampBudget, debt := r.debt - 1 }) ∧
      (r.debt = 0 → r.newWindow l.rampBudget = { r with charge := 0 })) ∧
    (s.due 2 10000000 = true → ∃ t : State, exec .calibrationTick s = .next (State.close s t) ∧
      (∀ g < 16, ∀ r, s.feed.rails[g]? = some r → t.feed.rails[g]? = some r.calibrate.1) ∧ t.parts = s.parts ∧ t.nibs = s.nibs) ∧
    (r.powerCount = 100 → 0 < r.rawWindow →
      let ratio := (4096 * (r.powerSum * 100000) * 2 + r.rawWindow) / (2 * r.rawWindow)
      r.calibrate.1.corr = min (max ratio 3605) 4587 ∧ r.calibrate.1.powerSum = 0 ∧ r.calibrate.1.rawWindow = 0) ∧
    (r.powerCount ≠ 100 → r.calibrate.1.corr = r.corr) ∧
    (s.feed.rails[group]? = some r →
      (r.powerMw = none → exec (.senseSample 0 group value) s = .next (State.close s (s.modRail group fun r =>
        { r with powerMw := some value.toNat, powerSum := r.powerSum + value.toNat, powerCount := r.powerCount + 1 }))) ∧
      (r.powerMw.isSome = true → exec (.senseSample 0 group value) s = .next (State.close s s)) ∧
      exec (.senseSample 1 group value) s = .next (State.close s (s.modRail group fun r =>
        { r with temp := some (signed 16 value.toNat), lastTemp := signed 16 value.toNat })) ∧
      (s.live.limits = some l → exec (.senseSample 2 group value) s = .next (State.close s (s.modRail group fun r =>
        { r with marginLow := r.marginLow || decide (value.toNat % 65536 < l.marginLow) }))) ∧
      exec (.senseSample 3 group value) s = .next (State.close s (s.modRail group fun r =>
        { r with drooped := r.drooped || decide (0 < value.toNat) })) ∧
      exec (.senseSample 4 group value) s = .next (State.close s { s with feed := { s.feed with flow := some value.toNat } })) ∧
    (s.due 3 100000 = true → s.live.limits = some l → ∃ t : State, exec .senseTick s = .next (State.close s t.stepRails) ∧
      ∀ g < 16, ∀ r, s.feed.rails[g]? = some r → t.feed.rails[g]? = some (r.sensed l s.feed.flow).1) ∧
    (s.due 3 100000 = true → s.live.limits = none → exec .senseTick s = .next (State.close s (s.serve 3 100000))) ∧
    (∀ (flow : Option Nat) (c : Int), r.temp = some c →
      (l.thermalLimit ≤ c → (r.sensed l flow).1.thermalCeil = r.thermalCeil - 1) ∧
      (c < l.thermalLimit → c < l.thermalLimit - l.thermalHyst → (r.sensed l flow).1.thermalCeil = min 15 (r.thermalCeil + 1)) ∧
      (c < l.thermalLimit → ¬c < l.thermalLimit - l.thermalHyst → (r.sensed l flow).1.thermalCeil = r.thermalCeil)) ∧
    (∀ f, (r.sensed l (some f)).1.flowCeil = if f < l.flowMin then l.flowCapLevel else 15) ∧
    (s.due 4 100000000 = true → ∃ t : State, exec .trimCheck s = .next (State.close s t.stepRails) ∧
      ∀ g < 16, ∀ r, s.feed.rails[g]? = some r → t.feed.rails[g]? = some { r with
        marginLow := false, drooped := false
        trimWanted := if (r.marginLow || r.drooped) && s.feed.ctrl.getLsbD 3 && decide (r.trimWanted < 12) then r.trimWanted + 1
          else r.trimWanted }) ∧
    (s.live.limits = some l → tget s.parts p = some x → x.hint = some h → h.ramping = false →
      h.t0 + 1000 * h.leadUs ≤ s.now + 1000 * ((h.level - x.target) * l.stepMinUs) →
      let free : Bool := decide (x.target < h.level) && !(x.over l s.feed.hostLimit.toNat) && s.mayCapStep l x
      (free = true → exec (.hintRampStart p) s = .next (State.close s (((s.noteStep x).modPart p fun y =>
        { y with target := x.target + 1, hint := some { h with ramping := true } }).stepRails))) ∧
      (free = false → exec (.hintRampStart p) s = .next (State.close s ((s.modPart p fun y =>
        { y with target := x.target, hint := some { h with ramping := true } }).stepRails))))

/-- Power steps, wakes of Nibs and cores, Nibs in OFF, and the Hub's DOZE, SLEEP and wake. -/
def Obligations.PowerStates : Prop :=
  ∀ (s : State) (l : FeedLimits) (group level trim nib : Nat) (probes : List Probe) (r : Rail) (b : Nib) (w : WakeEntry)
      (rest : List WakeEntry) (t0 : Nat),
    (s.feed.rails[group]? = some r →
      (r.request.isSome = true → exec (.powerStepAck group level trim) s = .next (State.close s
        ((s.modRail group fun r => { r with level := level, trim := trim, request := none }).stepRail group))) ∧
      (r.request = none → s.primary = false → exec (.powerStepAck group level trim) s = .next (State.close s
        (s.modRail group fun r => { r with level := level, trim := trim }))) ∧
      (r.request = none → s.primary = true → exec (.powerStepAck group level trim) s = .next s) ∧
      (r.request = some (level, trim, t0) → t0 + 100000 ≤ s.now →
        exec (.powerStepRetry group) s = .next (State.close s (s.requestStep group level trim)))) ∧
    (s.nibs[nib]? = some b → s.live.limits = some l → exec (.nclkChange nib level) s = .next (State.close s
      (s.modNib nib fun b => { b with level := level, increment := l.nclkMhz.getD level 0 }))) ∧
    (s.live.limits = some l → s.feed.rails[group]? = some r →
      takeFirst (fun w => s.railOf w.nib == group) s.feed.wakes = some (w, rest) →
      (∀ p, r.lastRelease = some p → p + l.staggerNs ≤ s.now) →
      exec (.wakeRelease group) s = .next (State.close s
        ((State.modRail { s with feed := { s.feed with wakes := rest } } group fun r =>
          { r with lastRelease := some s.now }).modNib w.nib fun b => { b with waking := true }))) ∧
    (s.nibs[nib]? = some b → b.present = true → b.waking = true → s.roundFits (.nib nib) probes = true → s.live.limits = some l →
      s.feed.rails[s.railOf nib]? = some r → exec (.nibWakeDone nib probes) s = .next (State.close s
        ((s.modNib nib fun b => { b with
          power := .idle, waking := false, idleSince := s.now, offset := some (s.parentNow (.nib nib) - s.now)
          alignedAt := some s.now, slew := 0, unaligned := false, cores := b.closedCores, openCores := 0
          level := r.level, increment := l.nclkMhz.getD r.level 0 }).decideAll false)) ∧
      ∀ c ∈ b.closedCores, ∀ e ∈ c, e.opened = false ∧ e.buf = [] ∧ e.out = []) ∧
    (s.nibs[nib]? = some b → b.present = true → b.power ≠ .off → b.openCores < b.ports.length →
      (b.openCores = 0 ∨ s.live.limits = some l ∧ b.openedAt + l.eqOpenNs ≤ s.now) →
      exec (.eqOpen nib) s = .next (State.close s (s.modNib nib fun y => { y with
        openCores := y.openCores + 1, openedAt := s.now
        cores := lmod b.cores b.openCores fun c => c.map fun e => { e with opened := true } }))) ∧
    (s.nibs[nib]? = some b → b.present = true → b.power = .idle → b.tasks = [] → b.down = [] → 0 < s.cfg.nibOffUs.toNat →
      b.idleSince + 1000 * s.cfg.nibOffUs.toNat ≤ s.now →
      exec (.nibIdleToOff nib) s = .next (State.close s (s.modNib nib fun b => { Nib.reset with
        link := b.link, via := b.via, die := b.die, ports := b.ports, firstReport := b.firstReport, level := b.level
        increment := b.increment, lastBusy := b.lastBusy, meter := b.meter, purlMeter := b.purlMeter, up := b.up
        traceBuf := b.traceBuf, traceLoss := b.traceLoss })) ∧
      Nib.reset.power = .off ∧ Nib.reset.cache = [] ∧ Nib.reset.slots = [] ∧ Nib.reset.cores = []) ∧
    (s.power.hub = .active → s.cfg.dozeUs ≠ 0 → s.hubIdle = true →
      s.power.brief = true ∨ s.power.since + 1000 * s.cfg.dozeUs.toNat ≤ s.now →
      exec .hubDozeEntry s = .next (State.close s { s with
        power := { s.power with hub := .doze, since := s.now, brief := false } })) ∧
    (s.cfg.dozeUs = 0 → exec .hubDozeEntry s = .next s) ∧
    (s.power.hub = .doze → s.cfg.sleepUs ≠ 0 → (∀ b ∈ s.nibs, b.present = true → b.power = .off) → s.sync.watches = [] →
      s.power.since + 1000 * s.cfg.sleepUs.toNat ≤ s.now →
      exec .hubSleepEntry s = .next (State.close s { s with power := { s.power with hub := .sleep, since := s.now } })) ∧
    (s.awake = false → s.bells.catcher ≠ [] ∨ s.htp.held ≠ [] ∨ (s.sync.due s.aoNow).isSome = true ∨ s.roundDue = true →
      exec .hubWake s = .next (s.endsQuiet (s.htp.held.foldl State.hostAccess { s with
        power := { s.power with
          hub := .active, since := s.now, brief := s.bells.catcher.isEmpty && s.htp.held.isEmpty }
        htp := { s.htp with held := [] } })))

/-- The mirrored pair: records, acknowledgements, heartbeats, claims, takeover, copies and sweeps. -/
def Obligations.MirrorAndTakeover : Prop :=
  ∀ (s : State) (e : Effect) (record : MirrorRecord) (cause detected sp silentNs : Nat) (released sweepPassed : Bool) (x : Splitter)
      (digest : BitVec 384) (version : W16) (regions : List RegionDigest),
    (s.mir.role = .primaryMirrored →
      s.emit e = { s with mir := { s.mir with held := s.mir.held ++ [⟨s.mir.sent + 1, e⟩] } } ∧
      (s.mir.acked < s.mir.sent →
        exec .mirrorAckReceived s = .next (s.endsQuiet ((s.mir.held.filter fun h => decide (h.after ≤ s.mir.acked + 1)).foldl
          (fun t h => t.release h.what) { s with mir := { s.mir with
            acked := s.mir.acked + 1, partnerOk := true, linkUp := true, waitSince := s.now
            held := s.mir.held.filter fun h => decide (s.mir.acked + 1 < h.after) } })) ∧
        (s.mir.waitSince + 50000 ≤ s.now → ∃ t : State, t.mir.role = .primaryAlone ∧ t.mir.acked = t.mir.sent ∧
          t.mir.partnerOk = false ∧ t.ctxs = s.ctxs ∧
          exec .mirrorAckTimeout s = .next (s.endsQuiet (t.faultDevice 3 Code.mirrorLost unitFm 0)))) ∧
      (s.mir.linkUp = true → s.mir.lastBeat + 5000 ≤ s.now → exec .primaryHeartbeat s =
        .next (State.close s { s with mir := { s.mir with lastBeat := s.now, failoverReq := false } }))) ∧
    (s.mir.role ≠ .primaryMirrored → s.emit e = s.release e) ∧
    (∀ (r : BlotRec) (m : MemReq) (itag : Nat), s.release (.blot r) = { s with flt := s.flt.hold r } ∧
      s.release (.mem m) = s.putMem m ∧
      s.release (.xic itag) = { s with xlat := { s.xlat with done := itag :: s.xlat.done } }) ∧
    (s.mir.role = .syncing ∨ s.mir.role = .following → ∃ t : State,
      exec (.mirrorRecordReceived record) s = .next (State.close s t) ∧ t.ctxs = record.after.ctxs ∧ t.queues = record.after.queues ∧
      t.tasks = record.after.tasks ∧ t.parts = record.after.parts ∧ t.sync = record.after.sync ∧ t.epoch = record.after.epoch ∧
      t.mir.lastBeat = t.now ∧ t.mir.partnerOk = true ∧
      t.mgmt.progs = record.after.firmware.progs ∧ t.mbx.boxes = record.after.firmware.boxes ∧
      (s.mir.role = .following → t.mgmt.image = record.after.firmware.images.image ∧
        t.mgmt.exchange = record.after.firmware.images.exchange ∧ t.mgmt.fwVersion = record.after.firmware.images.version) ∧
      (s.mir.role = .syncing → t.mgmt.fwVersion = s.mgmt.fwVersion) ∧
      (s.bells.held = [] → ∀ d ∈ t.bells.catcher, d ∈ s.bells.catcher ∧ (d.page, d.index, d.tail) ∉ record.took)) ∧
    (s.build.mirrored = true → s.primary = true → s.awake = true → s.splitters[sp]? = some x → x.link = .up → x.heard + 2000 ≤ s.now →
      ∃ t : State, exec .primaryConfirm s = .next (State.close s t) ∧ ∃ y, t.splitters[sp]? = some y ∧ y.heard = s.now) ∧
    (s.build.mirrored = true → exec .mirrorLinkDown s =
      .next (State.close s { s with mir := { s.mir with linkUp := false, partnerOk := false } })) ∧
    (s.mir.role = .following →
      (s.mir.lastBeat + 50000 ≤ s.now →
        exec .heartbeatTimeout s = .next (State.close s (s.claimSplitters 1 s.mir.lastBeat))) ∧
      (2 ≤ cause → cause ≤ 4 →
        exec (.failoverReqReceived cause detected) s = .next (State.close s (s.claimSplitters cause detected))) ∧
      (s.claimSplitters cause detected).mir.role = .claiming ∧ (s.claimSplitters cause detected).mir.cause = cause ∧
      (s.claimSplitters cause detected).mir.asked = s.presentSplitters) ∧
    (s.mir.role = .claiming →
      (s.mir.asked.contains sp = true →
        (released = true ∨ 20000 ≤ silentNs →
          exec (.splitterTakeoverRequest sp silentNs released) s = .next (State.close s
            (State.modSplitter { s with mir := { s.mir with
              asked := s.mir.asked.filter (· != sp), granted := sp :: s.mir.granted } } sp fun x =>
              { x with primaryPeer := false, released := false }))) ∧
        (released = false → silentNs < 20000 →
          exec (.splitterTakeoverRequest sp silentNs released) s = .next (State.close s { s with mir := { s.mir with
            asked := s.mir.asked.filter (· != sp), refused := sp :: s.mir.refused } })) ∧
        (s.mir.claimedAt + 10000 ≤ s.now → (∀ b ∈ s.nibs, b.via ≠ sp) →
          exec (.splitterGrantTimeout sp) s = .next (State.close s
            (State.modSplitter { s with mir := { s.mir with asked := s.mir.asked.filter (· != sp) } } sp fun x =>
              { x with link := .absent, down := [], up := [] })))) ∧
      (s.mir.refused.contains sp = true → exec (.takeoverRefused sp) s =
        .next (State.close s ((s.mirrorRecord .claiming .detached).setRole .detached))) ∧
      (s.mir.asked = [] → s.mir.refused = [] →
        let t := (State.takenOver { s with mir := { s.mir with
          role := .primaryAlone, failovers := sat32 s.mir.failovers 1, lastFailover := BitVec.ofNat 64 s.now
          interruptNs := BitVec.ofNat 32 (min (s.now - s.mir.lastBeat) 0xFFFFFFFF), failoverSource := true
          granted := [], held := [], acked := s.mir.sent } }).mirrorRecord .claiming .primaryAlone
        exec .takeover s = .next (s.endsQuiet (if s.mir.cause = 4 then t.recovered 4 0 Code.ok else t)))) ∧
    (s.mir.role = .yielded → exec .partnerTakeoverSeen s = .next (State.close s { s with
      splitters := s.splitters.map fun x => { x with primaryPeer := true, released := false }
      mir := { s.mir with role := .detached, failoverReq := false } })) ∧
    (s.cpb.state = .running →
      let same := digest = s.cpb.patchDigest ∧ version = s.mgmt.fwVersion;
      (s.mir.role = .syncing → ¬same → exec (.bulkCopyDone digest version sweepPassed) s = .next (State.close s
        (State.mirrorRecord { s with mir := { s.mir with mismatch := true } } .syncing .syncing))) ∧
      (s.mir.role = .syncing → same → ∃ t : State, exec (.bulkCopyDone digest version true) s = .next (State.close s t) ∧
        t.mir.role = .following ∧ t.mir.mismatch = false ∧ t.mir.lastBeat = s.now) ∧
      (s.mir.role = .primaryAlone → s.build.mirrored = true →
        (¬same → exec (.bulkCopyDone digest version sweepPassed) s = .next (State.close s (s.followerRecord .syncing .syncing))) ∧
        (same → let t := s.followerRecord .syncing .following;
          exec (.bulkCopyDone digest version true) s = .next (State.close s { t with mir := { t.mir with
            role := .primaryMirrored, linkUp := true, partnerOk := true, acked := t.mir.sent, lastBeat := t.now } })))) ∧
    (s.mir.role = .following → s.mir.lastSweep + 10000000 ≤ s.now → ∃ t : State,
      exec (.divergenceSweep regions) s = .next (State.close s t) ∧ t.mir.lastSweep = s.now ∧
      t.mir.benign = sat32 s.mir.benign (regions.filter RegionDigest.benign).length ∧ t.mir.role = .following)

/-- Device faults, the watchdog, the coolant halt, microcode, and the recoveries. -/
def Obligations.FaultsAndRecovery : Prop :=
  ∀ (s : State) (detail id q nib die d sel space address : Nat) (cores : List (List EqPort)) (cause : McodeCause)
      (upset : BitVec 192) (p : Prog) (x : Queue) (slot : Nat) (c : Ctx) (b : Nib) (m : Dme) (a : McodeAddr) (stack : List McodeAddr),
    (exec (.deviceFault 2 detail) s = .next (State.close s (s.faultDevice 2 Code.sramUncorrectable unitFm detail)) ∧
      exec (.deviceFault 4 detail) s = .next (State.close s (s.faultDevice 4 Code.inkwellEcc unitMc detail))) ∧
    (∀ bitNo code unit, (s.faultDevice bitNo code unit detail).flt.device = s.flt.device ||| BitVec.ofNat 32 (2 ^ bitNo)) ∧
    (s.cpb.state = .running → exec .mcWatchdog s = .next (State.close s (State.faultDevice { s with
        mbx := { s.mbx with boxes := s.mbx.boxes.map Mailbox.watchdog }
        mgmt := { s.mgmt with adminStopped := true, progs := [] } } 1 Code.mcWatchdog unitMc 0)) ∧
      ∀ z ∈ s.mbx.boxes, z.busy = true → z.forced = false →
        z.watchdog = { z with state := .done, result := Code.mcWatchdog, respLen := 0 }) ∧
    (s.feed.halt = false →
      let t := ((({ s with
        power := { s.power with hub := .active, since := s.now, brief := false }
        feed := { s.feed with halt := true }
        cfg := { s.cfg with state := .halted, check := none } } : State).withholdAll (some reasonCoolant)).latchAll fun m =>
          { m with freeze := true }).blotFeed Code.coolantFault 8 0 0
      (s.primary = true → exec .coolantFault s = .next (s.endsQuiet (t.abortAll Code.coolantFault))) ∧
      (s.primary = false → exec .coolantFault s = .next (State.close s t))) ∧
    (s.awake = true → s.power.hclk = true → s.dmes[d]? = some m → m.stopped = false →
      exec (.microcodeFault d cause space address) s =
        .next (State.close s (s.stopDme d cause ⟨space % 2, address % 2 ^ 15⟩)) ∧
      (∀ n, (s.stopDme d cause a).dmes[d]? = some n → n.stopped = true) ∧
      (s.cpb.mcodeFault.getLsbD 31 = true → (s.stopDme d cause a).cpb.mcodeFault = s.cpb.mcodeFault) ∧
      let w := s.cpb.content m.next
      let t := s.countEcc upset;
      (t = if bitsSet upset = 1 then { s with cpb := { s.cpb with eccCorrected := sat32 s.cpb.eccCorrected 1 } } else s) ∧
      (2 ≤ bitsSet upset → exec (.dmeEventService d upset sel) s = .next (State.close s (s.stopDme d .ecc m.next))) ∧
      (∀ k, bitsSet upset < 2 → m.form w sel = .error k →
        exec (.dmeEventService d upset sel) s = .next (State.close s (t.stopDme d k m.next))) ∧
      (m.form w sel = .ok (a, stack) →
        (bitsSet upset < 2 → exec (.dmeEventService d upset sel) s = .next (State.close s (t.dmeWord d m w m.next a stack))) ∧
        (wordSafe w = true → m.freeze = true → (m.inHandler = false ∨ wordResumes w = true) → ∃ n,
          (s.dmeWord d m w m.next a stack).dmes[d]? = some n ∧ n.freeze = false ∧ n.kill = m.kill ∧ n.stopCount = m.stopCount ∧
          n.wake = m.wake ∧ n.resume = a ∧ n.inHandler = true ∧ n.next = s.cpb.fetchFrom ⟨0, 0⟩ ∧ n.stack = stack ∧ n.sinceSafe = 0) ∧
        (wordSafe w = true → m.latched = false → ∃ n, (s.dmeWord d m w m.next a stack).dmes[d]? = some n ∧
          n.next = s.cpb.fetchFrom a ∧ n.stack = stack ∧ n.sinceSafe = 0))) ∧
    (s.mayCommit id 0x0901 s.recoverChecks p →
      (p.arg 0x20 = 1 → p.arg 0x24 = q → tget s.queues q = some x → s.ctxOf x.handle = some (slot, c) → c.state = .active →
        exec (.recoverQueueReset id) s = .next (s.endsQuiet
          ((s.modQueue q fun x => { x with resetting := true }).answer p Code.pending 0 []))) ∧
      (p.arg 0x20 = 2 →
        let t := (s.nibLost (p.arg 0x24) 5).modNib (p.arg 0x24) fun b => { b with trainFrom := s.now + 10000 }
        exec (.recoverNibReinit id) s = .next (s.endsQuiet (State.answer
          { t with mgmt := { t.mgmt with recoveries := t.mgmt.recoveries ++ [(2, p.arg 0x24)] } } p Code.pending 0 []))) ∧
      (p.arg 0x20 = 3 → exec (.recoverWarmReset id) s = .next (s.answersOk
        { s with mgmt := { s.mgmt with warmReset := true } } p [])) ∧
      (p.arg 0x20 = 4 → s.mir.role ≠ .primaryMirrored →
        exec (.recoverFailover id) s = .next (s.ends (s.answer p Code.notReady 0 []))) ∧
      (p.arg 0x20 = 4 → s.mir.role = .primaryMirrored →
        exec (.recoverFailover id) s = .next (State.close s (s.handOver p)) ∧ (s.handOver p).mir.role = .yielded ∧
        (s.handOver p).mir.cause = 4 ∧ (s.handOver p).mir.held = [])) ∧
    (s.firmware = true → tget s.queues q = some x → x.resetting = true →
      s.ctxOf x.handle = some (slot, c) → c.state = .active →
      let t := s.modQueue q fun x => { x with resetting := false };
      (x.faulted = true → (∀ u ∈ x.subs, u.retired.isSome = true) → exec (.queueResetDone q) s = .next (s.ends ((t.resetQueue q x).recovered 1 q Code.ok)) ∧
        (x.enabled = false → t.resetQueue q x = t.modQueue q fun x => { x with faulted := false, error := none })) ∧
      (x.faulted = false → exec (.queueResetDone q) s = .next (s.ends (t.recovered 1 q Code.ok)))) ∧
    (s.firmware = true → s.nibs[nib]? = some b → s.mgmt.recoveries.contains (2, nib) = true →
      let t : State := { s with mgmt := { s.mgmt with recoveries := s.mgmt.recoveries.erase (2, nib) } }
      let inTime := b.trainFrom ≤ s.now ∧ s.now ≤ b.trainFrom + 600000
      (inTime → b.firstReport = some (die, portsOf cores) → exec (.nibReinitDone nib true die cores) s = .next (State.close s
        ((t.modNib nib fun b => { Nib.reset with
          link := .up, via := s.home nib b.via, die := die, ports := portsOf cores, firstReport := b.firstReport
          testMode := b.testMode }).recovered 2 nib Code.ok)) ∧
        Nib.reset.power = .off) ∧
      (inTime → b.firstReport ≠ some (die, portsOf cores) → exec (.nibReinitDone nib true die cores) s =
        .next (State.close s (t.recovered 2 nib Code.nibLost))) ∧
      (b.trainFrom + 600000 ≤ s.now →
        exec (.nibReinitDone nib false die cores) s = .next (State.close s (t.recovered 2 nib Code.nibLost))) ∧
      (s.now < b.trainFrom → exec (.nibReinitDone nib true die cores) s = .next s))
end

