-- ==== Sys2Proof/Laws/Henpen.lean ====
section
/-! SUPPORT. Laws of the Henpen commands: what a row comes to once the command may commit, or fails. -/

namespace Sys2Proof.Machine

open Sys2Proof

variable {s t : State} {id code : Nat} {checks : Prog → List Check} {commit : Prog → Commit} {p : Prog}

/-- A command that may commit does what its commit says (R112). -/
theorem henpen_mayCommit (h : s.mayCommit id code checks p) : s.henpen id code checks commit =
    match commit p with
    | .fail st detail => .next (s.ends (s.answer p st detail []))
    | .ok t results => .next (s.answersOk t p results)
    | .pending t => .next (s.endsQuiet (t.answer p Code.pending 0 []))
    | .later t => .next (s.endsQuiet (t.modProg id fun p => { p with pendingAnswer := true }))
    | .again t => .next (State.close s t)
    | .wait => .next s := by
  obtain ⟨h1, h2, h3, h4, h5, h6, h7, h8⟩ := h
  have hb : ¬(takesBulk p.command = true ∧ ¬p.full = true) := fun c => c.2 (h8 c.1)
  simp only [State.henpen, h1, h2, h3, h4, h5, h6, h7, true_and, if_true, Bool.false_eq_true, not_false_eq_true]
  rw [h3] at hb
  rw [if_neg hb]
  cases commit p <;> rfl

theorem henpen_ok {results : List Byte} (h : s.mayCommit id code checks p) (hc : commit p = .ok t results) :
    s.henpen id code checks commit = .next (s.answersOk t p results) := by rw [henpen_mayCommit h, hc]

theorem henpen_fail {st : W16} {detail : Nat} (h : s.mayCommit id code checks p) (hc : commit p = .fail st detail) :
    s.henpen id code checks commit = .next (s.ends (s.answer p st detail [])) := by rw [henpen_mayCommit h, hc]

theorem henpen_pending (h : s.mayCommit id code checks p) (hc : commit p = .pending t) :
    s.henpen id code checks commit = .next (s.endsQuiet (t.answer p Code.pending 0 [])) := by rw [henpen_mayCommit h, hc]

theorem henpen_later (h : s.mayCommit id code checks p) (hc : commit p = .later t) :
    s.henpen id code checks commit =
      .next (s.endsQuiet (t.modProg id fun p => { p with pendingAnswer := true })) := by rw [henpen_mayCommit h, hc]

end Sys2Proof.Machine
end

