-- ==== Sys2Proof/Laws/Host.lean ====
section
/-! SUPPORT. Laws of the Host Target Port: what a 32-bit access of the commands comes to. -/

namespace Sys2Proof.Machine

open Sys2Proof

theorem leNat_leBytes (n x : Nat) : leNat (leBytes n x) = x % 256 ^ n := by
  induction n generalizing x with
  | zero => simp [leBytes, leNat, Nat.mod_one]
  | succ n ih =>
    simp only [leBytes, leNat, ih, BitVec.toNat_ofNat]
    rw [show 256 ^ (n + 1) = 256 * 256 ^ n from Nat.pow_succ', Nat.mod_mul]

theorem leBytes_length (n x : Nat) : (leBytes n x).length = n := by
  induction n generalizing x with
  | zero => rfl
  | succ n ih => simp [leBytes, ih]

theorem leBytes_eq_map (n x : Nat) : leBytes n x = (List.range n).map fun i => BitVec.ofNat 8 (x / 2 ^ (8 * i)) := by
  induction n generalizing x with
  | zero => rfl
  | succ n ih =>
    rw [leBytes, ih, List.range_succ_eq_map]
    simp only [List.map_cons, List.map_map, Nat.mul_zero, Nat.pow_zero, Nat.div_one, List.cons.injEq, true_and]
    apply List.map_congr_left
    intro i _
    simp only [Function.comp]
    rw [Nat.div_div_eq_div_mul, show (256 : Nat) = 2 ^ 8 by rfl, ← Nat.pow_add, Nat.mul_succ, Nat.add_comm]

/-- The bytes of a value driven in the lanes of its offset are the bytes of the value (R498). -/
theorem bytes_inLanes (agent off size n : Nat) (w : Bool) (v : Nat) (h : off % 64 + n ≤ 64) (hv : v < 2 ^ (8 * n)) :
    (HtpAccess.mk agent w off size (inLanes off (leBytes n v))).bytes n = leBytes n v := by
  rw [leBytes_eq_map n v]
  simp only [HtpAccess.bytes]
  apply List.map_congr_left
  intro i hi
  have hi : i < n := List.mem_range.mp hi
  have e : (off + i) % 64 = off % 64 + i := by omega
  rw [e]
  have hb : leNat (List.map (fun i => BitVec.ofNat 8 (v / 2 ^ (8 * i))) (List.range n)) = v := by
    rw [← leBytes_eq_map, leNat_leBytes, show (256 : Nat) = 2 ^ 8 by rfl, ← Nat.pow_mul, Nat.mod_eq_of_lt hv]
  simp only [inLanes, hb, BitVec.toNat_ofNat]
  have lt : v * 2 ^ (8 * (off % 64)) < 2 ^ 512 := by
    calc v * 2 ^ (8 * (off % 64)) < 2 ^ (8 * n) * 2 ^ (8 * (off % 64)) :=
          Nat.mul_lt_mul_of_pos_right hv (Nat.two_pow_pos _)
      _ = 2 ^ (8 * n + 8 * (off % 64)) := (Nat.pow_add ..).symm
      _ ≤ 2 ^ 512 := Nat.pow_le_pow_right (by decide) (by omega)
  rw [Nat.mod_eq_of_lt lt, Nat.mul_add, Nat.pow_add, ← Nat.div_div_eq_div_mul,
    Nat.mul_div_cancel _ (Nat.two_pow_pos _)]

/-- A 32-bit write access carries its value (R498). -/
theorem write4_bytes (agent off : Nat) (v : W32) (h : off % 64 ≤ 60) :
    leNat ((write4 agent off v).bytes 4) = v.toNat := by
  rw [write4, bytes_inLanes _ _ _ _ _ _ (by omega) (by simpa using v.isLt), leNat_leBytes]
  exact Nat.mod_eq_of_lt v.isLt

/-- A 32-bit write of an assigned register of width 32, served by a primary, is `write32` (R15, R67). -/
theorem serveAccess_write4 (s : State) (agent off : Nat) (v : W32) (hp : s.primary = true) (h64 : s.reg64 off = none)
    (h64' : s.reg64 (off - 4) = none) (ha : off % 4 = 0) (hw : assignedWord off = true) (ho : off < 0xA0000)
    (hd : off < 0x11000 ∨ 0x12000 ≤ off) : s.serveAccess (write4 agent off v) = s.write32 agent off v.toNat := by
  have a0 : assignedByte off = true := by
    simp only [assignedByte, ho, if_true]; rwa [show off / 4 * 4 = off by omega]
  have acc : accepted off 4 = true := by
    simp only [accepted, ha]
    rcases hd with hd | hd <;> simp <;> omega
  have b := write4_bytes agent off v (by omega)
  have hv : v.toNat % 2 ^ 32 = v.toNat := Nat.mod_eq_of_lt v.isLt
  have c1 : ¬(69632 ≤ off ∧ off < 73728) := by omega
  have c2 : off < 1048576 := by omega
  unfold State.serveAccess
  simp only [write4, accessBytes] at *
  rw [if_neg (by simp [List.range_succ, a0])]
  simp only [acc, hp, not_true_eq_false, if_false, if_true]
  simp only [State.serveWrite, c1, c2, b, if_false, if_true, State.writeRegs, hv, State.write32Staged, h64, h64']

/-- The same through the port (R70, R71, R443). -/
theorem hostAccess_write4 (s : State) (agent off : Nat) (v : W32) (hr : s.ductus.refOk = true)
    (ht : s.power.testMode = false) (hk : s.awake = true) (hp : s.primary = true) (h64 : s.reg64 off = none)
    (h64' : s.reg64 (off - 4) = none) (ha : off % 4 = 0) (hw : assignedWord off = true) (ho : off < 0xA0000)
    (hd : off < 0x11000 ∨ 0x12000 ≤ off) : s.hostAccess (write4 agent off v) = s.write32 agent off v.toNat := by
  rw [← serveAccess_write4 s agent off v hp h64 h64' ha hw ho hd]
  simp [State.hostAccess, hr, ht, hk]

end Sys2Proof.Machine
end

