-- ==== Sys2Proof/Laws/Memory.lean ====
section
/-! SUPPORT. Laws of the addressed RAMs (Inkwell and the mailbox buffers): the canonical form is kept, and a byte written
reads back while every other byte keeps its value. -/

namespace Sys2Proof.Machine

open Sys2Proof

/-- The canonical form in one step: the head is not zero and lies below every later address. -/
theorem Memory.wf_cons (k : Nat) (v : Byte) (r : Memory) :
    Memory.wf ((k, v) :: r) = true ↔ v ≠ 0 ∧ (∀ c, r.head? = some c → k < c.1) ∧ Memory.wf r = true := by
  cases r with
  | nil => simp [Memory.wf]
  | cons c r => simp [Memory.wf, and_assoc]

/-- Writing a byte keeps every address at or above what it was. -/
theorem Memory.put_head (m : Memory) (a k : Nat) (b : Byte) (hm : ∀ c, m.head? = some c → k < c.1) (ha : k < a)
    (hw : Memory.wf m = true) : ∀ c, (Memory.put m a b).head? = some c → k < c.1 := by
  cases m with
  | nil =>
    intro c h
    simp only [Memory.put] at h
    split at h <;> simp_all
    subst h; exact ha
  | cons e r =>
    obtain ⟨x, v⟩ := e
    have hx : k < x := hm (x, v) rfl
    intro c h
    simp only [Memory.put] at h
    split at h
    · split at h
      · simp at h; subst h; exact hx
      · simp at h; subst h; exact ha
    · split at h
      · split at h
        · have := ((Memory.wf_cons x v r).1 hw).2.1 c h
          omega
        · simp at h; subst h; exact ha
      · simp at h; subst h; exact hx

/-- A write of one byte keeps the canonical form. -/
theorem Memory.put_wf (m : Memory) (a : Nat) (b : Byte) (h : Memory.wf m = true) : Memory.wf (Memory.put m a b) = true := by
  induction m with
  | nil =>
    simp only [Memory.put]
    split <;> simp_all [Memory.wf]
  | cons e r ih =>
    obtain ⟨x, v⟩ := e
    obtain ⟨hv, hh, hr⟩ := (Memory.wf_cons x v r).1 h
    simp only [Memory.put]
    split
    · split
      · exact h
      · next hb => exact (Memory.wf_cons _ _ _).2 ⟨hb, by intro c hc; simp at hc; subst hc; assumption, h⟩
    · split
      · next hk =>
        subst hk
        split
        · exact hr
        · next hb => exact (Memory.wf_cons _ _ _).2 ⟨hb, hh, hr⟩
      · exact (Memory.wf_cons _ _ _).2 ⟨hv, Memory.put_head r a x b hh (by omega) hr, ih hr⟩

/-- A write of bytes keeps the canonical form. -/
theorem Memory.write_wf (m : Memory) (a : Nat) (l : List Byte) (h : Memory.wf m = true) :
    Memory.wf (Memory.write m a l) = true := by
  induction l generalizing m a with
  | nil => exact h
  | cons b r ih => exact ih _ _ (Memory.put_wf m a b h)

/-- A byte below every listed address reads 0. -/
theorem Memory.byte_below (m : Memory) (a : Nat) (hm : ∀ c, m.head? = some c → a < c.1) (hw : Memory.wf m = true) :
    Memory.byte m a = 0 := by
  induction m with
  | nil => rfl
  | cons e r ih =>
    obtain ⟨x, v⟩ := e
    have hx : a < x := hm (x, v) rfl
    obtain ⟨-, hh, hr⟩ := (Memory.wf_cons x v r).1 hw
    have : x ≠ a := by omega
    simp only [Memory.byte, if_neg this]
    exact ih (fun c hc => by have := hh c hc; omega) hr

/-- A byte written reads back. -/
theorem Memory.byte_put_self (m : Memory) (a : Nat) (b : Byte) (hw : Memory.wf m = true) :
    Memory.byte (Memory.put m a b) a = b := by
  induction m with
  | nil =>
    simp only [Memory.put]
    split <;> simp_all [Memory.byte]
  | cons e r ih =>
    obtain ⟨x, v⟩ := e
    obtain ⟨-, hh, hr⟩ := (Memory.wf_cons x v r).1 hw
    simp only [Memory.put]
    split
    · next hlt =>
      split
      · next hb =>
        subst hb
        exact Memory.byte_below _ a (by intro c hc; simp at hc; subst hc; exact hlt) hw
      · simp [Memory.byte]
    · split
      · next hk =>
        subst hk
        split
        · next hb => subst hb; exact Memory.byte_below r x hh hr
        · simp [Memory.byte]
      · next hne => simp only [Memory.byte, if_neg hne]; exact ih hr

/-- Every other byte keeps its value. -/
theorem Memory.byte_put_of_ne (m : Memory) {a c : Nat} (b : Byte) (h : c ≠ a) (hw : Memory.wf m = true) :
    Memory.byte (Memory.put m a b) c = Memory.byte m c := by
  induction m with
  | nil =>
    simp only [Memory.put]
    split <;> simp [Memory.byte, Ne.symm h]
  | cons e r ih =>
    obtain ⟨x, v⟩ := e
    obtain ⟨-, hh, hr⟩ := (Memory.wf_cons x v r).1 hw
    simp only [Memory.put]
    split
    · split
      · rfl
      · simp [Memory.byte, Ne.symm h]
    · split
      · next hk =>
        subst hk
        split <;> simp [Memory.byte, Ne.symm h]
      · simp only [Memory.byte, ih hr]

/-- Bytes outside a write keep their values. -/
theorem Memory.byte_write_outside (m : Memory) (a : Nat) (l : List Byte) (c : Nat) (h : c < a ∨ a + l.length ≤ c)
    (hw : Memory.wf m = true) : Memory.byte (Memory.write m a l) c = Memory.byte m c := by
  induction l generalizing m a with
  | nil => rfl
  | cons b r ih =>
    simp only [List.length_cons] at h
    simp only [Memory.write]
    rw [ih _ _ (by omega) (Memory.put_wf m a b hw), Memory.byte_put_of_ne m b (by omega) hw]

/-- Bytes written read back. -/
theorem Memory.byte_write_inside (m : Memory) (a : Nat) (l : List Byte) (i : Nat) (hi : i < l.length)
    (hw : Memory.wf m = true) : Memory.byte (Memory.write m a l) (a + i) = l[i] := by
  induction l generalizing m a i with
  | nil => simp at hi
  | cons b r ih =>
    simp only [Memory.write]
    cases i with
    | zero =>
      rw [Memory.byte_write_outside _ _ _ _ (by omega) (Memory.put_wf m a b hw)]
      exact Memory.byte_put_self m a b hw
    | succ i =>
      have := ih (Memory.put m a b) (a + 1) i (by simpa using hi) (Memory.put_wf m a b hw)
      rw [show a + (i + 1) = a + 1 + i by omega, this]
      rfl

/-- Reading back what was written. -/
theorem Memory.read_write (m : Memory) (a : Nat) (l : List Byte) (hw : Memory.wf m = true) :
    Memory.read (Memory.write m a l) a l.length = l := by
  suffices h : ∀ (l : List Byte) (a : Nat) (n : Memory), (∀ i (hi : i < l.length), Memory.byte n (a + i) = l[i]) →
      Memory.read n a l.length = l from h l a _ fun i hi => Memory.byte_write_inside m a l i hi hw
  intro l
  induction l with
  | nil => intros; rfl
  | cons b r ih =>
    intro a n hn
    simp only [List.length_cons, Memory.read, List.cons.injEq]
    refine ⟨hn 0 (Nat.succ_pos _), ih (a + 1) n fun i hi => ?_⟩
    have := hn (i + 1) (by simpa using hi)
    rw [show a + 1 + i = a + (i + 1) by omega, this]
    rfl

/-- The RAMs of a block after a device reset are in canonical form. -/
theorem Memory.reset_wf (b : Build) :
    Memory.wf (State.resetOf b).mbx.data = true ∧ Memory.wf (State.resetOf b).mbx.ink = true := ⟨rfl, rfl⟩

end Sys2Proof.Machine
end

