-- ==== Sys2Proof/Laws/Ops.lean ====
section
/-! SUPPORT. What the shared operations can do: records, the end of a command, messages down Yarn, effects that leave the
Hub, and Blotter records. Each field they cannot change has its lemma. -/

namespace Sys2Proof.Machine

open Sys2Proof

variable (s : State)

/-! ## Records change the trace alone -/

theorem State.recordAs_eq (unit typ stamp payload : Nat) (debug ao : Bool) :
    ∃ tr : Trace, s.recordAs unit typ stamp payload debug ao = { s with trace := tr } := by
  unfold State.recordAs State.recordWhen
  split
  · exact ⟨_, rfl⟩
  · exact ⟨s.trace, rfl⟩

@[simp] theorem State.recordAs_pending (unit typ stamp payload : Nat) (debug ao : Bool) :
    (s.recordAs unit typ stamp payload debug ao).pending = s.pending := by obtain ⟨_, h⟩ := s.recordAs_eq unit typ stamp payload debug ao; rw [h]
@[simp] theorem State.recordAs_build (unit typ stamp payload : Nat) (debug ao : Bool) :
    (s.recordAs unit typ stamp payload debug ao).build = s.build := by obtain ⟨_, h⟩ := s.recordAs_eq unit typ stamp payload debug ao; rw [h]
@[simp] theorem State.recordAs_ductus (unit typ stamp payload : Nat) (debug ao : Bool) :
    (s.recordAs unit typ stamp payload debug ao).ductus = s.ductus := by obtain ⟨_, h⟩ := s.recordAs_eq unit typ stamp payload debug ao; rw [h]
@[simp] theorem State.recordAs_htp (unit typ stamp payload : Nat) (debug ao : Bool) :
    (s.recordAs unit typ stamp payload debug ao).htp = s.htp := by obtain ⟨_, h⟩ := s.recordAs_eq unit typ stamp payload debug ao; rw [h]
@[simp] theorem State.recordAs_bells (unit typ stamp payload : Nat) (debug ao : Bool) :
    (s.recordAs unit typ stamp payload debug ao).bells = s.bells := by obtain ⟨_, h⟩ := s.recordAs_eq unit typ stamp payload debug ao; rw [h]
@[simp] theorem State.recordAs_mbx (unit typ stamp payload : Nat) (debug ao : Bool) :
    (s.recordAs unit typ stamp payload debug ao).mbx = s.mbx := by obtain ⟨_, h⟩ := s.recordAs_eq unit typ stamp payload debug ao; rw [h]
@[simp] theorem State.recordAs_iga (unit typ stamp payload : Nat) (debug ao : Bool) :
    (s.recordAs unit typ stamp payload debug ao).iga = s.iga := by obtain ⟨_, h⟩ := s.recordAs_eq unit typ stamp payload debug ao; rw [h]
@[simp] theorem State.recordAs_cfg (unit typ stamp payload : Nat) (debug ao : Bool) :
    (s.recordAs unit typ stamp payload debug ao).cfg = s.cfg := by obtain ⟨_, h⟩ := s.recordAs_eq unit typ stamp payload debug ao; rw [h]
@[simp] theorem State.recordAs_live (unit typ stamp payload : Nat) (debug ao : Bool) :
    (s.recordAs unit typ stamp payload debug ao).live = s.live := by obtain ⟨_, h⟩ := s.recordAs_eq unit typ stamp payload debug ao; rw [h]
@[simp] theorem State.recordAs_cpb (unit typ stamp payload : Nat) (debug ao : Bool) :
    (s.recordAs unit typ stamp payload debug ao).cpb = s.cpb := by obtain ⟨_, h⟩ := s.recordAs_eq unit typ stamp payload debug ao; rw [h]
@[simp] theorem State.recordAs_mgmt (unit typ stamp payload : Nat) (debug ao : Bool) :
    (s.recordAs unit typ stamp payload debug ao).mgmt = s.mgmt := by obtain ⟨_, h⟩ := s.recordAs_eq unit typ stamp payload debug ao; rw [h]
@[simp] theorem State.recordAs_dmes (unit typ stamp payload : Nat) (debug ao : Bool) :
    (s.recordAs unit typ stamp payload debug ao).dmes = s.dmes := by obtain ⟨_, h⟩ := s.recordAs_eq unit typ stamp payload debug ao; rw [h]
@[simp] theorem State.recordAs_ctxs (unit typ stamp payload : Nat) (debug ao : Bool) :
    (s.recordAs unit typ stamp payload debug ao).ctxs = s.ctxs := by obtain ⟨_, h⟩ := s.recordAs_eq unit typ stamp payload debug ao; rw [h]
@[simp] theorem State.recordAs_parts (unit typ stamp payload : Nat) (debug ao : Bool) :
    (s.recordAs unit typ stamp payload debug ao).parts = s.parts := by obtain ⟨_, h⟩ := s.recordAs_eq unit typ stamp payload debug ao; rw [h]
@[simp] theorem State.recordAs_queues (unit typ stamp payload : Nat) (debug ao : Bool) :
    (s.recordAs unit typ stamp payload debug ao).queues = s.queues := by obtain ⟨_, h⟩ := s.recordAs_eq unit typ stamp payload debug ao; rw [h]
@[simp] theorem State.recordAs_qe (unit typ stamp payload : Nat) (debug ao : Bool) :
    (s.recordAs unit typ stamp payload debug ao).qe = s.qe := by obtain ⟨_, h⟩ := s.recordAs_eq unit typ stamp payload debug ao; rw [h]
@[simp] theorem State.recordAs_tasks (unit typ stamp payload : Nat) (debug ao : Bool) :
    (s.recordAs unit typ stamp payload debug ao).tasks = s.tasks := by obtain ⟨_, h⟩ := s.recordAs_eq unit typ stamp payload debug ao; rw [h]
@[simp] theorem State.recordAs_epoch (unit typ stamp payload : Nat) (debug ao : Bool) :
    (s.recordAs unit typ stamp payload debug ao).epoch = s.epoch := by obtain ⟨_, h⟩ := s.recordAs_eq unit typ stamp payload debug ao; rw [h]
@[simp] theorem State.recordAs_parseNo (unit typ stamp payload : Nat) (debug ao : Bool) :
    (s.recordAs unit typ stamp payload debug ao).parseNo = s.parseNo := by obtain ⟨_, h⟩ := s.recordAs_eq unit typ stamp payload debug ao; rw [h]
@[simp] theorem State.recordAs_sync (unit typ stamp payload : Nat) (debug ao : Bool) :
    (s.recordAs unit typ stamp payload debug ao).sync = s.sync := by obtain ⟨_, h⟩ := s.recordAs_eq unit typ stamp payload debug ao; rw [h]
@[simp] theorem State.recordAs_dbg (unit typ stamp payload : Nat) (debug ao : Bool) :
    (s.recordAs unit typ stamp payload debug ao).dbg = s.dbg := by obtain ⟨_, h⟩ := s.recordAs_eq unit typ stamp payload debug ao; rw [h]
@[simp] theorem State.recordAs_splitters (unit typ stamp payload : Nat) (debug ao : Bool) :
    (s.recordAs unit typ stamp payload debug ao).splitters = s.splitters := by obtain ⟨_, h⟩ := s.recordAs_eq unit typ stamp payload debug ao; rw [h]
@[simp] theorem State.recordAs_nibs (unit typ stamp payload : Nat) (debug ao : Bool) :
    (s.recordAs unit typ stamp payload debug ao).nibs = s.nibs := by obtain ⟨_, h⟩ := s.recordAs_eq unit typ stamp payload debug ao; rw [h]
@[simp] theorem State.recordAs_xlat (unit typ stamp payload : Nat) (debug ao : Bool) :
    (s.recordAs unit typ stamp payload debug ao).xlat = s.xlat := by obtain ⟨_, h⟩ := s.recordAs_eq unit typ stamp payload debug ao; rw [h]
@[simp] theorem State.recordAs_mip (unit typ stamp payload : Nat) (debug ao : Bool) :
    (s.recordAs unit typ stamp payload debug ao).mip = s.mip := by obtain ⟨_, h⟩ := s.recordAs_eq unit typ stamp payload debug ao; rw [h]
@[simp] theorem State.recordAs_feed (unit typ stamp payload : Nat) (debug ao : Bool) :
    (s.recordAs unit typ stamp payload debug ao).feed = s.feed := by obtain ⟨_, h⟩ := s.recordAs_eq unit typ stamp payload debug ao; rw [h]
@[simp] theorem State.recordAs_flt (unit typ stamp payload : Nat) (debug ao : Bool) :
    (s.recordAs unit typ stamp payload debug ao).flt = s.flt := by obtain ⟨_, h⟩ := s.recordAs_eq unit typ stamp payload debug ao; rw [h]
@[simp] theorem State.recordAs_mir (unit typ stamp payload : Nat) (debug ao : Bool) :
    (s.recordAs unit typ stamp payload debug ao).mir = s.mir := by obtain ⟨_, h⟩ := s.recordAs_eq unit typ stamp payload debug ao; rw [h]
@[simp] theorem State.recordAs_power (unit typ stamp payload : Nat) (debug ao : Bool) :
    (s.recordAs unit typ stamp payload debug ao).power = s.power := by obtain ⟨_, h⟩ := s.recordAs_eq unit typ stamp payload debug ao; rw [h]

/-! ## Messages down Yarn change splitters, Nibs, records on their way and the mirror log -/

theorem State.recordSplitter_eq (sp typ payload : Nat) :
    ∃ tr : Trace, s.recordSplitter sp typ payload = { s with trace := tr } := by
  unfold State.recordSplitter
  split
  · exact ⟨s.trace, rfl⟩
  · split
    · exact ⟨_, rfl⟩
    · exact ⟨s.trace, rfl⟩

theorem State.foldl_modNib_eq (g : State → Nat → Nib → Nib) (l : List Nat) (s : State) :
    ∃ nibs, l.foldl (fun t n => t.modNib n (g t n)) s = { s with nibs := nibs } := by
  induction l generalizing s with
  | nil => exact ⟨s.nibs, rfl⟩
  | cons a r ih =>
    obtain ⟨n, h⟩ := ih (s.modNib a (g s a))
    exact ⟨n, by rw [List.foldl_cons, h]; rfl⟩

theorem State.passDownN_eq (fuel : Nat) (s : State) (sp : Nat) :
    ∃ spl nibs tr, State.passDownN fuel s sp = { s with splitters := spl, nibs := nibs, trace := tr } := by
  induction fuel generalizing s with
  | zero => exact ⟨s.splitters, s.nibs, s.trace, rfl⟩
  | succ fuel ih =>
    simp only [State.passDownN]
    split
    · split
      · exact ⟨s.splitters, s.nibs, s.trace, rfl⟩
      · obtain ⟨a, b, c, h⟩ := ih _
        rw [h]
        obtain ⟨n, hn⟩ := State.foldl_modNib_eq (fun _ _ b => if b.link = .up then { b with down := b.down ++ [_] } else b) _ _
        rw [hn]
        split
        · obtain ⟨tr, ht⟩ := State.recordSplitter_eq (s.modSplitter sp _) sp 0x09 _
          exact ⟨a, b, c, by rw [ht]; rfl⟩
        · exact ⟨a, b, c, rfl⟩
    · exact ⟨s.splitters, s.nibs, s.trace, rfl⟩

theorem State.passDown_eq (sp : Nat) :
    ∃ spl nibs tr, s.passDown sp = { s with splitters := spl, nibs := nibs, trace := tr } := by
  unfold State.passDown
  split
  · exact State.passDownN_eq _ s sp
  · exact ⟨s.splitters, s.nibs, s.trace, rfl⟩

theorem State.sendDown_eq (sp : Nat) (m : DownMsg) :
    ∃ spl nibs tr mir, s.sendDown sp m = { s with splitters := spl, nibs := nibs, trace := tr, mir := mir } := by
  unfold State.sendDown
  simp only
  split
  all_goals
    obtain ⟨a, b, c, h⟩ := State.passDown_eq (State.modSplitter _ sp _) sp
    rw [h]
    exact ⟨a, b, c, _, rfl⟩

/-! ## Effects that leave the Hub -/

theorem State.postResponse_eq (n command : Nat) (status : W16) (bytes : List Byte) :
    ∃ tr mbx, s.postResponse n command status bytes = { s with trace := tr, mbx := mbx } := by
  unfold State.postResponse
  split
  · exact ⟨s.trace, s.mbx, rfl⟩
  · split
    · obtain ⟨tr, h⟩ := s.recordAs_eq unitMc 0x0E s.aoNow (n + 16 * command + 2 ^ 20 * status.toNat + 2 ^ 36) false (!s.awake)
      simp only [State.record, h]
      split
      · exact ⟨tr, _, rfl⟩
      · exact ⟨tr, _, rfl⟩
    · exact ⟨s.trace, s.mbx, rfl⟩

/-- A request at a Memory Initiator Port, and the translations it asks for. -/
theorem State.putMem_eq (r : MemReq) : ∃ mip xlat, s.putMem r = { s with mip := mip, xlat := xlat } := by
  unfold State.putMem
  exact ⟨_, _, rfl⟩

/-- Everything an effect that leaves the Hub can change. -/
theorem State.release_eq (e : Effect) : ∃ spl nibs tr mir mbx mip flt xlat iga, s.release e =
    { s with splitters := spl, nibs := nibs, trace := tr, mir := mir, mbx := mbx, mip := mip, flt := flt, xlat := xlat
             iga := iga } := by
  cases e with
  | down sp m =>
    obtain ⟨a, b, c, d, h⟩ := s.sendDown_eq sp m
    exact ⟨a, b, c, d, s.mbx, s.mip, s.flt, s.xlat, s.iga, h⟩
  | mem r =>
    obtain ⟨a, b, h⟩ := s.putMem_eq r
    exact ⟨s.splitters, s.nibs, s.trace, s.mir, s.mbx, a, s.flt, b, s.iga, h⟩
  | respond n command st bytes =>
    obtain ⟨a, b, h⟩ := s.postResponse_eq n command st bytes
    exact ⟨s.splitters, s.nibs, a, s.mir, b, s.mip, s.flt, s.xlat, s.iga, h⟩
  | blot r => exact ⟨s.splitters, s.nibs, s.trace, s.mir, s.mbx, s.mip, _, s.xlat, s.iga, rfl⟩
  | stamp u ty pl =>
    obtain ⟨a, h⟩ := s.recordAs_eq u ty s.aoNow pl false (!s.awake)
    exact ⟨s.splitters, s.nibs, a, s.mir, s.mbx, s.mip, s.flt, s.xlat, s.iga, h⟩
  | xic i => exact ⟨s.splitters, s.nibs, s.trace, s.mir, s.mbx, s.mip, s.flt, _, s.iga, rfl⟩
  | levels l => exact ⟨s.splitters, s.nibs, s.trace, s.mir, s.mbx, s.mip, s.flt, s.xlat, _, rfl⟩

/-- An effect in every role but a mirrored primary's leaves at once. -/
theorem State.emit_release {e : Effect} (h : s.mir.role ≠ .primaryMirrored) : s.emit e = s.release e := if_neg h

/-- Everything an effect can change on its way out. -/
theorem State.emit_eq (e : Effect) : ∃ spl nibs tr mir mbx mip flt xlat iga, s.emit e =
    { s with splitters := spl, nibs := nibs, trace := tr, mir := mir, mbx := mbx, mip := mip, flt := flt, xlat := xlat
             iga := iga } := by
  unfold State.emit
  split
  · exact ⟨s.splitters, s.nibs, s.trace, _, s.mbx, s.mip, s.flt, s.xlat, s.iga, rfl⟩
  · exact s.release_eq e

@[simp] theorem State.emit_pending (e : Effect) : (s.emit e).pending = s.pending := by
  obtain ⟨_, _, _, _, _, _, _, _, _, h⟩ := s.emit_eq e; rw [h]
@[simp] theorem State.emit_build (e : Effect) : (s.emit e).build = s.build := by
  obtain ⟨_, _, _, _, _, _, _, _, _, h⟩ := s.emit_eq e; rw [h]
@[simp] theorem State.emit_ductus (e : Effect) : (s.emit e).ductus = s.ductus := by
  obtain ⟨_, _, _, _, _, _, _, _, _, h⟩ := s.emit_eq e; rw [h]
@[simp] theorem State.emit_htp (e : Effect) : (s.emit e).htp = s.htp := by
  obtain ⟨_, _, _, _, _, _, _, _, _, h⟩ := s.emit_eq e; rw [h]
@[simp] theorem State.emit_bells (e : Effect) : (s.emit e).bells = s.bells := by
  obtain ⟨_, _, _, _, _, _, _, _, _, h⟩ := s.emit_eq e; rw [h]
@[simp] theorem State.emit_cfg (e : Effect) : (s.emit e).cfg = s.cfg := by
  obtain ⟨_, _, _, _, _, _, _, _, _, h⟩ := s.emit_eq e; rw [h]
@[simp] theorem State.emit_live (e : Effect) : (s.emit e).live = s.live := by
  obtain ⟨_, _, _, _, _, _, _, _, _, h⟩ := s.emit_eq e; rw [h]
@[simp] theorem State.emit_cpb (e : Effect) : (s.emit e).cpb = s.cpb := by
  obtain ⟨_, _, _, _, _, _, _, _, _, h⟩ := s.emit_eq e; rw [h]
@[simp] theorem State.emit_mgmt (e : Effect) : (s.emit e).mgmt = s.mgmt := by
  obtain ⟨_, _, _, _, _, _, _, _, _, h⟩ := s.emit_eq e; rw [h]
@[simp] theorem State.emit_dmes (e : Effect) : (s.emit e).dmes = s.dmes := by
  obtain ⟨_, _, _, _, _, _, _, _, _, h⟩ := s.emit_eq e; rw [h]
@[simp] theorem State.emit_ctxs (e : Effect) : (s.emit e).ctxs = s.ctxs := by
  obtain ⟨_, _, _, _, _, _, _, _, _, h⟩ := s.emit_eq e; rw [h]
@[simp] theorem State.emit_parts (e : Effect) : (s.emit e).parts = s.parts := by
  obtain ⟨_, _, _, _, _, _, _, _, _, h⟩ := s.emit_eq e; rw [h]
@[simp] theorem State.emit_queues (e : Effect) : (s.emit e).queues = s.queues := by
  obtain ⟨_, _, _, _, _, _, _, _, _, h⟩ := s.emit_eq e; rw [h]
@[simp] theorem State.emit_qe (e : Effect) : (s.emit e).qe = s.qe := by
  obtain ⟨_, _, _, _, _, _, _, _, _, h⟩ := s.emit_eq e; rw [h]
@[simp] theorem State.emit_tasks (e : Effect) : (s.emit e).tasks = s.tasks := by
  obtain ⟨_, _, _, _, _, _, _, _, _, h⟩ := s.emit_eq e; rw [h]
@[simp] theorem State.emit_epoch (e : Effect) : (s.emit e).epoch = s.epoch := by
  obtain ⟨_, _, _, _, _, _, _, _, _, h⟩ := s.emit_eq e; rw [h]
@[simp] theorem State.emit_parseNo (e : Effect) : (s.emit e).parseNo = s.parseNo := by
  obtain ⟨_, _, _, _, _, _, _, _, _, h⟩ := s.emit_eq e; rw [h]
@[simp] theorem State.emit_sync (e : Effect) : (s.emit e).sync = s.sync := by
  obtain ⟨_, _, _, _, _, _, _, _, _, h⟩ := s.emit_eq e; rw [h]
@[simp] theorem State.emit_dbg (e : Effect) : (s.emit e).dbg = s.dbg := by
  obtain ⟨_, _, _, _, _, _, _, _, _, h⟩ := s.emit_eq e; rw [h]
@[simp] theorem State.emit_feed (e : Effect) : (s.emit e).feed = s.feed := by
  obtain ⟨_, _, _, _, _, _, _, _, _, h⟩ := s.emit_eq e; rw [h]
@[simp] theorem State.emit_power (e : Effect) : (s.emit e).power = s.power := by
  obtain ⟨_, _, _, _, _, _, _, _, _, h⟩ := s.emit_eq e; rw [h]

/-- Everything a Blotter record can change. -/
theorem State.blot_eq (code : W16) (kind unit object : Nat) : ∃ spl nibs tr mir mbx mip flt xlat iga, s.blot code kind unit object =
    { s with splitters := spl, nibs := nibs, trace := tr, mir := mir, mbx := mbx, mip := mip, flt := flt, xlat := xlat
             iga := iga } := by
  unfold State.blot
  simp only
  split
  · obtain ⟨a, b, c, d, e, f, g, h, i, hh⟩ := State.emit_eq { s with flt := { s.flt with seq := s.flt.seq + 1 } } (.blot _)
    exact ⟨a, b, c, d, e, f, g, h, i, by rw [hh]⟩
  · exact ⟨s.splitters, s.nibs, s.trace, s.mir, s.mbx, s.mip, _, s.xlat, s.iga, rfl⟩

@[simp] theorem State.blot_pending (code : W16) (kind unit object : Nat) : (s.blot code kind unit object).pending = s.pending := by
  obtain ⟨_, _, _, _, _, _, _, _, _, h⟩ := s.blot_eq code kind unit object; rw [h]
@[simp] theorem State.blot_build (code : W16) (kind unit object : Nat) : (s.blot code kind unit object).build = s.build := by
  obtain ⟨_, _, _, _, _, _, _, _, _, h⟩ := s.blot_eq code kind unit object; rw [h]
@[simp] theorem State.blot_ductus (code : W16) (kind unit object : Nat) : (s.blot code kind unit object).ductus = s.ductus := by
  obtain ⟨_, _, _, _, _, _, _, _, _, h⟩ := s.blot_eq code kind unit object; rw [h]
@[simp] theorem State.blot_htp (code : W16) (kind unit object : Nat) : (s.blot code kind unit object).htp = s.htp := by
  obtain ⟨_, _, _, _, _, _, _, _, _, h⟩ := s.blot_eq code kind unit object; rw [h]
@[simp] theorem State.blot_bells (code : W16) (kind unit object : Nat) : (s.blot code kind unit object).bells = s.bells := by
  obtain ⟨_, _, _, _, _, _, _, _, _, h⟩ := s.blot_eq code kind unit object; rw [h]
@[simp] theorem State.blot_cfg (code : W16) (kind unit object : Nat) : (s.blot code kind unit object).cfg = s.cfg := by
  obtain ⟨_, _, _, _, _, _, _, _, _, h⟩ := s.blot_eq code kind unit object; rw [h]
@[simp] theorem State.blot_live (code : W16) (kind unit object : Nat) : (s.blot code kind unit object).live = s.live := by
  obtain ⟨_, _, _, _, _, _, _, _, _, h⟩ := s.blot_eq code kind unit object; rw [h]
@[simp] theorem State.blot_cpb (code : W16) (kind unit object : Nat) : (s.blot code kind unit object).cpb = s.cpb := by
  obtain ⟨_, _, _, _, _, _, _, _, _, h⟩ := s.blot_eq code kind unit object; rw [h]
@[simp] theorem State.blot_mgmt (code : W16) (kind unit object : Nat) : (s.blot code kind unit object).mgmt = s.mgmt := by
  obtain ⟨_, _, _, _, _, _, _, _, _, h⟩ := s.blot_eq code kind unit object; rw [h]
@[simp] theorem State.blot_dmes (code : W16) (kind unit object : Nat) : (s.blot code kind unit object).dmes = s.dmes := by
  obtain ⟨_, _, _, _, _, _, _, _, _, h⟩ := s.blot_eq code kind unit object; rw [h]
@[simp] theorem State.blot_ctxs (code : W16) (kind unit object : Nat) : (s.blot code kind unit object).ctxs = s.ctxs := by
  obtain ⟨_, _, _, _, _, _, _, _, _, h⟩ := s.blot_eq code kind unit object; rw [h]
@[simp] theorem State.blot_parts (code : W16) (kind unit object : Nat) : (s.blot code kind unit object).parts = s.parts := by
  obtain ⟨_, _, _, _, _, _, _, _, _, h⟩ := s.blot_eq code kind unit object; rw [h]
@[simp] theorem State.blot_queues (code : W16) (kind unit object : Nat) : (s.blot code kind unit object).queues = s.queues := by
  obtain ⟨_, _, _, _, _, _, _, _, _, h⟩ := s.blot_eq code kind unit object; rw [h]
@[simp] theorem State.blot_qe (code : W16) (kind unit object : Nat) : (s.blot code kind unit object).qe = s.qe := by
  obtain ⟨_, _, _, _, _, _, _, _, _, h⟩ := s.blot_eq code kind unit object; rw [h]
@[simp] theorem State.blot_tasks (code : W16) (kind unit object : Nat) : (s.blot code kind unit object).tasks = s.tasks := by
  obtain ⟨_, _, _, _, _, _, _, _, _, h⟩ := s.blot_eq code kind unit object; rw [h]
@[simp] theorem State.blot_epoch (code : W16) (kind unit object : Nat) : (s.blot code kind unit object).epoch = s.epoch := by
  obtain ⟨_, _, _, _, _, _, _, _, _, h⟩ := s.blot_eq code kind unit object; rw [h]
@[simp] theorem State.blot_parseNo (code : W16) (kind unit object : Nat) : (s.blot code kind unit object).parseNo = s.parseNo := by
  obtain ⟨_, _, _, _, _, _, _, _, _, h⟩ := s.blot_eq code kind unit object; rw [h]
@[simp] theorem State.blot_sync (code : W16) (kind unit object : Nat) : (s.blot code kind unit object).sync = s.sync := by
  obtain ⟨_, _, _, _, _, _, _, _, _, h⟩ := s.blot_eq code kind unit object; rw [h]
@[simp] theorem State.blot_dbg (code : W16) (kind unit object : Nat) : (s.blot code kind unit object).dbg = s.dbg := by
  obtain ⟨_, _, _, _, _, _, _, _, _, h⟩ := s.blot_eq code kind unit object; rw [h]
@[simp] theorem State.blot_feed (code : W16) (kind unit object : Nat) : (s.blot code kind unit object).feed = s.feed := by
  obtain ⟨_, _, _, _, _, _, _, _, _, h⟩ := s.blot_eq code kind unit object; rw [h]
@[simp] theorem State.blot_power (code : W16) (kind unit object : Nat) : (s.blot code kind unit object).power = s.power := by
  obtain ⟨_, _, _, _, _, _, _, _, _, h⟩ := s.blot_eq code kind unit object; rw [h]

/-! ## The end of a command -/

theorem State.noteMask_eq : ∃ tr feed, s.noteMask = { s with trace := tr, feed := feed } := by
  unfold State.noteMask
  simp only
  split
  · exact ⟨s.trace, s.feed, rfl⟩
  · obtain ⟨tr, h⟩ := s.recordAs_eq unitFeed 0x0C s.aoNow (s.deviceMask + 256 * s.feed.mask) false (!s.awake)
    refine ⟨tr, { s.feed with mask := s.deviceMask }, ?_⟩
    simp only [State.record]
    rw [h]

theorem State.noteLevels_eq : ∃ iga mir, s.noteLevels = { s with iga := iga, mir := mir } := by
  unfold State.noteLevels
  simp only
  by_cases h : s.highSources = if s.mir.role = .primaryMirrored then s.lastLevels else s.iga.levels
  · exact ⟨s.iga, s.mir, by rw [if_pos h]⟩
  · rw [if_neg h]
    unfold State.emit
    split
    · exact ⟨s.iga, _, rfl⟩
    · exact ⟨_, s.mir, rfl⟩

theorem State.noteMirror_eq (b : State) : ∃ mir, State.noteMirror b s = { s with mir := mir } := by
  unfold State.noteMirror
  split
  · exact ⟨_, rfl⟩
  · exact ⟨s.mir, rfl⟩

/-- Everything the end of a command can change. -/
theorem State.close_eq (b : State) : ∃ tr feed iga mir power, State.close b s =
    { s with trace := tr, feed := feed, iga := iga, mir := mir, power := power } := by
  unfold State.close State.noteIdle
  obtain ⟨tr, feed, h1⟩ := s.noteMask_eq
  obtain ⟨iga, mir, h2⟩ := s.noteMask.noteLevels_eq
  obtain ⟨mir', h3⟩ := State.noteMirror_eq { s.noteMask.noteLevels with power := { s.noteMask.noteLevels.power with
    since := if !s.noteMask.noteLevels.awake || s.noteMask.noteLevels.hubIdle then s.noteMask.noteLevels.power.since
      else s.noteMask.noteLevels.now } } b
  rw [h3, h2, h1]
  exact ⟨tr, feed, iga, mir', _, rfl⟩

@[simp] theorem State.close_pending (b : State) : (State.close b s).pending = s.pending := by
  obtain ⟨_, _, _, _, _, h⟩ := s.close_eq b; rw [h]
@[simp] theorem State.close_build (b : State) : (State.close b s).build = s.build := by
  obtain ⟨_, _, _, _, _, h⟩ := s.close_eq b; rw [h]
@[simp] theorem State.close_ductus (b : State) : (State.close b s).ductus = s.ductus := by
  obtain ⟨_, _, _, _, _, h⟩ := s.close_eq b; rw [h]
@[simp] theorem State.close_htp (b : State) : (State.close b s).htp = s.htp := by
  obtain ⟨_, _, _, _, _, h⟩ := s.close_eq b; rw [h]
@[simp] theorem State.close_bells (b : State) : (State.close b s).bells = s.bells := by
  obtain ⟨_, _, _, _, _, h⟩ := s.close_eq b; rw [h]
@[simp] theorem State.close_mbx (b : State) : (State.close b s).mbx = s.mbx := by
  obtain ⟨_, _, _, _, _, h⟩ := s.close_eq b; rw [h]
@[simp] theorem State.close_cfg (b : State) : (State.close b s).cfg = s.cfg := by
  obtain ⟨_, _, _, _, _, h⟩ := s.close_eq b; rw [h]
@[simp] theorem State.close_live (b : State) : (State.close b s).live = s.live := by
  obtain ⟨_, _, _, _, _, h⟩ := s.close_eq b; rw [h]
@[simp] theorem State.close_cpb (b : State) : (State.close b s).cpb = s.cpb := by
  obtain ⟨_, _, _, _, _, h⟩ := s.close_eq b; rw [h]
@[simp] theorem State.close_mgmt (b : State) : (State.close b s).mgmt = s.mgmt := by
  obtain ⟨_, _, _, _, _, h⟩ := s.close_eq b; rw [h]
@[simp] theorem State.close_dmes (b : State) : (State.close b s).dmes = s.dmes := by
  obtain ⟨_, _, _, _, _, h⟩ := s.close_eq b; rw [h]
@[simp] theorem State.close_ctxs (b : State) : (State.close b s).ctxs = s.ctxs := by
  obtain ⟨_, _, _, _, _, h⟩ := s.close_eq b; rw [h]
@[simp] theorem State.close_parts (b : State) : (State.close b s).parts = s.parts := by
  obtain ⟨_, _, _, _, _, h⟩ := s.close_eq b; rw [h]
@[simp] theorem State.close_queues (b : State) : (State.close b s).queues = s.queues := by
  obtain ⟨_, _, _, _, _, h⟩ := s.close_eq b; rw [h]
@[simp] theorem State.close_qe (b : State) : (State.close b s).qe = s.qe := by
  obtain ⟨_, _, _, _, _, h⟩ := s.close_eq b; rw [h]
@[simp] theorem State.close_tasks (b : State) : (State.close b s).tasks = s.tasks := by
  obtain ⟨_, _, _, _, _, h⟩ := s.close_eq b; rw [h]
@[simp] theorem State.close_epoch (b : State) : (State.close b s).epoch = s.epoch := by
  obtain ⟨_, _, _, _, _, h⟩ := s.close_eq b; rw [h]
@[simp] theorem State.close_parseNo (b : State) : (State.close b s).parseNo = s.parseNo := by
  obtain ⟨_, _, _, _, _, h⟩ := s.close_eq b; rw [h]
@[simp] theorem State.close_sync (b : State) : (State.close b s).sync = s.sync := by
  obtain ⟨_, _, _, _, _, h⟩ := s.close_eq b; rw [h]
@[simp] theorem State.close_dbg (b : State) : (State.close b s).dbg = s.dbg := by
  obtain ⟨_, _, _, _, _, h⟩ := s.close_eq b; rw [h]
@[simp] theorem State.close_splitters (b : State) : (State.close b s).splitters = s.splitters := by
  obtain ⟨_, _, _, _, _, h⟩ := s.close_eq b; rw [h]
@[simp] theorem State.close_nibs (b : State) : (State.close b s).nibs = s.nibs := by
  obtain ⟨_, _, _, _, _, h⟩ := s.close_eq b; rw [h]
@[simp] theorem State.close_xlat (b : State) : (State.close b s).xlat = s.xlat := by
  obtain ⟨_, _, _, _, _, h⟩ := s.close_eq b; rw [h]
@[simp] theorem State.close_mip (b : State) : (State.close b s).mip = s.mip := by
  obtain ⟨_, _, _, _, _, h⟩ := s.close_eq b; rw [h]
@[simp] theorem State.close_flt (b : State) : (State.close b s).flt = s.flt := by
  obtain ⟨_, _, _, _, _, h⟩ := s.close_eq b; rw [h]

end Sys2Proof.Machine
end

