-- ==== Sys2Proof/Laws/PerInstr.lean ====
section
/-! SUPPORT. Statements about every command, one lemma for each: no word of the table spells it (log 22). -/

namespace Sys2Proof.Laws

open Sys2Proof

/-- No word of the opcode table spells the command. -/
def NoWord.Statement (i : Instr) : Prop := ∀ nbits w : Nat, decodeTableWord nbits w ≠ some i

/-- No word spells any command: the decoder answers none (the table gives no row bits). -/
theorem NoWord.all (i : Instr) : NoWord.Statement i := fun _ _ h => nomatch h

theorem NoWord.deviceReset : NoWord.Statement (.deviceReset) := NoWord.all _
theorem NoWord.hubReset : NoWord.Statement (.hubReset) := NoWord.all _
theorem NoWord.splitterReset : ∀ a0, NoWord.Statement (.splitterReset a0) := fun _ => NoWord.all _
theorem NoWord.nibReset : ∀ a0 a1 a2, NoWord.Statement (.nibReset a0 a1 a2) := fun _ _ _ => NoWord.all _
theorem NoWord.refclkOk : NoWord.Statement (.refclkOk) := NoWord.all _
theorem NoWord.epochPEdge : NoWord.Statement (.epochPEdge) := NoWord.all _
theorem NoWord.epochMissed : NoWord.Statement (.epochMissed) := NoWord.all _
theorem NoWord.coolantFault : NoWord.Statement (.coolantFault) := NoWord.all _
theorem NoWord.ylinkDown : ∀ a0, NoWord.Statement (.ylinkDown a0) := fun _ => NoWord.all _
theorem NoWord.testMode : ∀ a0 a1, NoWord.Statement (.testMode a0 a1) := fun _ _ => NoWord.all _
theorem NoWord.keyDelivery : ∀ a0 a1, NoWord.Statement (.keyDelivery a0 a1) := fun _ _ => NoWord.all _
theorem NoWord.dNowReport : ∀ a0, NoWord.Statement (.dNowReport a0) := fun _ => NoWord.all _
theorem NoWord.powerStepAck : ∀ a0 a1 a2, NoWord.Statement (.powerStepAck a0 a1 a2) := fun _ _ _ => NoWord.all _
theorem NoWord.powerStepRetry : ∀ a0, NoWord.Statement (.powerStepRetry a0) := fun _ => NoWord.all _
theorem NoWord.senseSample : ∀ a0 a1 a2, NoWord.Statement (.senseSample a0 a1 a2) := fun _ _ _ => NoWord.all _
theorem NoWord.senseTick : NoWord.Statement (.senseTick) := NoWord.all _
theorem NoWord.mirrorLinkDown : NoWord.Statement (.mirrorLinkDown) := NoWord.all _
theorem NoWord.nclkChange : ∀ a0 a1, NoWord.Statement (.nclkChange a0 a1) := fun _ _ => NoWord.all _
theorem NoWord.controlRegisterWrite : ∀ a0 a1 a2 a3, NoWord.Statement (.controlRegisterWrite a0 a1 a2 a3) := fun _ _ _ _ => NoWord.all _
theorem NoWord.htpRefusedAccess : ∀ a0 a1 a2 a3 a4, NoWord.Statement (.htpRefusedAccess a0 a1 a2 a3 a4) := fun _ _ _ _ _ => NoWord.all _
theorem NoWord.lowHalfRead : ∀ a0 a1, NoWord.Statement (.lowHalfRead a0 a1) := fun _ _ => NoWord.all _
theorem NoWord.ducTimeLoRead : ∀ a0, NoWord.Statement (.ducTimeLoRead a0) := fun _ => NoWord.all _
theorem NoWord.readClearRegister : ∀ a0 a1, NoWord.Statement (.readClearRegister a0 a1) := fun _ _ => NoWord.all _
theorem NoWord.doorbellWrite : ∀ a0 a1 a2, NoWord.Statement (.doorbellWrite a0 a1 a2) := fun _ _ _ => NoWord.all _
theorem NoWord.mbxAcquire : ∀ a0 a1 a2, NoWord.Statement (.mbxAcquire a0 a1 a2) := fun _ _ _ => NoWord.all _
theorem NoWord.mbxRelease : ∀ a0 a1 a2, NoWord.Statement (.mbxRelease a0 a1 a2) := fun _ _ _ => NoWord.all _
theorem NoWord.mbxDoorbell : ∀ a0 a1 a2, NoWord.Statement (.mbxDoorbell a0 a1 a2) := fun _ _ _ => NoWord.all _
theorem NoWord.mbxAck : ∀ a0 a1 a2, NoWord.Statement (.mbxAck a0 a1 a2) := fun _ _ _ => NoWord.all _
theorem NoWord.mbxForceFree : ∀ a0 a1, NoWord.Statement (.mbxForceFree a0 a1) := fun _ _ => NoWord.all _
theorem NoWord.mbxInkWrite : ∀ a0 a1 a2, NoWord.Statement (.mbxInkWrite a0 a1 a2) := fun _ _ _ => NoWord.all _
theorem NoWord.mbxDataWrite : ∀ a0 a1 a2 a3, NoWord.Statement (.mbxDataWrite a0 a1 a2 a3) := fun _ _ _ _ => NoWord.all _
theorem NoWord.inkwellHostWrite : ∀ a0 a1 a2 a3, NoWord.Statement (.inkwellHostWrite a0 a1 a2 a3) := fun _ _ _ _ => NoWord.all _
theorem NoWord.inkwellSlotConsume : ∀ a0 a1, NoWord.Statement (.inkwellSlotConsume a0 a1) := fun _ _ => NoWord.all _
theorem NoWord.inkwellSlotToHost : ∀ a0 a1, NoWord.Statement (.inkwellSlotToHost a0 a1) := fun _ _ => NoWord.all _
theorem NoWord.inkTimeout : ∀ a0, NoWord.Statement (.inkTimeout a0) := fun _ => NoWord.all _
theorem NoWord.synWindowWrite : ∀ a0 a1 a2, NoWord.Statement (.synWindowWrite a0 a1 a2) := fun _ _ _ => NoWord.all _
theorem NoWord.ducArmWrite : ∀ a0 a1, NoWord.Statement (.ducArmWrite a0 a1) := fun _ _ => NoWord.all _
theorem NoWord.ducTraceEnable : ∀ a0 a1, NoWord.Statement (.ducTraceEnable a0 a1) := fun _ _ => NoWord.all _
theorem NoWord.ducTraceDisable : ∀ a0 a1, NoWord.Statement (.ducTraceDisable a0 a1) := fun _ _ => NoWord.all _
theorem NoWord.traceFlushDone : NoWord.Statement (.traceFlushDone) := NoWord.all _
theorem NoWord.timeSyncRecord : NoWord.Statement (.timeSyncRecord) := NoWord.all _
theorem NoWord.traceRecordArrival : ∀ a0, NoWord.Statement (.traceRecordArrival a0) := fun _ => NoWord.all _
theorem NoWord.traceWriteVisible : NoWord.Statement (.traceWriteVisible) := NoWord.all _
theorem NoWord.alignmentRound : ∀ a0 a1, NoWord.Statement (.alignmentRound a0 a1) := fun _ _ => NoWord.all _
theorem NoWord.alignOffsetReceived : ∀ a0, NoWord.Statement (.alignOffsetReceived a0) := fun _ => NoWord.all _
theorem NoWord.cfgSealWrite : ∀ a0 a1, NoWord.Statement (.cfgSealWrite a0 a1) := fun _ _ => NoWord.all _
theorem NoWord.sealCheckDone : NoWord.Statement (.sealCheckDone) := NoWord.all _
theorem NoWord.cfgLaunchEnWrite : ∀ a0 a1, NoWord.Statement (.cfgLaunchEnWrite a0 a1) := fun _ _ => NoWord.all _
theorem NoWord.cpbStart : ∀ a0 a1, NoWord.Statement (.cpbStart a0 a1) := fun _ _ => NoWord.all _
theorem NoWord.bootCheckDone : NoWord.Statement (.bootCheckDone) := NoWord.all _
theorem NoWord.fltResetWrite : ∀ a0 a1, NoWord.Statement (.fltResetWrite a0 a1) := fun _ _ => NoWord.all _
theorem NoWord.warmReset : NoWord.Statement (.warmReset) := NoWord.all _
theorem NoWord.mirFailoverAck : ∀ a0 a1, NoWord.Statement (.mirFailoverAck a0 a1) := fun _ _ => NoWord.all _
theorem NoWord.mirRejoin : ∀ a0 a1, NoWord.Statement (.mirRejoin a0 a1) := fun _ _ => NoWord.all _
theorem NoWord.mirHubReset : ∀ a0 a1, NoWord.Statement (.mirHubReset a0 a1) := fun _ _ => NoWord.all _
theorem NoWord.dbgStopArm : ∀ a0 a1 a2, NoWord.Statement (.dbgStopArm a0 a1 a2) := fun _ _ _ => NoWord.all _
theorem NoWord.dbgResume : ∀ a0 a1, NoWord.Statement (.dbgResume a0 a1) := fun _ _ => NoWord.all _
theorem NoWord.stopCountReached : ∀ a0, NoWord.Statement (.stopCountReached a0) := fun _ => NoWord.all _
theorem NoWord.dbgSyncGo : ∀ a0 a1, NoWord.Statement (.dbgSyncGo a0 a1) := fun _ _ => NoWord.all _
theorem NoWord.dbgNfCountRead : ∀ a0, NoWord.Statement (.dbgNfCountRead a0) := fun _ => NoWord.all _
theorem NoWord.dbgSyncFaultCountRead : ∀ a0, NoWord.Statement (.dbgSyncFaultCountRead a0) := fun _ => NoWord.all _
theorem NoWord.igaClaim : ∀ a0 a1, NoWord.Statement (.igaClaim a0 a1) := fun _ _ => NoWord.all _
theorem NoWord.igaComplete : ∀ a0 a1 a2, NoWord.Statement (.igaComplete a0 a1 a2) := fun _ _ _ => NoWord.all _
theorem NoWord.igaSwSet : ∀ a0 a1, NoWord.Statement (.igaSwSet a0 a1) := fun _ _ => NoWord.all _
theorem NoWord.igaSwClr : ∀ a0 a1, NoWord.Statement (.igaSwClr a0 a1) := fun _ _ => NoWord.all _
theorem NoWord.feedQeSelWrite : ∀ a0 a1, NoWord.Statement (.feedQeSelWrite a0 a1) := fun _ _ => NoWord.all _
theorem NoWord.queueEnergyReady : NoWord.Statement (.queueEnergyReady) := NoWord.all _
theorem NoWord.feedTrimWrite : ∀ a0 a1 a2, NoWord.Statement (.feedTrimWrite a0 a1 a2) := fun _ _ _ => NoWord.all _
theorem NoWord.managementCoreTake : ∀ a0 a1, NoWord.Statement (.managementCoreTake a0 a1) := fun _ _ => NoWord.all _
theorem NoWord.bootHello : ∀ a0, NoWord.Statement (.bootHello a0) := fun _ => NoWord.all _
theorem NoWord.adminQueueSetup : ∀ a0, NoWord.Statement (.adminQueueSetup a0) := fun _ => NoWord.all _
theorem NoWord.cfgLoadTable : ∀ a0, NoWord.Statement (.cfgLoadTable a0) := fun _ => NoWord.all _
theorem NoWord.cfgQuery : ∀ a0, NoWord.Statement (.cfgQuery a0) := fun _ => NoWord.all _
theorem NoWord.ctxCastOn : ∀ a0, NoWord.Statement (.ctxCastOn a0) := fun _ => NoWord.all _
theorem NoWord.ctxBindOff : ∀ a0, NoWord.Statement (.ctxBindOff a0) := fun _ => NoWord.all _
theorem NoWord.ctxQuery : ∀ a0, NoWord.Statement (.ctxQuery a0) := fun _ => NoWord.all _
theorem NoWord.eventAlloc : ∀ a0, NoWord.Statement (.eventAlloc a0) := fun _ => NoWord.all _
theorem NoWord.eventFree : ∀ a0, NoWord.Statement (.eventFree a0) := fun _ => NoWord.all _
theorem NoWord.queueCreate : ∀ a0, NoWord.Statement (.queueCreate a0) := fun _ => NoWord.all _
theorem NoWord.queueDisable : ∀ a0, NoWord.Statement (.queueDisable a0) := fun _ => NoWord.all _
theorem NoWord.queueEnable : ∀ a0, NoWord.Statement (.queueEnable a0) := fun _ => NoWord.all _
theorem NoWord.queueDestroy : ∀ a0, NoWord.Statement (.queueDestroy a0) := fun _ => NoWord.all _
theorem NoWord.queueQuery : ∀ a0, NoWord.Statement (.queueQuery a0) := fun _ => NoWord.all _
theorem NoWord.patternRegister : ∀ a0, NoWord.Statement (.patternRegister a0) := fun _ => NoWord.all _
theorem NoWord.patternGroupRegister : ∀ a0, NoWord.Statement (.patternGroupRegister a0) := fun _ => NoWord.all _
theorem NoWord.patternUnregister : ∀ a0, NoWord.Statement (.patternUnregister a0) := fun _ => NoWord.all _
theorem NoWord.partCreate : ∀ a0, NoWord.Statement (.partCreate a0) := fun _ => NoWord.all _
theorem NoWord.partDestroy : ∀ a0, NoWord.Statement (.partDestroy a0) := fun _ => NoWord.all _
theorem NoWord.partQuery : ∀ a0, NoWord.Statement (.partQuery a0) := fun _ => NoWord.all _
theorem NoWord.queryClocks : ∀ a0, NoWord.Statement (.queryClocks a0) := fun _ => NoWord.all _
theorem NoWord.queryTemps : ∀ a0, NoWord.Statement (.queryTemps a0) := fun _ => NoWord.all _
theorem NoWord.queryLimits : ∀ a0, NoWord.Statement (.queryLimits a0) := fun _ => NoWord.all _
theorem NoWord.traceControlConfigure : ∀ a0, NoWord.Statement (.traceControlConfigure a0) := fun _ => NoWord.all _
theorem NoWord.traceControlEnable : ∀ a0, NoWord.Statement (.traceControlEnable a0) := fun _ => NoWord.all _
theorem NoWord.traceControlDisable : ∀ a0, NoWord.Statement (.traceControlDisable a0) := fun _ => NoWord.all _
theorem NoWord.fwStage : ∀ a0, NoWord.Statement (.fwStage a0) := fun _ => NoWord.all _
theorem NoWord.fwActivate : ∀ a0, NoWord.Statement (.fwActivate a0) := fun _ => NoWord.all _
theorem NoWord.exchangeDrained : NoWord.Statement (.exchangeDrained) := NoWord.all _
theorem NoWord.exchangeSwitched : NoWord.Statement (.exchangeSwitched) := NoWord.all _
theorem NoWord.recoverQueueReset : ∀ a0, NoWord.Statement (.recoverQueueReset a0) := fun _ => NoWord.all _
theorem NoWord.queueResetDone : ∀ a0, NoWord.Statement (.queueResetDone a0) := fun _ => NoWord.all _
theorem NoWord.recoverNibReinit : ∀ a0, NoWord.Statement (.recoverNibReinit a0) := fun _ => NoWord.all _
theorem NoWord.nibReinitDone : ∀ a0 a1 a2 a3, NoWord.Statement (.nibReinitDone a0 a1 a2 a3) := fun _ _ _ _ => NoWord.all _
theorem NoWord.recoverWarmReset : ∀ a0, NoWord.Statement (.recoverWarmReset a0) := fun _ => NoWord.all _
theorem NoWord.recoverFailover : ∀ a0, NoWord.Statement (.recoverFailover a0) := fun _ => NoWord.all _
theorem NoWord.mcWatchdog : NoWord.Statement (.mcWatchdog) := NoWord.all _
theorem NoWord.deviceFault : ∀ a0 a1, NoWord.Statement (.deviceFault a0 a1) := fun _ _ => NoWord.all _
theorem NoWord.microcodeFault : ∀ a0 a1 a2 a3, NoWord.Statement (.microcodeFault a0 a1 a2 a3) := fun _ _ _ _ => NoWord.all _
theorem NoWord.dmeEventService : ∀ a0 a1 a2, NoWord.Statement (.dmeEventService a0 a1 a2) := fun _ _ _ => NoWord.all _
theorem NoWord.bindOffDeadline : ∀ a0, NoWord.Statement (.bindOffDeadline a0) := fun _ => NoWord.all _
theorem NoWord.contextRelease : ∀ a0, NoWord.Statement (.contextRelease a0) := fun _ => NoWord.all _
theorem NoWord.doorbellTake : NoWord.Statement (.doorbellTake) := NoWord.all _
theorem NoWord.queueRecordLoaded : ∀ a0, NoWord.Statement (.queueRecordLoaded a0) := fun _ => NoWord.all _
theorem NoWord.queueEviction : NoWord.Statement (.queueEviction) := NoWord.all _
theorem NoWord.tailWordReturn : ∀ a0 a1, NoWord.Statement (.tailWordReturn a0 a1) := fun _ _ => NoWord.all _
theorem NoWord.tailReread : ∀ a0, NoWord.Statement (.tailReread a0) := fun _ => NoWord.all _
theorem NoWord.ringEntryReturn : ∀ a0 a1, NoWord.Statement (.ringEntryReturn a0 a1) := fun _ _ => NoWord.all _
theorem NoWord.arbiterGrant : NoWord.Statement (.arbiterGrant) := NoWord.all _
theorem NoWord.queueTimeout : ∀ a0, NoWord.Statement (.queueTimeout a0) := fun _ => NoWord.all _
theorem NoWord.enqueueRequest : ∀ a0, NoWord.Statement (.enqueueRequest a0) := fun _ => NoWord.all _
theorem NoWord.slotReservationGrant : ∀ a0, NoWord.Statement (.slotReservationGrant a0) := fun _ => NoWord.all _
theorem NoWord.enqueueEntryWritten : ∀ a0, NoWord.Statement (.enqueueEntryWritten a0) := fun _ => NoWord.all _
theorem NoWord.enqueueRefusedFull : ∀ a0, NoWord.Statement (.enqueueRefusedFull a0) := fun _ => NoWord.all _
theorem NoWord.cbReadReturn : ∀ a0 a1, NoWord.Statement (.cbReadReturn a0 a1) := fun _ _ => NoWord.all _
theorem NoWord.bufferHeader : ∀ a0, NoWord.Statement (.bufferHeader a0) := fun _ => NoWord.all _
theorem NoWord.nop : ∀ a0, NoWord.Statement (.nop a0) := fun _ => NoWord.all _
theorem NoWord.chain : ∀ a0, NoWord.Statement (.chain a0) := fun _ => NoWord.all _
theorem NoWord.launch : ∀ a0, NoWord.Statement (.launch a0) := fun _ => NoWord.all _
theorem NoWord.launchDispatch : ∀ a0, NoWord.Statement (.launchDispatch a0) := fun _ => NoWord.all _
theorem NoWord.launchReplay : ∀ a0, NoWord.Statement (.launchReplay a0) := fun _ => NoWord.all _
theorem NoWord.replayMemberDispatch : ∀ a0, NoWord.Statement (.replayMemberDispatch a0) := fun _ => NoWord.all _
theorem NoWord.patchParams : ∀ a0, NoWord.Statement (.patchParams a0) := fun _ => NoWord.all _
theorem NoWord.setConstants : ∀ a0, NoWord.Statement (.setConstants a0) := fun _ => NoWord.all _
theorem NoWord.eventRecord : ∀ a0, NoWord.Statement (.eventRecord a0) := fun _ => NoWord.all _
theorem NoWord.eventWait : ∀ a0, NoWord.Statement (.eventWait a0) := fun _ => NoWord.all _
theorem NoWord.syncOp : ∀ a0, NoWord.Statement (.syncOp a0) := fun _ => NoWord.all _
theorem NoWord.syncWait : ∀ a0, NoWord.Statement (.syncWait a0) := fun _ => NoWord.all _
theorem NoWord.barrier : ∀ a0, NoWord.Statement (.barrier a0) := fun _ => NoWord.all _
theorem NoWord.writeImm : ∀ a0, NoWord.Statement (.writeImm a0) := fun _ => NoWord.all _
theorem NoWord.writeImmVisible : ∀ a0 a1, NoWord.Statement (.writeImmVisible a0 a1) := fun _ _ => NoWord.all _
theorem NoWord.hintPhase : ∀ a0, NoWord.Statement (.hintPhase a0) := fun _ => NoWord.all _
theorem NoWord.fenceFetch : ∀ a0, NoWord.Statement (.fenceFetch a0) := fun _ => NoWord.all _
theorem NoWord.fenceFetchComplete : ∀ a0, NoWord.Statement (.fenceFetchComplete a0) := fun _ => NoWord.all _
theorem NoWord.partControl : ∀ a0, NoWord.Statement (.partControl a0) := fun _ => NoWord.all _
theorem NoWord.feedSet : ∀ a0, NoWord.Statement (.feedSet a0) := fun _ => NoWord.all _
theorem NoWord.traceSet : ∀ a0, NoWord.Statement (.traceSet a0) := fun _ => NoWord.all _
theorem NoWord.privWrite : ∀ a0, NoWord.Statement (.privWrite a0) := fun _ => NoWord.all _
theorem NoWord.syncConfig : ∀ a0, NoWord.Statement (.syncConfig a0) := fun _ => NoWord.all _
theorem NoWord.scoreboardLateRegistration : NoWord.Statement (.scoreboardLateRegistration) := NoWord.all _
theorem NoWord.taskDoneAtHub : ∀ a0, NoWord.Statement (.taskDoneAtHub a0) := fun _ => NoWord.all _
theorem NoWord.writeBackResponse : ∀ a0 a1, NoWord.Statement (.writeBackResponse a0 a1) := fun _ _ => NoWord.all _
theorem NoWord.splitterTaskPass : ∀ a0, NoWord.Statement (.splitterTaskPass a0) := fun _ => NoWord.all _
theorem NoWord.splitterCompletion : ∀ a0, NoWord.Statement (.splitterCompletion a0) := fun _ => NoWord.all _
theorem NoWord.splitterWithdrawn : ∀ a0, NoWord.Statement (.splitterWithdrawn a0) := fun _ => NoWord.all _
theorem NoWord.splitterBarrierArrival : ∀ a0, NoWord.Statement (.splitterBarrierArrival a0) := fun _ => NoWord.all _
theorem NoWord.nibTaskReceive : ∀ a0, NoWord.Statement (.nibTaskReceive a0) := fun _ => NoWord.all _
theorem NoWord.stateSlotFilled : ∀ a0 a1, NoWord.Statement (.stateSlotFilled a0 a1) := fun _ _ => NoWord.all _
theorem NoWord.constantsStaged : ∀ a0 a1 a2, NoWord.Statement (.constantsStaged a0 a1 a2) := fun _ _ _ => NoWord.all _
theorem NoWord.nibSwapIn : ∀ a0, NoWord.Statement (.nibSwapIn a0) := fun _ => NoWord.all _
theorem NoWord.stitcherEmit : ∀ a0 a1, NoWord.Statement (.stitcherEmit a0 a1) := fun _ _ => NoWord.all _
theorem NoWord.nibIssue : ∀ a0, NoWord.Statement (.nibIssue a0) := fun _ => NoWord.all _
theorem NoWord.completionToken : ∀ a0 a1 a2 a3, NoWord.Statement (.completionToken a0 a1 a2 a3) := fun _ _ _ _ => NoWord.all _
theorem NoWord.residueReadAnswer : ∀ a0, NoWord.Statement (.residueReadAnswer a0) := fun _ => NoWord.all _
theorem NoWord.nibWithdraw : ∀ a0, NoWord.Statement (.nibWithdraw a0) := fun _ => NoWord.all _
theorem NoWord.engineTranslateRequest : ∀ a0 a1 a2 a3, NoWord.Statement (.engineTranslateRequest a0 a1 a2 a3) := fun _ _ _ _ => NoWord.all _
theorem NoWord.engineSyncRequest : ∀ a0 a1 a2 a3, NoWord.Statement (.engineSyncRequest a0 a1 a2 a3) := fun _ _ _ _ => NoWord.all _
theorem NoWord.engineEnqueueRequest : ∀ a0 a1 a2 a3, NoWord.Statement (.engineEnqueueRequest a0 a1 a2 a3) := fun _ _ _ _ => NoWord.all _
theorem NoWord.translationCompletion : ∀ a0 a1 a2 a3 a4 a5, NoWord.Statement (.translationCompletion a0 a1 a2 a3 a4 a5) := fun _ _ _ _ _ _ => NoWord.all _
theorem NoWord.translationTimeout : ∀ a0, NoWord.Statement (.translationTimeout a0) := fun _ => NoWord.all _
theorem NoWord.invalidateRequest : ∀ a0 a1 a2 a3 a4, NoWord.Statement (.invalidateRequest a0 a1 a2 a3 a4) := fun _ _ _ _ _ => NoWord.all _
theorem NoWord.nibInvalidation : ∀ a0, NoWord.Statement (.nibInvalidation a0) := fun _ => NoWord.all _
theorem NoWord.invalidateComplete : ∀ a0, NoWord.Statement (.invalidateComplete a0) := fun _ => NoWord.all _
theorem NoWord.abortTokenTimeout : ∀ a0, NoWord.Statement (.abortTokenTimeout a0) := fun _ => NoWord.all _
theorem NoWord.memoryResponseTimeout : ∀ a0, NoWord.Statement (.memoryResponseTimeout a0) := fun _ => NoWord.all _
theorem NoWord.nibIdleToOff : ∀ a0, NoWord.Statement (.nibIdleToOff a0) := fun _ => NoWord.all _
theorem NoWord.migrationTimer : ∀ a0 a1, NoWord.Statement (.migrationTimer a0 a1) := fun _ _ => NoWord.all _
theorem NoWord.withdrawAnswer : ∀ a0, NoWord.Statement (.withdrawAnswer a0) := fun _ => NoWord.all _
theorem NoWord.withdrawDrainTimeout : ∀ a0 a1, NoWord.Statement (.withdrawDrainTimeout a0 a1) := fun _ _ => NoWord.all _
theorem NoWord.memorySyncResponse : ∀ a0 a1, NoWord.Statement (.memorySyncResponse a0 a1) := fun _ _ => NoWord.all _
theorem NoWord.watchPoll : NoWord.Statement (.watchPoll) := NoWord.all _
theorem NoWord.watchPollReturn : ∀ a0 a1, NoWord.Statement (.watchPollReturn a0 a1) := fun _ _ => NoWord.all _
theorem NoWord.syncWaitLateRegister : NoWord.Statement (.syncWaitLateRegister) := NoWord.all _
theorem NoWord.syncWaitExpiry : ∀ a0, NoWord.Statement (.syncWaitExpiry a0) := fun _ => NoWord.all _
theorem NoWord.barrierArrivalHub : ∀ a0, NoWord.Statement (.barrierArrivalHub a0) := fun _ => NoWord.all _
theorem NoWord.barrierPoll : ∀ a0, NoWord.Statement (.barrierPoll a0) := fun _ => NoWord.all _
theorem NoWord.barrierPollReturn : ∀ a0 a1 a2, NoWord.Statement (.barrierPollReturn a0 a1 a2) := fun _ _ _ => NoWord.all _
theorem NoWord.barrierInstanceTimeout : ∀ a0, NoWord.Statement (.barrierInstanceTimeout a0) := fun _ => NoWord.all _
theorem NoWord.barrierReleaseAtNib : ∀ a0, NoWord.Statement (.barrierReleaseAtNib a0) := fun _ => NoWord.all _
theorem NoWord.feedIntervalClose : ∀ a0, NoWord.Statement (.feedIntervalClose a0) := fun _ => NoWord.all _
theorem NoWord.rampWindowStart : NoWord.Statement (.rampWindowStart) := NoWord.all _
theorem NoWord.calibrationTick : NoWord.Statement (.calibrationTick) := NoWord.all _
theorem NoWord.trimCheck : NoWord.Statement (.trimCheck) := NoWord.all _
theorem NoWord.wakeRelease : ∀ a0, NoWord.Statement (.wakeRelease a0) := fun _ => NoWord.all _
theorem NoWord.nibWakeDone : ∀ a0 a1, NoWord.Statement (.nibWakeDone a0 a1) := fun _ _ => NoWord.all _
theorem NoWord.eqOpen : ∀ a0, NoWord.Statement (.eqOpen a0) := fun _ => NoWord.all _
theorem NoWord.hintRampStart : ∀ a0, NoWord.Statement (.hintRampStart a0) := fun _ => NoWord.all _
theorem NoWord.hubDozeEntry : NoWord.Statement (.hubDozeEntry) := NoWord.all _
theorem NoWord.hubSleepEntry : NoWord.Statement (.hubSleepEntry) := NoWord.all _
theorem NoWord.hubWake : NoWord.Statement (.hubWake) := NoWord.all _
theorem NoWord.blotterWriteVisible : NoWord.Statement (.blotterWriteVisible) := NoWord.all _
theorem NoWord.mirrorRecordReceived : ∀ a0, NoWord.Statement (.mirrorRecordReceived a0) := fun _ => NoWord.all _
theorem NoWord.mirrorAckReceived : NoWord.Statement (.mirrorAckReceived) := NoWord.all _
theorem NoWord.mirrorAckTimeout : NoWord.Statement (.mirrorAckTimeout) := NoWord.all _
theorem NoWord.primaryHeartbeat : NoWord.Statement (.primaryHeartbeat) := NoWord.all _
theorem NoWord.primaryConfirm : NoWord.Statement (.primaryConfirm) := NoWord.all _
theorem NoWord.heartbeatTimeout : NoWord.Statement (.heartbeatTimeout) := NoWord.all _
theorem NoWord.failoverReqReceived : ∀ a0 a1, NoWord.Statement (.failoverReqReceived a0 a1) := fun _ _ => NoWord.all _
theorem NoWord.splitterTakeoverRequest : ∀ a0 a1 a2, NoWord.Statement (.splitterTakeoverRequest a0 a1 a2) := fun _ _ _ => NoWord.all _
theorem NoWord.splitterGrantTimeout : ∀ a0, NoWord.Statement (.splitterGrantTimeout a0) := fun _ => NoWord.all _
theorem NoWord.takeover : NoWord.Statement (.takeover) := NoWord.all _
theorem NoWord.partnerTakeoverSeen : NoWord.Statement (.partnerTakeoverSeen) := NoWord.all _
theorem NoWord.bulkCopyDone : ∀ a0 a1 a2, NoWord.Statement (.bulkCopyDone a0 a1 a2) := fun _ _ _ => NoWord.all _
theorem NoWord.divergenceSweep : ∀ a0, NoWord.Statement (.divergenceSweep a0) := fun _ => NoWord.all _
theorem NoWord.splitterPhaseDone : NoWord.Statement (.splitterPhaseDone) := NoWord.all _
theorem NoWord.nibTrainingAttemptEnd : ∀ a0 a1 a2, NoWord.Statement (.nibTrainingAttemptEnd a0 a1 a2) := fun _ _ _ => NoWord.all _
theorem NoWord.syncRequestAtSyncUnit : ∀ a0, NoWord.Statement (.syncRequestAtSyncUnit a0) := fun _ => NoWord.all _
theorem NoWord.syncReplyAtNib : ∀ a0, NoWord.Statement (.syncReplyAtNib a0) := fun _ => NoWord.all _
theorem NoWord.enqueueReplyAtNib : ∀ a0, NoWord.Statement (.enqueueReplyAtNib a0) := fun _ => NoWord.all _
theorem NoWord.enqueueEntryWriteResponse : ∀ a0 a1, NoWord.Statement (.enqueueEntryWriteResponse a0 a1) := fun _ _ => NoWord.all _
theorem NoWord.eventStoreReadReturn : ∀ a0 a1, NoWord.Statement (.eventStoreReadReturn a0 a1) := fun _ _ => NoWord.all _
theorem NoWord.nibUncorrectableError : ∀ a0, NoWord.Statement (.nibUncorrectableError a0) := fun _ => NoWord.all _
theorem NoWord.abortAtNib : ∀ a0, NoWord.Statement (.abortAtNib a0) := fun _ => NoWord.all _
theorem NoWord.nibPowerUp : ∀ a0, NoWord.Statement (.nibPowerUp a0) := fun _ => NoWord.all _
theorem NoWord.splitterTrainingAttemptEnd : ∀ a0 a1, NoWord.Statement (.splitterTrainingAttemptEnd a0 a1) := fun _ _ => NoWord.all _
theorem NoWord.takeoverRefused : ∀ a0, NoWord.Statement (.takeoverRefused a0) := fun _ => NoWord.all _

end Sys2Proof.Laws
end

