-- ==== Sys2Proof/Laws/State.lean ====
section
/-! SUPPORT. One lemma per field of the state and per update of a part: what the update leaves, and what it sets. -/

namespace Sys2Proof.Machine

open Sys2Proof

variable (s : State)

@[simp] theorem State.modQueue_pending (q : Nat) (f : Queue → Queue) : (s.modQueue q f).pending = s.pending := rfl
@[simp] theorem State.modQueue_build (q : Nat) (f : Queue → Queue) : (s.modQueue q f).build = s.build := rfl
@[simp] theorem State.modQueue_ductus (q : Nat) (f : Queue → Queue) : (s.modQueue q f).ductus = s.ductus := rfl
@[simp] theorem State.modQueue_trace (q : Nat) (f : Queue → Queue) : (s.modQueue q f).trace = s.trace := rfl
@[simp] theorem State.modQueue_htp (q : Nat) (f : Queue → Queue) : (s.modQueue q f).htp = s.htp := rfl
@[simp] theorem State.modQueue_bells (q : Nat) (f : Queue → Queue) : (s.modQueue q f).bells = s.bells := rfl
@[simp] theorem State.modQueue_mbx (q : Nat) (f : Queue → Queue) : (s.modQueue q f).mbx = s.mbx := rfl
@[simp] theorem State.modQueue_iga (q : Nat) (f : Queue → Queue) : (s.modQueue q f).iga = s.iga := rfl
@[simp] theorem State.modQueue_cfg (q : Nat) (f : Queue → Queue) : (s.modQueue q f).cfg = s.cfg := rfl
@[simp] theorem State.modQueue_live (q : Nat) (f : Queue → Queue) : (s.modQueue q f).live = s.live := rfl
@[simp] theorem State.modQueue_cpb (q : Nat) (f : Queue → Queue) : (s.modQueue q f).cpb = s.cpb := rfl
@[simp] theorem State.modQueue_mgmt (q : Nat) (f : Queue → Queue) : (s.modQueue q f).mgmt = s.mgmt := rfl
@[simp] theorem State.modQueue_dmes (q : Nat) (f : Queue → Queue) : (s.modQueue q f).dmes = s.dmes := rfl
@[simp] theorem State.modQueue_ctxs (q : Nat) (f : Queue → Queue) : (s.modQueue q f).ctxs = s.ctxs := rfl
@[simp] theorem State.modQueue_parts (q : Nat) (f : Queue → Queue) : (s.modQueue q f).parts = s.parts := rfl
@[simp] theorem State.modQueue_queues (q : Nat) (f : Queue → Queue) : (s.modQueue q f).queues = tmod s.queues q f := rfl
@[simp] theorem State.modQueue_qe (q : Nat) (f : Queue → Queue) : (s.modQueue q f).qe = s.qe := rfl
@[simp] theorem State.modQueue_tasks (q : Nat) (f : Queue → Queue) : (s.modQueue q f).tasks = s.tasks := rfl
@[simp] theorem State.modQueue_epoch (q : Nat) (f : Queue → Queue) : (s.modQueue q f).epoch = s.epoch := rfl
@[simp] theorem State.modQueue_parseNo (q : Nat) (f : Queue → Queue) : (s.modQueue q f).parseNo = s.parseNo := rfl
@[simp] theorem State.modQueue_sync (q : Nat) (f : Queue → Queue) : (s.modQueue q f).sync = s.sync := rfl
@[simp] theorem State.modQueue_dbg (q : Nat) (f : Queue → Queue) : (s.modQueue q f).dbg = s.dbg := rfl
@[simp] theorem State.modQueue_splitters (q : Nat) (f : Queue → Queue) : (s.modQueue q f).splitters = s.splitters := rfl
@[simp] theorem State.modQueue_nibs (q : Nat) (f : Queue → Queue) : (s.modQueue q f).nibs = s.nibs := rfl
@[simp] theorem State.modQueue_xlat (q : Nat) (f : Queue → Queue) : (s.modQueue q f).xlat = s.xlat := rfl
@[simp] theorem State.modQueue_mip (q : Nat) (f : Queue → Queue) : (s.modQueue q f).mip = s.mip := rfl
@[simp] theorem State.modQueue_feed (q : Nat) (f : Queue → Queue) : (s.modQueue q f).feed = s.feed := rfl
@[simp] theorem State.modQueue_flt (q : Nat) (f : Queue → Queue) : (s.modQueue q f).flt = s.flt := rfl
@[simp] theorem State.modQueue_mir (q : Nat) (f : Queue → Queue) : (s.modQueue q f).mir = s.mir := rfl
@[simp] theorem State.modQueue_power (q : Nat) (f : Queue → Queue) : (s.modQueue q f).power = s.power := rfl

@[simp] theorem State.modCtx_pending (c : Nat) (f : Ctx → Ctx) : (s.modCtx c f).pending = s.pending := rfl
@[simp] theorem State.modCtx_build (c : Nat) (f : Ctx → Ctx) : (s.modCtx c f).build = s.build := rfl
@[simp] theorem State.modCtx_ductus (c : Nat) (f : Ctx → Ctx) : (s.modCtx c f).ductus = s.ductus := rfl
@[simp] theorem State.modCtx_trace (c : Nat) (f : Ctx → Ctx) : (s.modCtx c f).trace = s.trace := rfl
@[simp] theorem State.modCtx_htp (c : Nat) (f : Ctx → Ctx) : (s.modCtx c f).htp = s.htp := rfl
@[simp] theorem State.modCtx_bells (c : Nat) (f : Ctx → Ctx) : (s.modCtx c f).bells = s.bells := rfl
@[simp] theorem State.modCtx_mbx (c : Nat) (f : Ctx → Ctx) : (s.modCtx c f).mbx = s.mbx := rfl
@[simp] theorem State.modCtx_iga (c : Nat) (f : Ctx → Ctx) : (s.modCtx c f).iga = s.iga := rfl
@[simp] theorem State.modCtx_cfg (c : Nat) (f : Ctx → Ctx) : (s.modCtx c f).cfg = s.cfg := rfl
@[simp] theorem State.modCtx_live (c : Nat) (f : Ctx → Ctx) : (s.modCtx c f).live = s.live := rfl
@[simp] theorem State.modCtx_cpb (c : Nat) (f : Ctx → Ctx) : (s.modCtx c f).cpb = s.cpb := rfl
@[simp] theorem State.modCtx_mgmt (c : Nat) (f : Ctx → Ctx) : (s.modCtx c f).mgmt = s.mgmt := rfl
@[simp] theorem State.modCtx_dmes (c : Nat) (f : Ctx → Ctx) : (s.modCtx c f).dmes = s.dmes := rfl
@[simp] theorem State.modCtx_ctxs (c : Nat) (f : Ctx → Ctx) : (s.modCtx c f).ctxs = tmod s.ctxs c f := rfl
@[simp] theorem State.modCtx_parts (c : Nat) (f : Ctx → Ctx) : (s.modCtx c f).parts = s.parts := rfl
@[simp] theorem State.modCtx_queues (c : Nat) (f : Ctx → Ctx) : (s.modCtx c f).queues = s.queues := rfl
@[simp] theorem State.modCtx_qe (c : Nat) (f : Ctx → Ctx) : (s.modCtx c f).qe = s.qe := rfl
@[simp] theorem State.modCtx_tasks (c : Nat) (f : Ctx → Ctx) : (s.modCtx c f).tasks = s.tasks := rfl
@[simp] theorem State.modCtx_epoch (c : Nat) (f : Ctx → Ctx) : (s.modCtx c f).epoch = s.epoch := rfl
@[simp] theorem State.modCtx_parseNo (c : Nat) (f : Ctx → Ctx) : (s.modCtx c f).parseNo = s.parseNo := rfl
@[simp] theorem State.modCtx_sync (c : Nat) (f : Ctx → Ctx) : (s.modCtx c f).sync = s.sync := rfl
@[simp] theorem State.modCtx_dbg (c : Nat) (f : Ctx → Ctx) : (s.modCtx c f).dbg = s.dbg := rfl
@[simp] theorem State.modCtx_splitters (c : Nat) (f : Ctx → Ctx) : (s.modCtx c f).splitters = s.splitters := rfl
@[simp] theorem State.modCtx_nibs (c : Nat) (f : Ctx → Ctx) : (s.modCtx c f).nibs = s.nibs := rfl
@[simp] theorem State.modCtx_xlat (c : Nat) (f : Ctx → Ctx) : (s.modCtx c f).xlat = s.xlat := rfl
@[simp] theorem State.modCtx_mip (c : Nat) (f : Ctx → Ctx) : (s.modCtx c f).mip = s.mip := rfl
@[simp] theorem State.modCtx_feed (c : Nat) (f : Ctx → Ctx) : (s.modCtx c f).feed = s.feed := rfl
@[simp] theorem State.modCtx_flt (c : Nat) (f : Ctx → Ctx) : (s.modCtx c f).flt = s.flt := rfl
@[simp] theorem State.modCtx_mir (c : Nat) (f : Ctx → Ctx) : (s.modCtx c f).mir = s.mir := rfl
@[simp] theorem State.modCtx_power (c : Nat) (f : Ctx → Ctx) : (s.modCtx c f).power = s.power := rfl

@[simp] theorem State.modPart_pending (p : Nat) (f : Part → Part) : (s.modPart p f).pending = s.pending := rfl
@[simp] theorem State.modPart_build (p : Nat) (f : Part → Part) : (s.modPart p f).build = s.build := rfl
@[simp] theorem State.modPart_ductus (p : Nat) (f : Part → Part) : (s.modPart p f).ductus = s.ductus := rfl
@[simp] theorem State.modPart_trace (p : Nat) (f : Part → Part) : (s.modPart p f).trace = s.trace := rfl
@[simp] theorem State.modPart_htp (p : Nat) (f : Part → Part) : (s.modPart p f).htp = s.htp := rfl
@[simp] theorem State.modPart_bells (p : Nat) (f : Part → Part) : (s.modPart p f).bells = s.bells := rfl
@[simp] theorem State.modPart_mbx (p : Nat) (f : Part → Part) : (s.modPart p f).mbx = s.mbx := rfl
@[simp] theorem State.modPart_iga (p : Nat) (f : Part → Part) : (s.modPart p f).iga = s.iga := rfl
@[simp] theorem State.modPart_cfg (p : Nat) (f : Part → Part) : (s.modPart p f).cfg = s.cfg := rfl
@[simp] theorem State.modPart_live (p : Nat) (f : Part → Part) : (s.modPart p f).live = s.live := rfl
@[simp] theorem State.modPart_cpb (p : Nat) (f : Part → Part) : (s.modPart p f).cpb = s.cpb := rfl
@[simp] theorem State.modPart_mgmt (p : Nat) (f : Part → Part) : (s.modPart p f).mgmt = s.mgmt := rfl
@[simp] theorem State.modPart_dmes (p : Nat) (f : Part → Part) : (s.modPart p f).dmes = s.dmes := rfl
@[simp] theorem State.modPart_ctxs (p : Nat) (f : Part → Part) : (s.modPart p f).ctxs = s.ctxs := rfl
@[simp] theorem State.modPart_parts (p : Nat) (f : Part → Part) : (s.modPart p f).parts = tmod s.parts p f := rfl
@[simp] theorem State.modPart_queues (p : Nat) (f : Part → Part) : (s.modPart p f).queues = s.queues := rfl
@[simp] theorem State.modPart_qe (p : Nat) (f : Part → Part) : (s.modPart p f).qe = s.qe := rfl
@[simp] theorem State.modPart_tasks (p : Nat) (f : Part → Part) : (s.modPart p f).tasks = s.tasks := rfl
@[simp] theorem State.modPart_epoch (p : Nat) (f : Part → Part) : (s.modPart p f).epoch = s.epoch := rfl
@[simp] theorem State.modPart_parseNo (p : Nat) (f : Part → Part) : (s.modPart p f).parseNo = s.parseNo := rfl
@[simp] theorem State.modPart_sync (p : Nat) (f : Part → Part) : (s.modPart p f).sync = s.sync := rfl
@[simp] theorem State.modPart_dbg (p : Nat) (f : Part → Part) : (s.modPart p f).dbg = s.dbg := rfl
@[simp] theorem State.modPart_splitters (p : Nat) (f : Part → Part) : (s.modPart p f).splitters = s.splitters := rfl
@[simp] theorem State.modPart_nibs (p : Nat) (f : Part → Part) : (s.modPart p f).nibs = s.nibs := rfl
@[simp] theorem State.modPart_xlat (p : Nat) (f : Part → Part) : (s.modPart p f).xlat = s.xlat := rfl
@[simp] theorem State.modPart_mip (p : Nat) (f : Part → Part) : (s.modPart p f).mip = s.mip := rfl
@[simp] theorem State.modPart_feed (p : Nat) (f : Part → Part) : (s.modPart p f).feed = s.feed := rfl
@[simp] theorem State.modPart_flt (p : Nat) (f : Part → Part) : (s.modPart p f).flt = s.flt := rfl
@[simp] theorem State.modPart_mir (p : Nat) (f : Part → Part) : (s.modPart p f).mir = s.mir := rfl
@[simp] theorem State.modPart_power (p : Nat) (f : Part → Part) : (s.modPart p f).power = s.power := rfl

@[simp] theorem State.modTask_pending (t : Nat) (f : Task → Task) : (s.modTask t f).pending = s.pending := rfl
@[simp] theorem State.modTask_build (t : Nat) (f : Task → Task) : (s.modTask t f).build = s.build := rfl
@[simp] theorem State.modTask_ductus (t : Nat) (f : Task → Task) : (s.modTask t f).ductus = s.ductus := rfl
@[simp] theorem State.modTask_trace (t : Nat) (f : Task → Task) : (s.modTask t f).trace = s.trace := rfl
@[simp] theorem State.modTask_htp (t : Nat) (f : Task → Task) : (s.modTask t f).htp = s.htp := rfl
@[simp] theorem State.modTask_bells (t : Nat) (f : Task → Task) : (s.modTask t f).bells = s.bells := rfl
@[simp] theorem State.modTask_mbx (t : Nat) (f : Task → Task) : (s.modTask t f).mbx = s.mbx := rfl
@[simp] theorem State.modTask_iga (t : Nat) (f : Task → Task) : (s.modTask t f).iga = s.iga := rfl
@[simp] theorem State.modTask_cfg (t : Nat) (f : Task → Task) : (s.modTask t f).cfg = s.cfg := rfl
@[simp] theorem State.modTask_live (t : Nat) (f : Task → Task) : (s.modTask t f).live = s.live := rfl
@[simp] theorem State.modTask_cpb (t : Nat) (f : Task → Task) : (s.modTask t f).cpb = s.cpb := rfl
@[simp] theorem State.modTask_mgmt (t : Nat) (f : Task → Task) : (s.modTask t f).mgmt = s.mgmt := rfl
@[simp] theorem State.modTask_dmes (t : Nat) (f : Task → Task) : (s.modTask t f).dmes = s.dmes := rfl
@[simp] theorem State.modTask_ctxs (t : Nat) (f : Task → Task) : (s.modTask t f).ctxs = s.ctxs := rfl
@[simp] theorem State.modTask_parts (t : Nat) (f : Task → Task) : (s.modTask t f).parts = s.parts := rfl
@[simp] theorem State.modTask_queues (t : Nat) (f : Task → Task) : (s.modTask t f).queues = s.queues := rfl
@[simp] theorem State.modTask_qe (t : Nat) (f : Task → Task) : (s.modTask t f).qe = s.qe := rfl
@[simp] theorem State.modTask_tasks (t : Nat) (f : Task → Task) : (s.modTask t f).tasks = tmod s.tasks t f := rfl
@[simp] theorem State.modTask_epoch (t : Nat) (f : Task → Task) : (s.modTask t f).epoch = s.epoch := rfl
@[simp] theorem State.modTask_parseNo (t : Nat) (f : Task → Task) : (s.modTask t f).parseNo = s.parseNo := rfl
@[simp] theorem State.modTask_sync (t : Nat) (f : Task → Task) : (s.modTask t f).sync = s.sync := rfl
@[simp] theorem State.modTask_dbg (t : Nat) (f : Task → Task) : (s.modTask t f).dbg = s.dbg := rfl
@[simp] theorem State.modTask_splitters (t : Nat) (f : Task → Task) : (s.modTask t f).splitters = s.splitters := rfl
@[simp] theorem State.modTask_nibs (t : Nat) (f : Task → Task) : (s.modTask t f).nibs = s.nibs := rfl
@[simp] theorem State.modTask_xlat (t : Nat) (f : Task → Task) : (s.modTask t f).xlat = s.xlat := rfl
@[simp] theorem State.modTask_mip (t : Nat) (f : Task → Task) : (s.modTask t f).mip = s.mip := rfl
@[simp] theorem State.modTask_feed (t : Nat) (f : Task → Task) : (s.modTask t f).feed = s.feed := rfl
@[simp] theorem State.modTask_flt (t : Nat) (f : Task → Task) : (s.modTask t f).flt = s.flt := rfl
@[simp] theorem State.modTask_mir (t : Nat) (f : Task → Task) : (s.modTask t f).mir = s.mir := rfl
@[simp] theorem State.modTask_power (t : Nat) (f : Task → Task) : (s.modTask t f).power = s.power := rfl

@[simp] theorem State.modNib_pending (n : Nat) (f : Nib → Nib) : (s.modNib n f).pending = s.pending := rfl
@[simp] theorem State.modNib_build (n : Nat) (f : Nib → Nib) : (s.modNib n f).build = s.build := rfl
@[simp] theorem State.modNib_ductus (n : Nat) (f : Nib → Nib) : (s.modNib n f).ductus = s.ductus := rfl
@[simp] theorem State.modNib_trace (n : Nat) (f : Nib → Nib) : (s.modNib n f).trace = s.trace := rfl
@[simp] theorem State.modNib_htp (n : Nat) (f : Nib → Nib) : (s.modNib n f).htp = s.htp := rfl
@[simp] theorem State.modNib_bells (n : Nat) (f : Nib → Nib) : (s.modNib n f).bells = s.bells := rfl
@[simp] theorem State.modNib_mbx (n : Nat) (f : Nib → Nib) : (s.modNib n f).mbx = s.mbx := rfl
@[simp] theorem State.modNib_iga (n : Nat) (f : Nib → Nib) : (s.modNib n f).iga = s.iga := rfl
@[simp] theorem State.modNib_cfg (n : Nat) (f : Nib → Nib) : (s.modNib n f).cfg = s.cfg := rfl
@[simp] theorem State.modNib_live (n : Nat) (f : Nib → Nib) : (s.modNib n f).live = s.live := rfl
@[simp] theorem State.modNib_cpb (n : Nat) (f : Nib → Nib) : (s.modNib n f).cpb = s.cpb := rfl
@[simp] theorem State.modNib_mgmt (n : Nat) (f : Nib → Nib) : (s.modNib n f).mgmt = s.mgmt := rfl
@[simp] theorem State.modNib_dmes (n : Nat) (f : Nib → Nib) : (s.modNib n f).dmes = s.dmes := rfl
@[simp] theorem State.modNib_ctxs (n : Nat) (f : Nib → Nib) : (s.modNib n f).ctxs = s.ctxs := rfl
@[simp] theorem State.modNib_parts (n : Nat) (f : Nib → Nib) : (s.modNib n f).parts = s.parts := rfl
@[simp] theorem State.modNib_queues (n : Nat) (f : Nib → Nib) : (s.modNib n f).queues = s.queues := rfl
@[simp] theorem State.modNib_qe (n : Nat) (f : Nib → Nib) : (s.modNib n f).qe = s.qe := rfl
@[simp] theorem State.modNib_tasks (n : Nat) (f : Nib → Nib) : (s.modNib n f).tasks = s.tasks := rfl
@[simp] theorem State.modNib_epoch (n : Nat) (f : Nib → Nib) : (s.modNib n f).epoch = s.epoch := rfl
@[simp] theorem State.modNib_parseNo (n : Nat) (f : Nib → Nib) : (s.modNib n f).parseNo = s.parseNo := rfl
@[simp] theorem State.modNib_sync (n : Nat) (f : Nib → Nib) : (s.modNib n f).sync = s.sync := rfl
@[simp] theorem State.modNib_dbg (n : Nat) (f : Nib → Nib) : (s.modNib n f).dbg = s.dbg := rfl
@[simp] theorem State.modNib_splitters (n : Nat) (f : Nib → Nib) : (s.modNib n f).splitters = s.splitters := rfl
@[simp] theorem State.modNib_nibs (n : Nat) (f : Nib → Nib) : (s.modNib n f).nibs = lmod s.nibs n f := rfl
@[simp] theorem State.modNib_xlat (n : Nat) (f : Nib → Nib) : (s.modNib n f).xlat = s.xlat := rfl
@[simp] theorem State.modNib_mip (n : Nat) (f : Nib → Nib) : (s.modNib n f).mip = s.mip := rfl
@[simp] theorem State.modNib_feed (n : Nat) (f : Nib → Nib) : (s.modNib n f).feed = s.feed := rfl
@[simp] theorem State.modNib_flt (n : Nat) (f : Nib → Nib) : (s.modNib n f).flt = s.flt := rfl
@[simp] theorem State.modNib_mir (n : Nat) (f : Nib → Nib) : (s.modNib n f).mir = s.mir := rfl
@[simp] theorem State.modNib_power (n : Nat) (f : Nib → Nib) : (s.modNib n f).power = s.power := rfl

@[simp] theorem State.modSplitter_pending (n : Nat) (f : Splitter → Splitter) : (s.modSplitter n f).pending = s.pending := rfl
@[simp] theorem State.modSplitter_build (n : Nat) (f : Splitter → Splitter) : (s.modSplitter n f).build = s.build := rfl
@[simp] theorem State.modSplitter_ductus (n : Nat) (f : Splitter → Splitter) : (s.modSplitter n f).ductus = s.ductus := rfl
@[simp] theorem State.modSplitter_trace (n : Nat) (f : Splitter → Splitter) : (s.modSplitter n f).trace = s.trace := rfl
@[simp] theorem State.modSplitter_htp (n : Nat) (f : Splitter → Splitter) : (s.modSplitter n f).htp = s.htp := rfl
@[simp] theorem State.modSplitter_bells (n : Nat) (f : Splitter → Splitter) : (s.modSplitter n f).bells = s.bells := rfl
@[simp] theorem State.modSplitter_mbx (n : Nat) (f : Splitter → Splitter) : (s.modSplitter n f).mbx = s.mbx := rfl
@[simp] theorem State.modSplitter_iga (n : Nat) (f : Splitter → Splitter) : (s.modSplitter n f).iga = s.iga := rfl
@[simp] theorem State.modSplitter_cfg (n : Nat) (f : Splitter → Splitter) : (s.modSplitter n f).cfg = s.cfg := rfl
@[simp] theorem State.modSplitter_live (n : Nat) (f : Splitter → Splitter) : (s.modSplitter n f).live = s.live := rfl
@[simp] theorem State.modSplitter_cpb (n : Nat) (f : Splitter → Splitter) : (s.modSplitter n f).cpb = s.cpb := rfl
@[simp] theorem State.modSplitter_mgmt (n : Nat) (f : Splitter → Splitter) : (s.modSplitter n f).mgmt = s.mgmt := rfl
@[simp] theorem State.modSplitter_dmes (n : Nat) (f : Splitter → Splitter) : (s.modSplitter n f).dmes = s.dmes := rfl
@[simp] theorem State.modSplitter_ctxs (n : Nat) (f : Splitter → Splitter) : (s.modSplitter n f).ctxs = s.ctxs := rfl
@[simp] theorem State.modSplitter_parts (n : Nat) (f : Splitter → Splitter) : (s.modSplitter n f).parts = s.parts := rfl
@[simp] theorem State.modSplitter_queues (n : Nat) (f : Splitter → Splitter) : (s.modSplitter n f).queues = s.queues := rfl
@[simp] theorem State.modSplitter_qe (n : Nat) (f : Splitter → Splitter) : (s.modSplitter n f).qe = s.qe := rfl
@[simp] theorem State.modSplitter_tasks (n : Nat) (f : Splitter → Splitter) : (s.modSplitter n f).tasks = s.tasks := rfl
@[simp] theorem State.modSplitter_epoch (n : Nat) (f : Splitter → Splitter) : (s.modSplitter n f).epoch = s.epoch := rfl
@[simp] theorem State.modSplitter_parseNo (n : Nat) (f : Splitter → Splitter) : (s.modSplitter n f).parseNo = s.parseNo := rfl
@[simp] theorem State.modSplitter_sync (n : Nat) (f : Splitter → Splitter) : (s.modSplitter n f).sync = s.sync := rfl
@[simp] theorem State.modSplitter_dbg (n : Nat) (f : Splitter → Splitter) : (s.modSplitter n f).dbg = s.dbg := rfl
@[simp] theorem State.modSplitter_splitters (n : Nat) (f : Splitter → Splitter) : (s.modSplitter n f).splitters = lmod s.splitters n f := rfl
@[simp] theorem State.modSplitter_nibs (n : Nat) (f : Splitter → Splitter) : (s.modSplitter n f).nibs = s.nibs := rfl
@[simp] theorem State.modSplitter_xlat (n : Nat) (f : Splitter → Splitter) : (s.modSplitter n f).xlat = s.xlat := rfl
@[simp] theorem State.modSplitter_mip (n : Nat) (f : Splitter → Splitter) : (s.modSplitter n f).mip = s.mip := rfl
@[simp] theorem State.modSplitter_feed (n : Nat) (f : Splitter → Splitter) : (s.modSplitter n f).feed = s.feed := rfl
@[simp] theorem State.modSplitter_flt (n : Nat) (f : Splitter → Splitter) : (s.modSplitter n f).flt = s.flt := rfl
@[simp] theorem State.modSplitter_mir (n : Nat) (f : Splitter → Splitter) : (s.modSplitter n f).mir = s.mir := rfl
@[simp] theorem State.modSplitter_power (n : Nat) (f : Splitter → Splitter) : (s.modSplitter n f).power = s.power := rfl

@[simp] theorem State.modRail_pending (g : Nat) (f : Rail → Rail) : (s.modRail g f).pending = s.pending := rfl
@[simp] theorem State.modRail_build (g : Nat) (f : Rail → Rail) : (s.modRail g f).build = s.build := rfl
@[simp] theorem State.modRail_ductus (g : Nat) (f : Rail → Rail) : (s.modRail g f).ductus = s.ductus := rfl
@[simp] theorem State.modRail_trace (g : Nat) (f : Rail → Rail) : (s.modRail g f).trace = s.trace := rfl
@[simp] theorem State.modRail_htp (g : Nat) (f : Rail → Rail) : (s.modRail g f).htp = s.htp := rfl
@[simp] theorem State.modRail_bells (g : Nat) (f : Rail → Rail) : (s.modRail g f).bells = s.bells := rfl
@[simp] theorem State.modRail_mbx (g : Nat) (f : Rail → Rail) : (s.modRail g f).mbx = s.mbx := rfl
@[simp] theorem State.modRail_iga (g : Nat) (f : Rail → Rail) : (s.modRail g f).iga = s.iga := rfl
@[simp] theorem State.modRail_cfg (g : Nat) (f : Rail → Rail) : (s.modRail g f).cfg = s.cfg := rfl
@[simp] theorem State.modRail_live (g : Nat) (f : Rail → Rail) : (s.modRail g f).live = s.live := rfl
@[simp] theorem State.modRail_cpb (g : Nat) (f : Rail → Rail) : (s.modRail g f).cpb = s.cpb := rfl
@[simp] theorem State.modRail_mgmt (g : Nat) (f : Rail → Rail) : (s.modRail g f).mgmt = s.mgmt := rfl
@[simp] theorem State.modRail_dmes (g : Nat) (f : Rail → Rail) : (s.modRail g f).dmes = s.dmes := rfl
@[simp] theorem State.modRail_ctxs (g : Nat) (f : Rail → Rail) : (s.modRail g f).ctxs = s.ctxs := rfl
@[simp] theorem State.modRail_parts (g : Nat) (f : Rail → Rail) : (s.modRail g f).parts = s.parts := rfl
@[simp] theorem State.modRail_queues (g : Nat) (f : Rail → Rail) : (s.modRail g f).queues = s.queues := rfl
@[simp] theorem State.modRail_qe (g : Nat) (f : Rail → Rail) : (s.modRail g f).qe = s.qe := rfl
@[simp] theorem State.modRail_tasks (g : Nat) (f : Rail → Rail) : (s.modRail g f).tasks = s.tasks := rfl
@[simp] theorem State.modRail_epoch (g : Nat) (f : Rail → Rail) : (s.modRail g f).epoch = s.epoch := rfl
@[simp] theorem State.modRail_parseNo (g : Nat) (f : Rail → Rail) : (s.modRail g f).parseNo = s.parseNo := rfl
@[simp] theorem State.modRail_sync (g : Nat) (f : Rail → Rail) : (s.modRail g f).sync = s.sync := rfl
@[simp] theorem State.modRail_dbg (g : Nat) (f : Rail → Rail) : (s.modRail g f).dbg = s.dbg := rfl
@[simp] theorem State.modRail_splitters (g : Nat) (f : Rail → Rail) : (s.modRail g f).splitters = s.splitters := rfl
@[simp] theorem State.modRail_nibs (g : Nat) (f : Rail → Rail) : (s.modRail g f).nibs = s.nibs := rfl
@[simp] theorem State.modRail_xlat (g : Nat) (f : Rail → Rail) : (s.modRail g f).xlat = s.xlat := rfl
@[simp] theorem State.modRail_mip (g : Nat) (f : Rail → Rail) : (s.modRail g f).mip = s.mip := rfl
@[simp] theorem State.modRail_feed (g : Nat) (f : Rail → Rail) : (s.modRail g f).feed = { s.feed with rails := lmod s.feed.rails g f } := rfl
@[simp] theorem State.modRail_flt (g : Nat) (f : Rail → Rail) : (s.modRail g f).flt = s.flt := rfl
@[simp] theorem State.modRail_mir (g : Nat) (f : Rail → Rail) : (s.modRail g f).mir = s.mir := rfl
@[simp] theorem State.modRail_power (g : Nat) (f : Rail → Rail) : (s.modRail g f).power = s.power := rfl

@[simp] theorem State.modBox_pending (n : Nat) (f : Mailbox → Mailbox) : (s.modBox n f).pending = s.pending := rfl
@[simp] theorem State.modBox_build (n : Nat) (f : Mailbox → Mailbox) : (s.modBox n f).build = s.build := rfl
@[simp] theorem State.modBox_ductus (n : Nat) (f : Mailbox → Mailbox) : (s.modBox n f).ductus = s.ductus := rfl
@[simp] theorem State.modBox_trace (n : Nat) (f : Mailbox → Mailbox) : (s.modBox n f).trace = s.trace := rfl
@[simp] theorem State.modBox_htp (n : Nat) (f : Mailbox → Mailbox) : (s.modBox n f).htp = s.htp := rfl
@[simp] theorem State.modBox_bells (n : Nat) (f : Mailbox → Mailbox) : (s.modBox n f).bells = s.bells := rfl
@[simp] theorem State.modBox_mbx (n : Nat) (f : Mailbox → Mailbox) : (s.modBox n f).mbx = { s.mbx with boxes := lmod s.mbx.boxes n f } := rfl
@[simp] theorem State.modBox_iga (n : Nat) (f : Mailbox → Mailbox) : (s.modBox n f).iga = s.iga := rfl
@[simp] theorem State.modBox_cfg (n : Nat) (f : Mailbox → Mailbox) : (s.modBox n f).cfg = s.cfg := rfl
@[simp] theorem State.modBox_live (n : Nat) (f : Mailbox → Mailbox) : (s.modBox n f).live = s.live := rfl
@[simp] theorem State.modBox_cpb (n : Nat) (f : Mailbox → Mailbox) : (s.modBox n f).cpb = s.cpb := rfl
@[simp] theorem State.modBox_mgmt (n : Nat) (f : Mailbox → Mailbox) : (s.modBox n f).mgmt = s.mgmt := rfl
@[simp] theorem State.modBox_dmes (n : Nat) (f : Mailbox → Mailbox) : (s.modBox n f).dmes = s.dmes := rfl
@[simp] theorem State.modBox_ctxs (n : Nat) (f : Mailbox → Mailbox) : (s.modBox n f).ctxs = s.ctxs := rfl
@[simp] theorem State.modBox_parts (n : Nat) (f : Mailbox → Mailbox) : (s.modBox n f).parts = s.parts := rfl
@[simp] theorem State.modBox_queues (n : Nat) (f : Mailbox → Mailbox) : (s.modBox n f).queues = s.queues := rfl
@[simp] theorem State.modBox_qe (n : Nat) (f : Mailbox → Mailbox) : (s.modBox n f).qe = s.qe := rfl
@[simp] theorem State.modBox_tasks (n : Nat) (f : Mailbox → Mailbox) : (s.modBox n f).tasks = s.tasks := rfl
@[simp] theorem State.modBox_epoch (n : Nat) (f : Mailbox → Mailbox) : (s.modBox n f).epoch = s.epoch := rfl
@[simp] theorem State.modBox_parseNo (n : Nat) (f : Mailbox → Mailbox) : (s.modBox n f).parseNo = s.parseNo := rfl
@[simp] theorem State.modBox_sync (n : Nat) (f : Mailbox → Mailbox) : (s.modBox n f).sync = s.sync := rfl
@[simp] theorem State.modBox_dbg (n : Nat) (f : Mailbox → Mailbox) : (s.modBox n f).dbg = s.dbg := rfl
@[simp] theorem State.modBox_splitters (n : Nat) (f : Mailbox → Mailbox) : (s.modBox n f).splitters = s.splitters := rfl
@[simp] theorem State.modBox_nibs (n : Nat) (f : Mailbox → Mailbox) : (s.modBox n f).nibs = s.nibs := rfl
@[simp] theorem State.modBox_xlat (n : Nat) (f : Mailbox → Mailbox) : (s.modBox n f).xlat = s.xlat := rfl
@[simp] theorem State.modBox_mip (n : Nat) (f : Mailbox → Mailbox) : (s.modBox n f).mip = s.mip := rfl
@[simp] theorem State.modBox_feed (n : Nat) (f : Mailbox → Mailbox) : (s.modBox n f).feed = s.feed := rfl
@[simp] theorem State.modBox_flt (n : Nat) (f : Mailbox → Mailbox) : (s.modBox n f).flt = s.flt := rfl
@[simp] theorem State.modBox_mir (n : Nat) (f : Mailbox → Mailbox) : (s.modBox n f).mir = s.mir := rfl
@[simp] theorem State.modBox_power (n : Nat) (f : Mailbox → Mailbox) : (s.modBox n f).power = s.power := rfl

@[simp] theorem State.modDme_pending (d : Nat) (f : Dme → Dme) : (s.modDme d f).pending = s.pending := rfl
@[simp] theorem State.modDme_build (d : Nat) (f : Dme → Dme) : (s.modDme d f).build = s.build := rfl
@[simp] theorem State.modDme_ductus (d : Nat) (f : Dme → Dme) : (s.modDme d f).ductus = s.ductus := rfl
@[simp] theorem State.modDme_trace (d : Nat) (f : Dme → Dme) : (s.modDme d f).trace = s.trace := rfl
@[simp] theorem State.modDme_htp (d : Nat) (f : Dme → Dme) : (s.modDme d f).htp = s.htp := rfl
@[simp] theorem State.modDme_bells (d : Nat) (f : Dme → Dme) : (s.modDme d f).bells = s.bells := rfl
@[simp] theorem State.modDme_mbx (d : Nat) (f : Dme → Dme) : (s.modDme d f).mbx = s.mbx := rfl
@[simp] theorem State.modDme_iga (d : Nat) (f : Dme → Dme) : (s.modDme d f).iga = s.iga := rfl
@[simp] theorem State.modDme_cfg (d : Nat) (f : Dme → Dme) : (s.modDme d f).cfg = s.cfg := rfl
@[simp] theorem State.modDme_live (d : Nat) (f : Dme → Dme) : (s.modDme d f).live = s.live := rfl
@[simp] theorem State.modDme_cpb (d : Nat) (f : Dme → Dme) : (s.modDme d f).cpb = s.cpb := rfl
@[simp] theorem State.modDme_mgmt (d : Nat) (f : Dme → Dme) : (s.modDme d f).mgmt = s.mgmt := rfl
@[simp] theorem State.modDme_dmes (d : Nat) (f : Dme → Dme) : (s.modDme d f).dmes = lmod s.dmes d f := rfl
@[simp] theorem State.modDme_ctxs (d : Nat) (f : Dme → Dme) : (s.modDme d f).ctxs = s.ctxs := rfl
@[simp] theorem State.modDme_parts (d : Nat) (f : Dme → Dme) : (s.modDme d f).parts = s.parts := rfl
@[simp] theorem State.modDme_queues (d : Nat) (f : Dme → Dme) : (s.modDme d f).queues = s.queues := rfl
@[simp] theorem State.modDme_qe (d : Nat) (f : Dme → Dme) : (s.modDme d f).qe = s.qe := rfl
@[simp] theorem State.modDme_tasks (d : Nat) (f : Dme → Dme) : (s.modDme d f).tasks = s.tasks := rfl
@[simp] theorem State.modDme_epoch (d : Nat) (f : Dme → Dme) : (s.modDme d f).epoch = s.epoch := rfl
@[simp] theorem State.modDme_parseNo (d : Nat) (f : Dme → Dme) : (s.modDme d f).parseNo = s.parseNo := rfl
@[simp] theorem State.modDme_sync (d : Nat) (f : Dme → Dme) : (s.modDme d f).sync = s.sync := rfl
@[simp] theorem State.modDme_dbg (d : Nat) (f : Dme → Dme) : (s.modDme d f).dbg = s.dbg := rfl
@[simp] theorem State.modDme_splitters (d : Nat) (f : Dme → Dme) : (s.modDme d f).splitters = s.splitters := rfl
@[simp] theorem State.modDme_nibs (d : Nat) (f : Dme → Dme) : (s.modDme d f).nibs = s.nibs := rfl
@[simp] theorem State.modDme_xlat (d : Nat) (f : Dme → Dme) : (s.modDme d f).xlat = s.xlat := rfl
@[simp] theorem State.modDme_mip (d : Nat) (f : Dme → Dme) : (s.modDme d f).mip = s.mip := rfl
@[simp] theorem State.modDme_feed (d : Nat) (f : Dme → Dme) : (s.modDme d f).feed = s.feed := rfl
@[simp] theorem State.modDme_flt (d : Nat) (f : Dme → Dme) : (s.modDme d f).flt = s.flt := rfl
@[simp] theorem State.modDme_mir (d : Nat) (f : Dme → Dme) : (s.modDme d f).mir = s.mir := rfl
@[simp] theorem State.modDme_power (d : Nat) (f : Dme → Dme) : (s.modDme d f).power = s.power := rfl

@[simp] theorem State.latchAll_pending (f : Dme → Dme) : (s.latchAll f).pending = s.pending := rfl
@[simp] theorem State.latchAll_build (f : Dme → Dme) : (s.latchAll f).build = s.build := rfl
@[simp] theorem State.latchAll_ductus (f : Dme → Dme) : (s.latchAll f).ductus = s.ductus := rfl
@[simp] theorem State.latchAll_trace (f : Dme → Dme) : (s.latchAll f).trace = s.trace := rfl
@[simp] theorem State.latchAll_htp (f : Dme → Dme) : (s.latchAll f).htp = s.htp := rfl
@[simp] theorem State.latchAll_bells (f : Dme → Dme) : (s.latchAll f).bells = s.bells := rfl
@[simp] theorem State.latchAll_mbx (f : Dme → Dme) : (s.latchAll f).mbx = s.mbx := rfl
@[simp] theorem State.latchAll_iga (f : Dme → Dme) : (s.latchAll f).iga = s.iga := rfl
@[simp] theorem State.latchAll_cfg (f : Dme → Dme) : (s.latchAll f).cfg = s.cfg := rfl
@[simp] theorem State.latchAll_live (f : Dme → Dme) : (s.latchAll f).live = s.live := rfl
@[simp] theorem State.latchAll_cpb (f : Dme → Dme) : (s.latchAll f).cpb = s.cpb := rfl
@[simp] theorem State.latchAll_mgmt (f : Dme → Dme) : (s.latchAll f).mgmt = s.mgmt := rfl
@[simp] theorem State.latchAll_dmes (f : Dme → Dme) : (s.latchAll f).dmes = s.dmes.map f := rfl
@[simp] theorem State.latchAll_ctxs (f : Dme → Dme) : (s.latchAll f).ctxs = s.ctxs := rfl
@[simp] theorem State.latchAll_parts (f : Dme → Dme) : (s.latchAll f).parts = s.parts := rfl
@[simp] theorem State.latchAll_queues (f : Dme → Dme) : (s.latchAll f).queues = s.queues := rfl
@[simp] theorem State.latchAll_qe (f : Dme → Dme) : (s.latchAll f).qe = s.qe := rfl
@[simp] theorem State.latchAll_tasks (f : Dme → Dme) : (s.latchAll f).tasks = s.tasks := rfl
@[simp] theorem State.latchAll_epoch (f : Dme → Dme) : (s.latchAll f).epoch = s.epoch := rfl
@[simp] theorem State.latchAll_parseNo (f : Dme → Dme) : (s.latchAll f).parseNo = s.parseNo := rfl
@[simp] theorem State.latchAll_sync (f : Dme → Dme) : (s.latchAll f).sync = s.sync := rfl
@[simp] theorem State.latchAll_dbg (f : Dme → Dme) : (s.latchAll f).dbg = s.dbg := rfl
@[simp] theorem State.latchAll_splitters (f : Dme → Dme) : (s.latchAll f).splitters = s.splitters := rfl
@[simp] theorem State.latchAll_nibs (f : Dme → Dme) : (s.latchAll f).nibs = s.nibs := rfl
@[simp] theorem State.latchAll_xlat (f : Dme → Dme) : (s.latchAll f).xlat = s.xlat := rfl
@[simp] theorem State.latchAll_mip (f : Dme → Dme) : (s.latchAll f).mip = s.mip := rfl
@[simp] theorem State.latchAll_feed (f : Dme → Dme) : (s.latchAll f).feed = s.feed := rfl
@[simp] theorem State.latchAll_flt (f : Dme → Dme) : (s.latchAll f).flt = s.flt := rfl
@[simp] theorem State.latchAll_mir (f : Dme → Dme) : (s.latchAll f).mir = s.mir := rfl
@[simp] theorem State.latchAll_power (f : Dme → Dme) : (s.latchAll f).power = s.power := rfl

end Sys2Proof.Machine
end

