-- ==== Sys2Proof/Laws/Tables.lean ====
section
/-! SUPPORT. Laws of the sparse tables: what a key reads after an entry is set, removed or changed. -/

namespace Sys2Proof.Machine

open Sys2Proof

variable {α : Type}

@[simp] theorem tget_nil (n : Nat) : tget ([] : Tbl α) n = none := rfl

/-- An entry set reads back. -/
@[simp] theorem tget_tset_self (t : Tbl α) (n : Nat) (v : α) : tget (tset t n v) n = some v := by
  induction t with
  | nil => simp [tset, tget]
  | cons e r ih =>
    obtain ⟨k, w⟩ := e
    simp only [tset]
    split
    · simp [tget]
    · split
      · simp [tget]
      · simp [tget, *]

/-- Another key keeps its entry when one is set. -/
theorem tget_tset_of_ne (t : Tbl α) {n m : Nat} (v : α) (h : m ≠ n) : tget (tset t n v) m = tget t m := by
  induction t with
  | nil => simp [tset, tget, Ne.symm h]
  | cons e r ih =>
    obtain ⟨k, w⟩ := e
    simp only [tset]
    split
    · simp [tget, Ne.symm h]
    · split
      · next hk => subst hk; simp [tget, Ne.symm h]
      · simp [tget, ih]

/-- Another key keeps its entry when one is removed. -/
theorem tget_tdel_of_ne (t : Tbl α) {n m : Nat} (h : m ≠ n) : tget (tdel t n) m = tget t m := by
  induction t with
  | nil => rfl
  | cons e r ih =>
    obtain ⟨k, w⟩ := e
    simp only [tdel]
    split
    · next hk => subst hk; simp [tget, Ne.symm h]
    · simp [tget, ih]

/-- A key's entry changed. -/
theorem tget_tmod_self (t : Tbl α) (n : Nat) (f : α → α) : tget (tmod t n f) n = (tget t n).map f := by
  induction t with
  | nil => rfl
  | cons e r ih =>
    obtain ⟨k, w⟩ := e
    simp only [tmod]
    split
    · simp_all [tget]
    · simp_all [tget]

/-- Another key keeps its entry when one is changed. -/
theorem tget_tmod_of_ne (t : Tbl α) {n m : Nat} (f : α → α) (h : m ≠ n) : tget (tmod t n f) m = tget t m := by
  induction t with
  | nil => rfl
  | cons e r ih =>
    obtain ⟨k, w⟩ := e
    simp only [tmod]
    split
    · next hk => subst hk; simp [tget, Ne.symm h]
    · simp [tget, ih]

/-- Every entry changed. -/
theorem tget_tmap (t : Tbl α) (f : Nat → α → α) (n : Nat) : tget (tmap t f) n = (tget t n).map (f n) := by
  induction t with
  | nil => rfl
  | cons e r ih =>
    obtain ⟨k, w⟩ := e
    simp only [tmap, List.map_cons, tget]
    split
    · simp_all
    · exact ih

/-- What `takeFirst` takes is accepted, and was in the list. -/
theorem takeFirst_some {ok : α → Bool} {l rest : List α} {a : α} (h : takeFirst ok l = some (a, rest)) :
    ok a = true ∧ a ∈ l := by
  induction l generalizing rest with
  | nil => simp [takeFirst] at h
  | cons x r ih =>
    simp only [takeFirst] at h
    split at h
    · simp only [Option.some.injEq, Prod.mk.injEq] at h
      obtain ⟨rfl, -⟩ := h
      exact ⟨‹_›, List.mem_cons_self ..⟩
    · simp only [Option.map_eq_some_iff, Prod.mk.injEq, Prod.exists] at h
      obtain ⟨b, l', h', rfl, -⟩ := h
      exact ⟨(ih h').1, List.mem_cons_of_mem _ (ih h').2⟩

end Sys2Proof.Machine
end

