-- ==== Sys2Proof/WellFormed.lean ====
section
/-! DEFINITION. Well-formed commands: every operand lies in the range that the spec gives its field. A meaning is defined on an
ill-formed command too (an index outside the block names nothing). -/

namespace Sys2Proof

/-- A splitter of a build (R2, R496). -/
def isSplitter (n : Nat) : Bool := decide (n < 32)

/-- A Nib ID, or a position in a placement (R2, R496). -/
def isNib (n : Nat) : Bool := decide (n < 256)

/-- A child on Yarn (R497). -/
def isChild : YarnChild → Bool
  | .splitter sp => isSplitter sp
  | .nib n => isNib n

/-- A block of the package (R1). -/
def isBlock : BlockId → Bool
  | .hub => true
  | .splitter sp => isSplitter sp
  | .nib n => isNib n

/-- A rail group (R362). -/
def isGroup (n : Nat) : Bool := decide (n < 16)

/-- A level of a rail group (R363). -/
def isLevel (n : Nat) : Bool := decide (n < 16)

/-- An agent of the Host Target Port (R498). -/
def isAgent (n : Nat) : Bool := decide (n < 16)

/-- HREQ_SIZE of an access that R67 may accept (R498). -/
def isSize (n : Nat) : Bool := decide (2 ≤ n) && decide (n ≤ 6)

/-- An offset in the control aperture of 16 MiB (R526). -/
def isOffset (n : Nat) : Bool := decide (n < 2 ^ 24)

/-- A mailbox (R526). -/
def isBox (n : Nat) : Bool := decide (n < 16)

/-- A target of the Gatherer (R416). -/
def isTarget (n : Nat) : Bool := decide (n < 32)

/-- A queue ID (R163). -/
def isQueue (n : Nat) : Bool := decide (n < 2 ^ 20)

/-- A Dispatch Microengine (R2). -/
def isDme (n : Nat) : Bool := decide (n < 8)

/-- A context slot (R139). -/
def isSlot (n : Nat) : Bool := decide (n < 1024)

/-- A core of a Nib (R446). -/
def isCore (n : Nat) : Bool := decide (n < 16)

/-- An engine queue of a core (R446). -/
def isEq (n : Nat) : Bool := decide (n < 24)

/-- An invalidation tag of the Translation Port, or the one of a context's release (R507, R154; log 14). -/
def isItag (n : Nat) : Bool := decide (n < 32) || (decide (1000 ≤ n) && decide (n < 2024))

/-- A partition (R156). -/
def isPartition (n : Nat) : Bool := decide (n < 64)

/-- A barrier identifier (R343). -/
def isBarrier (n : Nat) : Bool := decide (1 ≤ n) && decide (n < 2 ^ 32)

/-- A PASID, 20 bits wide (R143). -/
def isPasid (n : Nat) : Bool := decide (n < 2 ^ 20)

/-- Whether a command's operands lie in their ranges. -/
def Instr.wellFormed : Instr → Bool
  | .deviceReset => true
  | .hubReset => true
  | .splitterReset sp => isSplitter sp
  | .nibReset nib _ _ => isNib nib
  | .refclkOk => true
  | .epochPEdge => true
  | .epochMissed => true
  | .coolantFault => true
  | .ylinkDown link => isChild link
  | .testMode block _ => isBlock block
  | .keyDelivery kind _ => decide (kind < 3)
  | .dNowReport gbs => decide (gbs < 2 ^ 20)
  | .powerStepAck group level trim => isGroup group && isLevel level && decide (trim < 13)
  | .powerStepRetry group => isGroup group
  | .senseSample kind group _ => decide (kind < 5) && isGroup group
  | .senseTick => true
  | .mirrorLinkDown => true
  | .nclkChange nib level => isNib nib && isLevel level
  | .controlRegisterWrite agent offset size _ => isAgent agent && isOffset offset && isSize size
  | .htpRefusedAccess agent _ offset size _ => isAgent agent && isOffset offset && decide (size < 8)
  | .lowHalfRead agent offset => isAgent agent && isOffset offset
  | .ducTimeLoRead agent => isAgent agent
  | .readClearRegister agent offset => isAgent agent && isOffset offset
  | .doorbellWrite offset size _ => decide (offset < 2 ^ 26) && decide (size < 8)
  | .mbxAcquire agent n _ => isAgent agent && isBox n
  | .mbxRelease agent n _ => isAgent agent && isBox n
  | .mbxDoorbell agent n _ => isAgent agent && isBox n
  | .mbxAck agent n _ => isAgent agent && isBox n
  | .mbxForceFree agent _ => isAgent agent
  | .mbxInkWrite agent n _ => isAgent agent && isBox n
  | .mbxDataWrite agent offset size _ => isAgent agent && decide (offset < 0x1000) && isSize size
  | .inkwellHostWrite agent offset size _ => isAgent agent && decide (offset < 0x100000) && isSize size
  | .inkwellSlotConsume _ _ => true
  | .inkwellSlotToHost _ payload => decide (payload.length ≤ 4032)
  | .inkTimeout _ => true
  | .synWindowWrite agent index _ => isAgent agent && decide (index < 32768)
  | .ducArmWrite agent _ => isAgent agent
  | .ducTraceEnable agent _ => isAgent agent
  | .ducTraceDisable agent _ => isAgent agent
  | .traceFlushDone => true
  | .timeSyncRecord => true
  | .traceRecordArrival source => (match source with | none => true | some n => isNib n)
  | .traceWriteVisible => true
  | .alignmentRound child probes => isChild child && probes.length == 4
  | .alignOffsetReceived child => isChild child
  | .cfgSealWrite agent _ => isAgent agent
  | .sealCheckDone => true
  | .cfgLaunchEnWrite agent _ => isAgent agent
  | .cpbStart agent _ => isAgent agent
  | .bootCheckDone => true
  | .fltResetWrite agent _ => isAgent agent
  | .warmReset => true
  | .mirFailoverAck agent _ => isAgent agent
  | .mirRejoin agent _ => isAgent agent
  | .mirHubReset agent _ => isAgent agent
  | .dbgStopArm agent _ _ => isAgent agent
  | .dbgResume agent _ => isAgent agent
  | .stopCountReached _ => true
  | .dbgSyncGo agent _ => isAgent agent
  | .dbgNfCountRead agent => isAgent agent
  | .dbgSyncFaultCountRead agent => isAgent agent
  | .igaClaim agent target => isAgent agent && isTarget target
  | .igaComplete agent target _ => isAgent agent && isTarget target
  | .igaSwSet agent _ => isAgent agent
  | .igaSwClr agent _ => isAgent agent
  | .feedQeSelWrite agent _ => isAgent agent
  | .queueEnergyReady => true
  | .feedTrimWrite agent group _ => isAgent agent && isGroup group
  | .managementCoreTake _ _ => true
  | .bootHello _ => true
  | .adminQueueSetup _ => true
  | .cfgLoadTable _ => true
  | .cfgQuery _ => true
  | .ctxCastOn _ => true
  | .ctxBindOff _ => true
  | .ctxQuery _ => true
  | .eventAlloc _ => true
  | .eventFree _ => true
  | .queueCreate _ => true
  | .queueDisable _ => true
  | .queueEnable _ => true
  | .queueDestroy _ => true
  | .queueQuery _ => true
  | .patternRegister _ => true
  | .patternGroupRegister _ => true
  | .patternUnregister _ => true
  | .partCreate _ => true
  | .partDestroy _ => true
  | .partQuery _ => true
  | .queryClocks _ => true
  | .queryTemps _ => true
  | .queryLimits _ => true
  | .traceControlConfigure _ => true
  | .traceControlEnable _ => true
  | .traceControlDisable _ => true
  | .fwStage _ => true
  | .fwActivate _ => true
  | .exchangeDrained => true
  | .exchangeSwitched => true
  | .recoverQueueReset _ => true
  | .queueResetDone q => isQueue q
  | .recoverNibReinit _ => true
  | .nibReinitDone nib _ _ _ => isNib nib
  | .recoverWarmReset _ => true
  | .recoverFailover _ => true
  | .mcWatchdog => true
  | .deviceFault bit _ => decide (bit < 5)
  | .microcodeFault dme _ space address => isDme dme && decide (space < 2) && decide (address < 2 ^ 15)
  | .dmeEventService dme _ _ => isDme dme
  | .bindOffDeadline slot => isSlot slot
  | .contextRelease slot => isSlot slot
  | .doorbellTake => true
  | .queueRecordLoaded q => isQueue q
  | .queueEviction => true
  | .tailWordReturn q _ => isQueue q
  | .tailReread q => isQueue q
  | .ringEntryReturn q _ => isQueue q
  | .arbiterGrant => true
  | .queueTimeout q => isQueue q
  | .enqueueRequest sp => isSplitter sp
  | .slotReservationGrant q => isQueue q
  | .enqueueEntryWritten sp => isSplitter sp
  | .enqueueRefusedFull q => isQueue q
  | .cbReadReturn q _ => isQueue q
  | .bufferHeader q => isQueue q
  | .nop q => isQueue q
  | .chain q => isQueue q
  | .launch q => isQueue q
  | .launchDispatch dme => isDme dme
  | .launchReplay q => isQueue q
  | .replayMemberDispatch dme => isDme dme
  | .patchParams q => isQueue q
  | .setConstants q => isQueue q
  | .eventRecord q => isQueue q
  | .eventWait q => isQueue q
  | .syncOp q => isQueue q
  | .syncWait q => isQueue q
  | .barrier q => isQueue q
  | .writeImm q => isQueue q
  | .writeImmVisible _ _ => true
  | .hintPhase q => isQueue q
  | .fenceFetch q => isQueue q
  | .fenceFetchComplete q => isQueue q
  | .partControl q => isQueue q
  | .feedSet q => isQueue q
  | .traceSet q => isQueue q
  | .privWrite q => isQueue q
  | .syncConfig q => isQueue q
  | .scoreboardLateRegistration => true
  | .taskDoneAtHub sp => isSplitter sp
  | .writeBackResponse q _ => isQueue q
  | .splitterTaskPass sp => isSplitter sp
  | .splitterCompletion nib => isNib nib
  | .splitterWithdrawn nib => isNib nib
  | .splitterBarrierArrival nib => isNib nib
  | .nibTaskReceive nib => isNib nib
  | .stateSlotFilled nib slot => isNib nib && decide (slot < 4)
  | .constantsStaged nib tag _ => isNib nib && decide (tag < 65536)
  | .nibSwapIn nib => isNib nib
  | .stitcherEmit nib core => isNib nib && isCore core
  | .nibIssue nib => isNib nib
  | .completionToken nib core eq token => isNib nib && isCore core && isEq eq && token.length == 16
  | .residueReadAnswer nib => isNib nib
  | .nibWithdraw nib => isNib nib
  | .engineTranslateRequest nib core eq request => isNib nib && isCore core && isEq eq && request.length == 64
  | .engineSyncRequest nib core eq request => isNib nib && isCore core && isEq eq && request.length == 64
  | .engineEnqueueRequest nib core eq request => isNib nib && isCore core && isEq eq && request.length == 64
  | .translationCompletion tag status _ _ _ _ => decide (tag < 256) && decide (status < 8)
  | .translationTimeout tag => decide (tag < 256)
  | .invalidateRequest itag pasid _ _ _ => isItag itag && isPasid pasid
  | .nibInvalidation nib => isNib nib
  | .invalidateComplete itag => isItag itag
  | .abortTokenTimeout nib => isNib nib
  | .memoryResponseTimeout _ => true
  | .nibIdleToOff nib => isNib nib
  | .migrationTimer tag position => decide (tag < 65536) && isNib position
  | .withdrawAnswer sp => isSplitter sp
  | .withdrawDrainTimeout tag position => decide (tag < 65536) && isNib position
  | .memorySyncResponse _ _ => true
  | .watchPoll => true
  | .watchPollReturn slot _ => decide (slot < 4096)
  | .syncWaitLateRegister => true
  | .syncWaitExpiry _ => true
  | .barrierArrivalHub sp => isSplitter sp
  | .barrierPoll ident => isBarrier ident
  | .barrierPollReturn ident word _ => isBarrier ident && (match word with | none => true | some k => decide (k < 16))
  | .barrierInstanceTimeout ident => isBarrier ident
  | .barrierReleaseAtNib nib => isNib nib
  | .feedIntervalClose reports => decide (reports.length = 16)
  | .rampWindowStart => true
  | .calibrationTick => true
  | .trimCheck => true
  | .wakeRelease group => isGroup group
  | .nibWakeDone nib probes => isNib nib && probes.length == 4
  | .eqOpen nib => isNib nib
  | .hintRampStart partition => isPartition partition
  | .hubDozeEntry => true
  | .hubSleepEntry => true
  | .hubWake => true
  | .blotterWriteVisible => true
  | .mirrorRecordReceived _ => true
  | .mirrorAckReceived => true
  | .mirrorAckTimeout => true
  | .primaryHeartbeat => true
  | .primaryConfirm => true
  | .heartbeatTimeout => true
  | .failoverReqReceived cause _ => decide (2 ≤ cause) && decide (cause ≤ 4)
  | .splitterTakeoverRequest sp _ _ => isSplitter sp
  | .splitterGrantTimeout sp => isSplitter sp
  | .takeover => true
  | .partnerTakeoverSeen => true
  | .bulkCopyDone _ _ _ => true
  | .divergenceSweep _ => true
  | .splitterPhaseDone => true
  | .nibTrainingAttemptEnd nib _ splitter => isNib nib && isSplitter splitter
  | .syncRequestAtSyncUnit sp => isSplitter sp
  | .syncReplyAtNib nib => isNib nib
  | .enqueueReplyAtNib nib => isNib nib
  | .enqueueEntryWriteResponse nib _ => isNib nib
  | .eventStoreReadReturn slot event => isSlot slot && decide (event < 65536)
  | .nibUncorrectableError nib => isNib nib
  | .abortAtNib nib => isNib nib
  | .nibPowerUp nib => isNib nib
  | .splitterTrainingAttemptEnd sp _ => isSplitter sp
  | .takeoverRefused sp => isSplitter sp

end Sys2Proof
end

