-- ==== Sys2Proof/Tests/Slice0.lean ====
section
/-! SUPPORT. Tests: ill-formed commands, single steps, and for each statement with hypotheses a state and operands that meet
them. -/

namespace Sys2Proof.Tests

open Sys2Proof Sys2Proof.Machine

/-! ## A small device that runs -/

/-- Three Nibs below one splitter of two. -/
def small : Build := { Build.reference with nibs := 3, splitters := 2 }

/-- Feed limits of the small device. -/
def limits : FeedLimits :=
  { peakCapW := 1000, sustainedCapW := 900, baseW := 10, peakWindowUs := 10, rampBudget := 4, staggerNs := 100, eqOpenNs := 10,
    stepMinUs := 2, thermalLimit := 90, thermalHyst := 5, flowMin := 1, flowCapLevel := 2, bootLevel := 3, maxLevel := 15,
    fillClass := 7, fillPrewarm := 0, lendRetain := 0, downSlopeW := 1, fillBudgetUj := 10, fillDuration := 10, marginLow := 5,
    nclkMhz := List.replicate 16 1000, fillPayload := [], railGroup := [0, 0, 1] }

/-- An engine queue with four credits. -/
def eq0 : EngineQueue :=
  { credits := 4, cls := 0, opened := true, buf := [], out := [], nextSeq := 0, abort := none, abortSince := 0,
    abortWaiting := [], mop := [], reply := [] }

/-- A Nib with one core of two engine queues. -/
def nib0 : Nib :=
  { Nib.reset with
    link := .up, ports := [([4, 4], [0, 7])], firstReport := some (0, [([4, 4], [0, 7])]), power := .idle
    cores := [[eq0, eq0]], openCores := 1 }

/-- A splitter whose link is up. -/
def splitter0 : Splitter := { Splitter.reset with link := .up }

/-- A template of a macro-op, and a variant of one core and one point. -/
def template0 : Template :=
  { payload := List.replicate 32 0, slots := [], cls := 0, eq := 0, activity := 0, level := 0, exit := false, deps := [], duration := 1 }
def variant0 : Variant :=
  { targetNibs := 1, cores := 1, depth := 1, dmemBytes := 0, lookahead := 0, perEntry := false, trigLevel := 0, counts := [1],
    nibLevel := none, coreLevel := none, streams := [], templates := [template0], ops := [] }
def pattern0 : Pattern :=
  { storeEntry := 0, stateTag := 1, constMin := 0, paramUsed := 0, paramSigned := 0, bounds := [], variantNo := 0, body := variant0 }

/-- Handle of context slot 0 in generation 1. -/
def h0 : W32 := handleOf 0 1

/-- A kernel context with one event and one pattern. -/
def ctx0 : Ctx :=
  { Ctx.blank 1 false with
    state := .active, pasid := 5, partition := some 0, kernel := true, budget := 4, pages := [3]
    events := [(0, ⟨0, 0, 0, true⟩)], patterns := [(0, ⟨1, .pattern pattern0⟩)] }

/-- Queue 1, resident, with nothing in it. -/
def queue0 : Queue :=
  { Queue.created h0 with resident := true, dbPage := 3, ringBase := 0x10000, tailAddr := 0x20000, wbAddr := 0x30000 }

/-- A barrier of partition 0 without parent or children. -/
def skein0 : SkeinEntry :=
  { barrier := 7, partition := 0, children := 0, nibCores := 1, queueArrivals := 1, parent := none, timeoutUs := 100,
    startGen := 0, pasid := 5, upAddr := 0, releaseAddr := 0, arriveBase := 0, pairs := [], childDevice := [], childRelease := [] }

/-- The small device, sealed, with a partition of all its Nibs, a context and a queue. -/
def W : State :=
  let r := State.resetOf small
  let r : State := { r with
    ductus := { r.ductus with refOk := true, count := 5000000000 }
    cfg := { r.cfg with state := .sealed, ready := true, train := .done }
    live := { r.live with useNibs := [0, 1, 2], deliverable := 100, limits := some limits, skein := [skein0], sealed := true }
    cpb := { r.cpb with state := .running }
    mgmt := { r.mgmt with fwVersion := 0x0402, image := some ⟨0x0402, 1, []⟩ }
    power := { r.power with hubReleased := true, hclk := true }
    splitters := [splitter0, splitter0]
    nibs := [nib0, nib0, nib0] }
  { r with
    parts := [(0, { r.newPart [0, 1, 2] 100 50 with target := 0 })]
    ctxs := [(0, ctx0)]
    bells := { r.bells with binds := [(3, h0)] }
    queues := [(1, queue0)]
    qe := { r.qe with resident := [1] } }

/-- Zero bytes with fields (offset, length, value) set. -/
def build (n : Nat) (fields : List (Nat × Nat × Nat)) : List Byte :=
  fields.foldl (fun b f => b.take f.1 ++ leBytes f.2.1 f.2.2 ++ b.drop (f.1 + f.2.1)) (List.replicate n 0)

/-- A request of a Henpen command. -/
def req (command : Nat) (fields : List (Nat × Nat × Nat)) : List Byte :=
  build ((commandLen command).getD 0) ((0, 2, command) :: fields)

/-- The command in progress of mailbox 0. -/
def prog (command : Nat) (fields : List (Nat × Nat × Nat)) (bulk : List Byte) : Prog :=
  ⟨0, .mailbox 0, req command ((8, 4, bulk.length) :: fields), bulk, 0, 0, 0, false⟩

/-- A state in which a command is in progress on mailbox 0. -/
def inProg (s : State) (p : Prog) : State :=
  { s with
    mgmt := { s.mgmt with progs := [p], nextProg := 1 }
    mbx := { s.mbx with boxes := s.mbx.boxes.set 0 { Mailbox.reset with owner := 1, state := .busy, inkBase := 0, inkCount := 2 } } }

/-- A descriptor of one stream and one template. -/
def muand : List Byte :=
  build 512 [(0, 2, 0x0200), (4, 4, 512), (8, 1, 1), (0xE, 2, 1), (0x10, 4, 0x140), (0x48, 8, 0x1000),
    (0x140, 4, 192), (0x144, 2, 1), (0x146, 1, 1), (0x147, 1, 1), (0x148, 1, 1), (0x149, 1, 1), (0x14E, 1, 1), (0x150, 4, 1),
    (0x168, 2, 0xFFFF), (0x190, 4, 1), (0x1F8, 4, 1)]

/-- Context slots all retired. -/
def fullSlots : Tbl Ctx := (List.range 1024).map fun i => (i, Ctx.blank 1 true)

/-- An outstanding read. -/
def memReq (w : MemWait) (len : Nat) : MemReq := ⟨some w, .read, 5, some 0, 0x100, len, [], false, false, 0, false, []⟩

/-- A state in which one read is outstanding. -/
def asked (s : State) (w : MemWait) (len : Nat) : State := { s with mip := [memReq w len] }

/-- The device with queue 1 as given. -/
def withQ (x : Queue) : State := { W with queues := [(1, x)] }

/-- Whether the front command of queue 1 is of an opcode, has the bytes given, and passes every check of its parse. -/
def parsesIn (s : State) (opcode : Nat) (c5 : List Byte → List Check) (c6 : Sub → Nat → Ctx → List Byte → List Check)
    (b : List Byte) : Bool :=
  match s.front 1 with
  | some (x, u, slot, c) =>
    (match u.next (!x.kernel) with
      | some (some o, .ok l) => decide (o = opcode ∧ l = b.map some)
      | _ => false) && decide (firstFail (c5 b) = none ∧ lowestFail (c6 u slot c b) = none)
  | none => false

/-- Whether the front command of queue 1 fails a check before its bytes are read whole. -/
def failsIn (s : State) (row : Option Nat) (code : W16) : Bool :=
  match s.front 1 with
  | some (x, u, _, _) =>
    match u.next (!x.kernel) with
    | some (r, .error e) => decide (r = row ∧ e = code)
    | _ => false
  | none => false

/-- What `parsesIn` decides. -/
theorem parses_of_parsesIn (s : State) (opcode : Nat) (c5 : List Byte → List Check)
    (c6 : Sub → Nat → Ctx → List Byte → List Check) (b : List Byte) (h : parsesIn s opcode c5 c6 b = true) :
    ∃ x u slot c, s.parses 1 opcode c5 c6 x u slot c b := by
  unfold parsesIn at h
  split at h
  · rename_i x u slot c hf
    split at h
    · rename_i o l hn
      simp only [Bool.and_eq_true, decide_eq_true_eq] at h
      exact ⟨x, u, slot, c, hf, by rw [hn, h.1.1, h.1.2], h.2.1, h.2.2⟩
    · simp at h
  · simp at h

/-- What `failsIn` decides. -/
theorem fails_of_failsIn (s : State) (row : Option Nat) (code : W16) (h : failsIn s row code = true) :
    ∃ x u slot c, s.front 1 = some (x, u, slot, c) ∧ u.next (!x.kernel) = some (row, .error code) := by
  unfold failsIn at h
  split at h
  · rename_i x u slot c hf
    split at h
    · rename_i r e hn
      simp only [decide_eq_true_eq] at h
      exact ⟨x, u, slot, c, hf, by rw [hn, h.1, h.2]⟩
    · simp at h
  · simp at h

/-! ## Ill-formed commands and words -/

/-- An ill-formed command for each check of `Instr.wellFormed`. -/
def illFormed : List Instr :=
  [.splitterReset 32, .nibReset 256 0 [], .ylinkDown (.splitter 32), .ylinkDown (.nib 256), .testMode (.nib 256) none,
   .testMode (.splitter 32) none, .keyDelivery 3 [], .dNowReport (2 ^ 20), .powerStepAck 16 0 0, .powerStepAck 0 16 0,
   .powerStepAck 0 0 13, .senseSample 5 0 0, .controlRegisterWrite 16 0 2 0, .controlRegisterWrite 0 (2 ^ 24) 2 0,
   .controlRegisterWrite 0 0 7 0, .controlRegisterWrite 0 0 1 0, .htpRefusedAccess 0 false 0 8 0, .doorbellWrite (2 ^ 26) 3 0,
   .doorbellWrite 0 8 0, .mbxAcquire 0 16 0, .mbxDataWrite 0 0x1000 2 0, .inkwellHostWrite 0 0x100000 2 0,
   .inkwellSlotToHost 0 (List.replicate 4033 0), .synWindowWrite 0 32768 0, .traceRecordArrival (some 256),
   .alignmentRound (.nib 0) [], .igaClaim 0 32, .queueResetDone (2 ^ 20), .deviceFault 5 0, .microcodeFault 8 .ecc 0 0,
   .microcodeFault 0 .ecc 2 0, .microcodeFault 0 .ecc 0 (2 ^ 15), .bindOffDeadline 1024, .stateSlotFilled 0 4,
   .constantsStaged 0 65536 none, .stitcherEmit 0 16, .completionToken 0 0 24 (List.replicate 16 0), .completionToken 0 0 0 [],
   .engineSyncRequest 0 0 0 [], .translationCompletion 256 0 0 false false false, .translationCompletion 0 8 0 false false false,
   .invalidateRequest 999 0 false 0 false, .invalidateRequest 0 (2 ^ 20) false 0 false, .migrationTimer 65536 0,
   .watchPollReturn 4096 none, .barrierPoll 0, .barrierPollReturn 1 (some 16) none, .traceRecordArrival (some 300), .feedIntervalClose [],
   .hintRampStart 64, .failoverReqReceived 1 0, .failoverReqReceived 5 0, .eventStoreReadReturn 0 65536]

/-- The checks refuse them. -/
theorem test_ill_formed_refused : illFormed.all (fun c => !c.wellFormed) = true := by decide +kernel

/-- Commands at the limits of their fields are well formed. -/
theorem test_limits_well_formed :
    ([.splitterReset 31, .nibReset 255 0 [], .dNowReport (2 ^ 20 - 1), .powerStepAck 15 15 12, .igaClaim 15 31,
      .barrierPoll 1, .barrierPollReturn 1 (some 15) none, .deviceFault 4 0] : List Instr).all Instr.wellFormed = true := by
  decide +kernel

/-- The table's rows have no bits, so no word spells a command. -/
theorem test_no_word_spells (nbits w : Nat) : decodeTableWord nbits w = none := rfl

/-! ## Single steps, their results worked out from the spec -/

/-- MBX_ACQUIRE of a FREE mailbox makes the writer its owner, in IDLE (R81). -/
theorem test_mbxAcquire_free :
    (match exec (.mbxAcquire 6 5 0) W with
     | .next t => (t.mbx.boxes[5]?).map fun b => (b.owner, b.state)
     | _ => none) = some (6, MbxState.idle) := by decide +kernel

/-- MBX_ACQUIRE of a mailbox that is not FREE has no effect (R81). -/
theorem test_mbxAcquire_held :
    (match exec (.mbxAcquire 6 0 0) (inProg W (prog 0x0901 [] [])) with
     | .next t => (t.mbx.boxes[0]?).map fun b => (b.owner, b.state)
     | _ => none) = some (1, MbxState.busy) := by decide +kernel

/-- A later doorbell of one page and index replaces the tail of the pending entry, which keeps its place (R80). -/
theorem test_doorbell_replaces :
    (match exec (.doorbellWrite (3 * 4096) 3 7) { W with bells := { W.bells with catcher := [⟨3, 0, 1, h0, 0, false, false⟩, ⟨3, 1, 2, h0, 0, false, false⟩] } } with
     | .next t => t.bells.catcher.map fun d => (d.index, d.tail)
     | _ => []) = [(0, 7), (1, 2)] := by decide +kernel

/-- A window write sets its Sync SRAM word and no other (R329). -/
theorem test_synWindowWrite :
    (match exec (.synWindowWrite 0 32767 9) W with
     | .next t => (t.word 32767, t.word 32766)
     | _ => (0, 0)) = (9, 0) := by decide +kernel

/-- ADD is exact: below 0 and above 2^64 − 1 it fails (R326). -/
theorem test_syncAdd :
    (syncAdd 5 (-5), syncAdd 4 (-5), syncAdd (-1) 1, syncAdd (-2) 1) = (some 0, none, none, some (-1)) := by decide +kernel

/-- A wait on 0 for GE 0 holds; MASK compares the masked word (R326). -/
theorem test_syncHolds :
    (syncHolds 2 0 0 0, syncHolds 2 (-1) 1 0, syncHolds 2 1 (-1) 0, syncHolds 4 0x35 0x05 0x0F, syncHolds 3 1 2 0) =
      (true, true, false, true, false) := by decide +kernel

/-- A scalar program (R251): r1 := −8, r2 := 65, r3 := r1 >> 1 sign-filled (the count is 65 and 63), stored, and
min and max are signed. -/
theorem test_scalar_program :
    ({ ops := [⟨0x01, 1, 0, 0, -8⟩, ⟨0x01, 2, 0, 0, 65⟩, ⟨0x0A, 3, 1, 2, 0⟩, ⟨0x19, 0, 3, 0, 0⟩, ⟨0x0C, 4, 1, 2, 0⟩,
        ⟨0x19, 0, 4, 0, 1⟩, ⟨0x0D, 5, 1, 2, 0⟩, ⟨0x19, 0, 5, 0, 2⟩, ⟨0x00, 0, 0, 0, 0⟩, ⟨0x19, 0, 5, 0, 0⟩],
       param := fun _ => 0, idx := [], core := 0, pos := 0 } : ScalarEnv).go [0, 0, 0] = [-4, -8, 65] := by decide +kernel

/-- MOP_SEQ runs modulo 2^16 (R273). -/
theorem test_mopSeq_wraps (p : Packet) : ({ eq0 with nextSeq := 65535 }.issue p).nextSeq = 0 := by
  simp [EngineQueue.issue]

/-- A stray complete changes no state of a source; it is counted, and its number and target recorded (R408, R417). -/
theorem test_stray_complete :
    (match exec (.igaComplete 0 1 77) W with
     | .next t => (t.iga.stray, t.iga.strayLast, decide (t.iga.states = W.iga.states))
     | _ => (0, 0, false)) = (1, 1101, true) := by decide +kernel

/-- The ranges that an address field spells with the S bit (R506): 8 KiB, 16 KiB, and 4 KiB without it. -/
theorem test_atsRange :
    (atsRange 0x0000 true, atsRange 0x5000 true, atsRange 0x5000 false) = ((0, 0x2000), (0x4000, 0x4000), (0x5000, 0x1000)) := by
  decide +kernel

/-- Products in the field of AES, and its S-box, from FIPS 197 (R430). -/
theorem test_aes_field : (gfMul 0x57 0x83, sbox 0x53, sbox 0x00) = (0xC1, 0xED, 0x63) := by decide +kernel

/-- The first bytes of the SHA-384 digest of "abc", from FIPS 180-4 (R430). -/
theorem test_sha384_abc : (sha384 [0x61, 0x62, 0x63]).take 4 = [0xCB, 0x00, 0x75, 0x3F] := by decide +kernel

/-! ## Hypotheses of a full catcher -/

/-- A catcher of 4096 entries none of which is of index 511. -/
theorem witness_full_catcher :
    (¬∃ e ∈ List.replicate 4096 (⟨3, 510, 1, h0, 0, false, false⟩ : Doorbell), e.page = 3 ∧ e.index = 511) ∧
    4096 ≤ (List.replicate 4096 (⟨3, 510, 1, h0, 0, false, false⟩ : Doorbell)).length := by
  constructor
  · rintro ⟨e, he, _, h⟩
    rw [(List.mem_replicate.mp he).2] at h
    exact absurd h (by decide)
  · exact Nat.le_of_eq (List.length_replicate ..).symm

/-- Every entry of a table of one constant is that constant. -/
theorem tget_same {α : Type} (l : List Nat) (c : α) (k : Nat) (h : k ∈ l) : tget (l.map fun i => (i, c)) k = some c := by
  induction l with
  | nil => cases h
  | cons a r ih =>
    by_cases e : a = k
    · simp [tget, e]
    · simp only [List.map_cons, tget, e, if_false]
      exact ih ((List.mem_cons.mp h).resolve_left fun x => e x.symm)

/-- Where every slot is retired, no slot may be cast on. -/
theorem witness_no_open_slot (s : State) (h : s.ctxs = fullSlots) : s.openSlot = none := by
  unfold State.openSlot lowest
  rw [List.find?_eq_none]
  intro k hk
  simp [State.slotOpen, h, fullSlots, tget_same _ _ _ hk, Ctx.blank]

/-! ## Hypotheses that are met -/

theorem witness_StepRunsFront :
    (
      let s : State := { W with pending := [.epochPEdge, .epochMissed] };
      s.pending = .epochPEdge :: [.epochMissed]) :=
  by decide +kernel

theorem witness_IdleStepIsOneNanosecond :
    (
      let s : State := State.reset;
      s.pending = [] ∧ s.ductus.refOk = false) ∧
    (
      let s : State := { W with ductus := { W.ductus with phase := 38 } };
      s.pending = [] ∧ s.ductus.refOk = true ∧ s.ductus.phase < 39) ∧
    (
      let s : State := { W with ductus := { W.ductus with phase := 39 } };
      s.pending = [] ∧ s.ductus.refOk = true ∧ 39 ≤ s.ductus.phase ∧ s.ductus.slew = 0) ∧
    (
      let s : State := { W with ductus := { W.ductus with phase := 39, slew := 1 } };
      s.pending = [] ∧ s.ductus.refOk = true ∧ 39 ≤ s.ductus.phase ∧ 0 < s.ductus.slew) ∧
    (
      let s : State := { W with ductus := { W.ductus with phase := 39, slew := -1 } };
      s.pending = [] ∧ s.ductus.refOk = true ∧ 39 ≤ s.ductus.phase ∧ s.ductus.slew < 0) :=
  ⟨by decide +kernel, by decide +kernel, by decide +kernel, by decide +kernel, by decide +kernel⟩

theorem witness_EveryStepKeepsSafe :
    (State.Safe (State.resetOf small)) :=
  by decide +kernel

theorem witness_GathererAtReset :
    (
      let g : Iga := { W.iga with states := [(5, .pending)], cfg := [(5, ⟨0, 1⟩)] };
      (List.range 1024).all (fun n => decide ((g.cfgOf n).priority = 0)) = true) :=
  by decide +kernel

theorem witness_EligibilityRule :
    (
      let g : Iga := { W.iga with states := [(5, .pending)], cfg := [(5, ⟨1, 1⟩), (6, ⟨0, 1⟩)] };
      (g.cfgOf 6).priority = 0 ∧ g.stateOf 5 = .pending ∧ (g.cfgOf 5).targets.getLsbD 0 = true ∧ tgetD g.thresholds 0 0 < (g.cfgOf 5).priority) :=
  by decide +kernel

theorem witness_EndOfCommandFrame :
    (
      let s : State := W;
      (∀ e ∈ s.queues, ∀ u ∈ e.2.subs, u.cmds = []) ∧ (∀ e ∈ s.ctxs, e.2.state ≠ .bindingOff)) :=
  by decide +kernel

theorem witness_UnassignedOffsetsDoNothing :
    (
      let s : State := W;
      let a : HtpAccess := ⟨2, true, 0xA0000, 3, 77⟩;
      let r : HtpAccess := ⟨2, false, 0xFFFF8, 3, 0⟩;
      s.serves ∧ accessBytes a.size = some 8 ∧ a.write = true ∧ r.write = false ∧ (List.range 8).all (fun i => !assignedByte (a.offset + i) && !assignedByte (r.offset + i)) = true) :=
  by decide +kernel

theorem witness_RefusedAndHeldAccesses :
    (
      let s : State := W;
      s.serves ∧ 15 < 16 ∧ 0xFFFFFF < 2 ^ 24 ∧ accessBytes 7 = none) ∧
    (
      let s : State := W;
      s.serves ∧ accessBytes 4 = some 16 ∧ (List.range 16).any (fun i => assignedByte (0x30000 + i)) = true ∧ accepted 0x30000 16 = false) ∧
    (
      let s : State := State.reset;
      s.ductus.refOk = false) ∧
    (
      let s : State := { W with power := { W.power with hub := .doze } };
      let t : State := { s with htp := { s.htp with held := [⟨3, false, 0x20000, 2, 0⟩] } };
      s.ductus.refOk = true ∧ s.power.testMode = false ∧ s.awake = false ∧ 0x10000 ≤ 0x10000 ∧ (∃ b ∈ t.htp.held, b.agent = 3)) :=
  ⟨by decide +kernel, by decide +kernel, by decide +kernel, by decide +kernel⟩

theorem witness_PlainRegistersReadBack :
    (
      let s : State := W;
      s.serves ∧ 0x3FD < 0x3FE ∧ 31 < 32) :=
  by decide +kernel

theorem witness_SixtyFourBitRegisters :
    (
      let s : State := W;
      s.serves ∧ s.flt.en = false ∧ [0x50010, 0x90110, 0x90118].all (fun off => (s.reg64 off).isSome && decide (off % 8 = 0 ∧ off < 0xA0000) && assignedWord off) = true) :=
  by decide +kernel

theorem witness_TimeAndReadClearReads :
    (
      let s : State := { W with dbg := { W.dbg with nfCount := 3, syncFaults := 9 }, htp := { W.htp with discards := 7 } };
      s.serves) :=
  by decide +kernel

theorem witness_DoorbellCatcher :
    (
      let s : State := { W with bells := { W.bells with held := [⟨1, 2, 3, true⟩] } };
      ¬(s.ductus.refOk = true ∧ s.power.testMode = false ∧ s.bells.held = []) ∧ 7 < 8) ∧
    (
      let page := 3;
      let index := 511;
      let s : State := W;
      page < 16384 ∧ index < 512 ∧ (s.ductus.refOk = true ∧ s.power.testMode = false ∧ s.bells.held = []) ∧ ¬(4 = 2 ∨ (4 = 3 ∧ (5 : W64).toNat < 2 ^ 32)) ∧ 7 < 8) ∧
    (
      let s : State := W;
      16383 < 16384 ∧ 511 < 512 ∧ s.ductus.refOk = true ∧ s.power.testMode = false ∧ s.bells.held = [] ∧ tget s.bells.binds 16383 = none) ∧
    (
      let s : State := { W with bells := { W.bells with catcher := [⟨3, 511, 1, h0, 0, false, false⟩] } };
      tget s.bells.binds 3 = some h0 ∧ (∃ e ∈ s.bells.catcher, e.page = 3 ∧ e.index = 511) ∧ s.bells.held = [] ∧ (3 = 3 ∧ (0xFFFFFFFF : W64).toNat < 2 ^ 32)) ∧
    (
      let s : State := { W with bells := { W.bells with catcher := [⟨3, 510, 1, h0, 0, false, false⟩] } };
      tget s.bells.binds 3 = some h0 ∧ (¬∃ e ∈ s.bells.catcher, e.page = 3 ∧ e.index = 511) ∧ s.bells.catcher.length < 4096) ∧
    (
      let s : State := { W with bells := { W.bells with catcher := List.replicate 4096 ⟨3, 510, 1, h0, 0, false, false⟩ } };
      tget s.bells.binds 3 = some h0 ∧ 4096 ≤ s.bells.catcher.length) :=
  ⟨by decide +kernel, by decide +kernel, by decide +kernel, by decide +kernel, by decide +kernel, by decide +kernel⟩
def own (st : MbxState) : State := { W with mbx := { W.mbx with boxes := W.mbx.boxes.set 15 { Mailbox.reset with owner := 2, state := st, irqEn := true, inkBase := 5, inkCount := 2, toFw := 9 } } }

theorem witness_MailboxOwnership :
    (
      let s : State := W;
      s.serves ∧ 15 < 16 ∧ (s.mbx.boxes[15]?).any (fun b => decide (b.state = .free)) = true ∧ bits (15 : W32).toNat 3 0 = 15) ∧
    (([.idle, .done, .posted, .busy].all fun st => decide ((own st).serves ∧ ((own st).mbx.boxes[15]?).map Mailbox.state = some st ∧ ((own st).mbx.boxes[15]?).map Mailbox.owner = some 2)) = true) :=
  ⟨by decide +kernel, by decide +kernel⟩

theorem witness_MailboxPosting :
    (
      let s : State := own .idle;
      s.serves ∧ (s.mbx.boxes[15]?).any (fun b => decide (b.state = .idle ∧ b.owner = 2)) = true ∧ bits (256 : W32).toNat 8 0 = 256 ∧ s.mgmt.exchange ≠ .switching ∧ s.inkRangeOk 15 (bits (0x1FF : W32).toNat 7 0) (bits (0x1FF : W32).toNat 16 8) = true) ∧
    (
      let s : State := own .idle;
      bits (257 : W32).toNat 8 0 = 257 ∧ ¬(257 % 8 = 0 ∧ 8 ≤ 257 ∧ 257 ≤ 256) ∧ s.inkRangeOk 15 (bits (0x2FF : W32).toNat 7 0) (bits (0x2FF : W32).toNat 16 8) = false ∧ (own .posted).serves) ∧
    (
      let s : State := own .idle;
      let off := 0xFC0;
      accessBytes 6 = some 64 ∧ off % 64 = 0 ∧ off / 0x100 = 15 ∧ (s.mbx.boxes[15]?).any (fun b => decide (b.owner = 2 ∧ b.state = .idle)) = true) :=
  ⟨by decide +kernel, by decide +kernel, by decide +kernel⟩
def inked (w : Nat) : State := let s := own .idle; { s with mbx := { s.mbx with ink := s.mbx.ink.write 0x6000 (leBytes 8 w) } }

theorem witness_InkwellHostWrites :
    (
      let s : State := { own .idle with cpb := { W.cpb with state := .opened } };
      s.serves ∧ 0xFFFC0 < 0x100000 ∧ accessBytes 6 = some 64 ∧ 0xFFFC0 % 64 = 0 ∧ s.cpb.state ≠ .running) ∧
    (
      let s : State := own .idle;
      s.cpb.state = .running ∧ s.slotBox (0x7000 / 0x1000) = none ∧ (s.slotBox (0x6FF8 / 0x1000)).any (fun b => decide (b.owner = 2)) = true) ∧
    (
      let s : State := inked 0;
      let word : BitVec 512 := 3 * 2 ^ 62;
      (s.slotBox 6).isSome = true ∧ wordPermitted (wordOwner (s.slotWord 6)) (wordOwner (leNat (HtpAccess.bytes ⟨2, true, 0x106000, 3, word⟩ 8))) = false ∧ wordOwner (s.slotWord 6) ≤ 1 ∧ 0x6004 % 0x1000 < 8 ∧ 0x6004 % 0x1000 ≠ 0) ∧
    (
      let s : State := inked (2 ^ 62);
      let word : BitVec 512 := 2 * 2 ^ 62;
      wordPermitted (wordOwner (s.slotWord 6)) (wordOwner (leNat (HtpAccess.bytes ⟨2, true, 0x106000, 3, word⟩ 8))) = true ∧ wordOwner (s.slotWord 6) ≤ 1) ∧
    (
      let s : State := inked (2 * 2 ^ 62);
      1 < wordOwner (s.slotWord 6) ∧ 8 ≤ 0x6008 % 0x1000) :=
  ⟨by decide +kernel, by decide +kernel, by decide +kernel, by decide +kernel, by decide +kernel⟩
def ep (e : EpochState) (count : Nat) : State := { W with ductus := { W.ductus with epoch := e, count := count, lastEdge := 1000000000, load := 7000000000 } }

theorem witness_EpochLogic :
    (
      let s : State := ep .unset 5000001000;
      s.primary = true ∧ s.ductus.refOk = true ∧ s.ductus.epoch = .unset ∧ s.ductus.phase = 0) ∧
    (
      let s : State := ep .locked 5000001000;
      let t : State := ep .holdover 4999999000;
      s.ductus.epoch = .locked ∧ (-1000 ≤ edgeOffset s.ductus.count ∧ edgeOffset s.ductus.count ≤ 1000) ∧ t.ductus.epoch = .holdover ∧ edgeOffset t.ductus.count = -1000 ∧ s.ductus.phase = 0 ∧ t.ductus.phase = 0) ∧
    (
      let s : State := ep .locked 5000001001;
      let t : State := ep .holdover 4999998999;
      ¬(-1000 ≤ edgeOffset s.ductus.count ∧ edgeOffset s.ductus.count ≤ 1000) ∧ ¬(-1000 ≤ edgeOffset t.ductus.count ∧ edgeOffset t.ductus.count ≤ 1000)) ∧
    (
      let s : State := ep .armed 5000001001;
      s.ductus.phase = 0 ∧ s.ductus.epoch = .armed ∧ s.primary = true ∧ s.ductus.refOk = true) ∧
    (
      let s : State := ep .locked 3000000000;
      let d := s.ductus;
      d.epoch = .locked ∧ d.lastEdge + 2000000000 ≤ d.count) ∧
    (
      let s : State := ep .holdover 3000000000;
      let t : State := { s with ductus := { s.ductus with load := 7000000001, epoch := .armed, prior := .holdover } };
      s.serves ∧ bits (1 : W32).toNat 2 0 = 1 + 2 * b2n s.trace.en + 4 * b2n s.trace.wrap ∧ s.ductus.load.toNat % 1000000000 = 0 ∧ t.ductus.load.toNat % 1000000000 ≠ 0) :=
  ⟨by decide +kernel, by decide +kernel, by decide +kernel, by decide +kernel, by decide +kernel, by decide +kernel⟩
def pr0 : Probe := ⟨0, 5, 6, 20⟩
def pr1 : Probe := ⟨100, 105, 106, 111⟩
def pr2 : Probe := ⟨200, 205, 206, 220⟩
def pr3 : Probe := ⟨300, 305, 306, 311⟩
def aligned0 : State := { W with splitters := W.splitters.map fun x => { x with alignedAt := some 4000000000, offset := some 0 } }
def sentTo (c : YarnChild) (off : Int) : State := { aligned0 with ductus := { W.ductus with sentOffsets := [(c, off)] }, nibs := aligned0.nibs.map fun b => { b with offset := some 3 } }

theorem witness_AlignmentRounds :
    (
      let c : YarnChild := .nib 0;
      let s : State := aligned0;
      s.roundFits c [pr0, pr1, pr2, pr3] = true ∧ s.aligns c = true ∧ s.alignDue c = true ∧ s.awake = true ∧ bestProbe [pr0, pr1, pr2, pr3] = some pr1) ∧
    (
      let s : State := sentTo (.nib 2) (-1000);
      let t : State := sentTo (.splitter 1) 1000;
      s.aligns (.nib 2) = true ∧ t.aligns (.splitter 1) = true ∧ (-1000 : Int).natAbs ≤ 1000 ∧ s.ductus.sentOffsets = (.nib 2, -1000) :: [] ∧ (s.childOffset (.nib 2)).isSome = true ∧ (t.childOffset (.splitter 1)).isSome = true) ∧
    (
      let s : State := { sentTo (.nib 2) 70000 with nibs := W.nibs };
      let t : State := { sentTo (.splitter 1) (-70000) with splitters := W.splitters };
      s.aligns (.nib 2) = true ∧ s.childOffset (.nib 2) = none ∧ t.aligns (.splitter 1) = true ∧ t.childOffset (.splitter 1) = none) ∧
    (
      let s : State := sentTo (.nib 2) (-1001);
      s.aligns (.nib 2) = true ∧ (s.childOffset (.nib 2)).isSome = true ∧ 1000 < (-1001 : Int).natAbs) :=
  ⟨by decide +kernel, by decide +kernel, by decide +kernel, by decide +kernel⟩

theorem witness_TraceControl :
    (
      let s : State := W;
      s.serves ∧ bit (2 : W32).toNat 0 = false ∧ bit (2 : W32).toNat 1 = true ∧ s.trace.en = false ∧ bit (4 : W32).toNat 0 = false ∧ bit (4 : W32).toNat 1 = false) ∧
    (
      let s : State := { W with trace := { W.trace with en := true, second := 4 } };
      s.trace.en = true ∧ s.trace.second < s.now / 1000000000) :=
  ⟨by decide +kernel, by decide +kernel⟩
def rec0 : TraceRec := ⟨5000000000, 1, false, false, false, 1, 0, 7⟩
def blot0 : BlotRec := ⟨1, 0, 5, 0, false, 0, 1, 0⟩

theorem witness_TraceRecordsMove :
    (
      let s : State := { W with trace := { W.trace with en := true, inbound := [rec0], buf := List.replicate 255 rec0 } };
      let o : State := { W with trace := { W.trace with en := true, inbound := [{ rec0 with stamp := 4899999999 }] } };
      s.now ≤ rec0.stamp + 100000000 ∧ s.trace.loss = none ∧ s.trace.held + rec0.size ≤ 4096 ∧ 4899999999 + 100000000 < o.now) ∧
    (
      let s : State := { W with trace := { W.trace with en := true, buf := [rec0], wr := 0xFFE, rd := 0 } };
      let t : State := { W with trace := { W.trace with en := true, buf := [rec0], wr := 0xFFD, rd := 0 } };
      s.trace.buf[s.trace.issued]? = some rec0 ∧ s.trace.ringLoss = none ∧ s.trace.fullAt s.trace.next = true ∧ t.trace.fullAt t.trace.next = false ∧ t.mip.any MemReq.beforeTrace = false ∧ t.paceTrace.trace.spent = 0 ∧ traceFull rec0.typ = false) ∧
    (
      let s : State := asked { W with trace := { W.trace with en := true, buf := [rec0], issued := 1 } } .traceWrite 16;
      s.trace.buf = rec0 :: [] ∧ s.trace.loss = none ∧ (s.answered .traceWrite).isSome = true) ∧
    (
      let s : State := { W with flt := { W.flt with en := true, held := [blot0] } };
      s.flt.en = true ∧ (s.flt.wr - s.flt.rd).toNat < 2 ^ s.flt.log2 / 64 - 1 ∧ s.flt.loss = none ∧ s.flt.flight = none ∧ s.flt.held = blot0 :: []) ∧
    (
      let s : State := asked { W with flt := { W.flt with en := true, held := [blot0], flight := some blot0 } } .blotWrite 64;
      s.flt.flight = some blot0 ∧ blot0.kind ≠ 0x0F ∧ (s.answered .blotWrite).isSome = true) :=
  ⟨by decide +kernel, by decide +kernel, by decide +kernel, by decide +kernel, by decide +kernel⟩
def pCast : Prog := prog 0x0201 [(0x20, 4, 9), (0x24, 4, 0), (0x28, 4, 2), (0x2C, 4, 4096)] []
def pQueue : Prog := prog 0x0301 [(0x20, 4, h0.toNat), (0x24, 4, 7), (0x28, 4, 1), (0x2C, 4, 60000000), (0x48, 4, 16)] []

theorem witness_HenpenRefusals :
    (([0x0201, 0x0301, 0x0204, 0x0501].all fun c => let p := prog c [] []; let s : State := { inProg W p with cfg := { W.cfg with state := .sealBroken } }; decide (s.prog 0 = some p ∧ s.firmware = true ∧ p.pendingAnswer = false ∧ s.behind p = false ∧ p.command = c ∧ s.frame p = some (Code.sealInvalid, 0))) = true) ∧
    (
      let p := prog 0x0201 [] [];
      let r := prog 0x0301 [(0x20, 4, 77)] [];
      let s := inProg W p;
      let t := inProg W r;
      s.frame p = none ∧ p.command = 0x0201 ∧ lowestFail (p.headerChecks ++ s.castChecks p) = some (0x28, Code.badValue) ∧ t.frame r = none ∧ r.command = 0x0301 ∧ lowestFail (r.headerChecks ++ t.queueChecks r) = some (0x20, Code.badHandle)) ∧
    (
      let f (st : CfgState) (rdy : Bool) : State := { W with cfg := { W.cfg with state := st, ready := rdy } };
      (f .halted true).cfg.state = .halted ∧ passesHalt 0x0201 = false ∧ (f .training false).cfg.state ≠ .halted ∧ (f .training false).cfg.ready = false ∧ (f .incomplete true).cfg.ready = true ∧ needsSeal 0x0201 = true ∧ (f .sealBroken true).cfg.state ∉ [.halted, .incomplete, .sealed]) :=
  ⟨by decide +kernel, by decide +kernel, by decide +kernel⟩

theorem witness_BootAndQueryCommands :
    (
      let p := prog 0x0001 [] [];
      let s := inProg W p;
      s.mayCommit 0 0x0001 (fun p => [(0x22, zeros (slice p.request 0x22 6), Code.reservedSet)]) p) ∧
    (
      let p := prog 0x0102 [] [];
      let s := inProg W p;
      s.mayCommit 0 0x0102 (fun _ => []) p) ∧
    (
      let p := prog 0x0203 [(0x20, 4, h0.toNat)] [];
      let r := prog 0x0203 [(0x20, 4, 1023)] [];
      let s := inProg W p;
      let t := inProg W r;
      s.mayCommit 0 0x0203 (fun p => (0x20, s.queryable p.handle, Code.badHandle) :: oneArg p) p ∧ t.mayCommit 0 0x0203 (fun p => (0x20, t.queryable p.handle, Code.badHandle) :: oneArg p) r ∧ t.ctxOf r.handle = none) ∧
    (
      let p := prog 0x0503 [] [];
      let s := inProg W p;
      s.mayCommit 0 0x0503 (fun p => s.partCheck p :: oneArg p) p ∧ (tget s.parts (p.arg 0x20)).isSome = true) ∧
    (
      let p := prog 0x0305 [(0x20, 4, 1)] [];
      let s := inProg W p;
      s.mayCommit 0 0x0305 (fun p => s.queueCheck p true :: oneArg p) p ∧ (tget s.queues (p.arg 0x20)).any Queue.resident = true) ∧
    (
      let p := prog 0x0601 [] [];
      let q := prog 0x0602 [] [];
      let r := prog 0x0603 [] [];
      let s := inProg W p;
      let t := inProg W q;
      let u := inProg W r;
      s.mayCommit 0 0x0601 (fun _ => []) p ∧ t.mayCommit 0 0x0602 (fun _ => []) q ∧ u.mayCommit 0 0x0603 (fun _ => []) r ∧ (s.feed.rails[15]?).isSome = true) :=
  ⟨by decide +kernel, by decide +kernel, by decide +kernel, by decide +kernel, by decide +kernel, by decide +kernel⟩

theorem witness_ContextCommands :
    (
      let s := inProg W pCast;
      let n := inProg { W with ctxs := fullSlots, bells := { W.bells with binds := [] }, queues := [] } pCast;
      s.mayCommit 0 0x0201 s.castChecks pCast ∧ s.openSlot = some 1 ∧ pCast.arg 0x28 ≤ s.freePages ∧ n.mayCommit 0 0x0201 n.castChecks pCast) ∧
    (
      let p := prog 0x0202 [(0x20, 4, h0.toNat), (0x24, 4, 1), (0x28, 4, 10000000)] [];
      let s := inProg W p;
      s.mayCommit 0 0x0202 s.bindOffChecks p ∧ p.isAdmin = false ∧ (tget s.ctxs (handleSlot p.handle)).isSome = true ∧ (tget s.queues 1).any (fun x => handleSlot x.handle == handleSlot p.handle) = true) ∧
    (
      let p : Prog := ⟨0, .admin 3, req 0x0202 [(0x20, 4, h0.toNat)], [], 0, 0, 0, false⟩;
      let s := inProg W p;
      s.mayCommit 0 0x0202 s.bindOffChecks p ∧ p.isAdmin = true) ∧
    (
      let p := prog 0x0002 [(0x20, 4, 9), (0x38, 4, 6), (0x3C, 4, 0x3BF), (0x40, 4, 1), (0x44, 4, 65535)] [];
      let s := inProg W p;
      let t := inProg { W with queues := [(0, queue0)] } p;
      s.mayCommit 0 0x0002 s.adminChecks p ∧ tget s.queues 0 = none ∧ s.openSlot = some 1 ∧ tget s.bells.binds (p.arg 0x24) = none ∧ t.mayCommit 0 0x0002 t.adminChecks p ∧ (tget t.queues 0).isSome = true) :=
  ⟨by decide +kernel, by decide +kernel, by decide +kernel, by decide +kernel⟩
def fullCtx : Ctx := { ctx0 with events := (List.range 3).map fun i => (65533 + i, ⟨0, 0, 0, true⟩) }
def waitCmd (w : CmdWait) : Cmd := ⟨0, 0, 0, .eventWait, [w], .begun, none, false, []⟩
def sub0 : Sub := ⟨0, 1, 1, 5000000000, [], [], 0, 16, true, false, 0, List.replicate 16 0, none, 0, [], true, none, none⟩
def withCmds (cs : List Cmd) : State := { W with queues := [(1, { queue0 with subs := [{ sub0 with cmds := cs }] })] }

theorem witness_EventCommands :
    (
      let p := prog 0x0204 [(0x20, 4, h0.toNat), (0x24, 4, 65533)] [];
      let r := prog 0x0204 [(0x20, 4, h0.toNat), (0x24, 4, 65534)] [];
      let s := inProg { W with ctxs := [(0, fullCtx)] } p;
      let t := inProg { W with ctxs := [(0, fullCtx)] } r;
      let f := inProg { W with ctxs := [(0, { fullCtx with state := .faulted })] } p;
      s.ctxOf p.handle = some (0, fullCtx) ∧ fullCtx.state = .active ∧ s.mayCommit 0 0x0204 (fun p => [s.handleCheck p, within 0x24 (p.arg 0x24) 1 65536]) p ∧
        ((freeRuns (fullCtx.events.map Prod.fst) 0).find? fun r => decide (p.arg 0x24 ≤ r.2)) = some (0, 65533) ∧ t.mayCommit 0 0x0204 (fun p => [t.handleCheck p, within 0x24 (p.arg 0x24) 1 65536]) r ∧
        ((freeRuns (fullCtx.events.map Prod.fst) 0).find? fun x => decide (r.arg 0x24 ≤ x.2)) = none ∧ (f.ctxOf p.handle).any (fun e => e.2.state != .active) = true ∧ f.mayCommit 0 0x0204 (fun p => [f.handleCheck p, within 0x24 (p.arg 0x24) 1 65536]) p) ∧
    (
      let p := prog 0x0204 [(0x20, 4, h0.toNat), (0x24, 4, 5)] [];
      let s := inProg { W with ctxs := [(0, fullCtx)] } p;
      s.mayCommit 0 0x0204 (fun p => [s.handleCheck p, within 0x24 (p.arg 0x24) 1 65536]) p) ∧
    (
      let p := prog 0x0205 [(0x20, 4, h0.toNat), (0x24, 4, 0), (0x28, 4, 1)] [];
      let s := inProg W p;
      let t := inProg (withCmds [waitCmd ⟨0, 0, false, .waiting 1⟩]) p;
      s.mayCommit 0 0x0205 s.eventFreeChecks p ∧ (s.ctxOf p.handle) = some (0, ctx0) ∧ ((List.range (p.arg 0x28)).map (p.arg 0x24 + ·)).any (s.eventUsed 0) = false ∧ t.mayCommit 0 0x0205 t.eventFreeChecks p ∧ ((List.range (p.arg 0x28)).map (p.arg 0x24 + ·)).any (t.eventUsed 0) = true) :=
  ⟨by decide +kernel, by decide +kernel, by decide +kernel⟩
def pq (k : Nat) : Prog := prog k [(0x20, 4, 1)] []
def onQ (k : Nat) (x : Queue) : State := inProg { W with queues := [(1, x)] } (pq k)

theorem witness_QueueCommands :
    (
      let s := inProg W pQueue;
      ctx0.state = .active ∧ s.mayCommit 0 0x0301 s.queueChecks pQueue ∧ s.ctxOf pQueue.handle = some (0, ctx0) ∧ s.freeQueue = some 2 ∧ s.freeIndex ctx0.pages = some (3, 1)) ∧
    (
      let off : Queue := { queue0 with enabled := false };
      let s := onQ 0x302 queue0;
      let t := onQ 0x303 off;
      let u := onQ 0x304 off;
      let v := onQ 0x304 queue0;
      queue0.resident = true ∧ s.ctxOf queue0.handle = some (0, ctx0) ∧ s.mayCommit 0 0x0302 (fun p => s.queueCheck p false :: oneArg p) (pq 0x302) ∧ queue0.enabled = true ∧ t.mayCommit 0 0x0303 (fun p => t.queueCheck p false :: oneArg p) (pq 0x303) ∧ off.device = false ∧ u.mayCommit 0 0x0304 (fun p => u.queueCheck p false :: oneArg p) (pq 0x304) ∧ u.queueIdle 1 off = true ∧ v.mayCommit 0 0x0304 (fun p => v.queueCheck p false :: oneArg p) (pq 0x304) ∧ v.queueIdle 1 queue0 = false) :=
  ⟨by decide +kernel, by decide +kernel⟩
def pMuand : Prog := prog 0x0401 [(0x20, 4, h0.toNat)] muand
def pBad : Prog := prog 0x0401 [(0x20, 4, h0.toNat)] (muand.set 0 7)

theorem witness_PatternCommands :
    (
      let s := inProg W pMuand;
      let t := inProg W pBad;
      s.ctxOf pMuand.handle = some (0, ctx0) ∧ ctx0.openIndex = some 1 ∧ s.mayCommit 0 0x0401 (fun p => s.handleCheck p :: oneArg p) pMuand ∧
        ((verify pMuand.bulk pMuand.dataLen (s.candidates ctx0)).toOption).isSome = true ∧ t.mayCommit 0 0x0401 (fun p => t.handleCheck p :: oneArg p) pBad ∧ (verify pBad.bulk pBad.dataLen (t.candidates ctx0)).toOption = none) ∧
    (
      let p := prog 0x0402 [(0x20, 4, h0.toNat), (0x24, 4, 2), (0x28, 4, 0x10000), (0x2C, 4, 0x10000)] [];
      let r := prog 0x0403 [(0x20, 4, 0x10000)] [];
      let s := inProg W p;
      let t := inProg W r;
      s.mayCommit 0 0x0402 s.groupChecks p ∧ t.mayCommit 0 0x0403 (fun p => (0x20, (t.patternOwner p.handle).isSome, Code.badHandle) :: oneArg p) r ∧ t.patternOwner r.handle = some 0) ∧
    (
      let s := State.ctxOf (inProg W (prog 0x0403 [(0x20, 4, h0.toNat)] [])) (prog 0x0403 [(0x20, 4, h0.toNat)] []).handle;
      s.isSome = true) :=
  ⟨by decide +kernel, by decide +kernel, by decide +kernel⟩
def free : State := { W with parts := [(0, { W.newPart [0] 100 50 with target := 0 })] }
def pPart (pw bw : Nat) : Prog := prog 0x0501 [(0x20, 4, 63), (0x28, 4, pw), (0x2C, 4, bw), (0x30, 4, 6)] []

theorem witness_PartitionCommands :
    (
      let s := inProg W (prog 0x0501 [(0x28, 4, 1), (0x30, 4, 6)] []);
      s.mayCommit 0 0x0501 partChecks (prog 0x0501 [(0x28, 4, 1), (0x30, 4, 6)] []) ∧ (tget s.parts 0).isSome = true) ∧
    (([(156, 974), (157, 0), (1, 975)].all fun e => let p := pPart e.1 e.2; let s := inProg free p; decide (s.mayCommit 0 0x0501 partChecks p ∧ tget s.parts (p.arg 0x20) = none ∧ (s.grantNibs p.nibs (p.arg 0x24)).toOption = some [1, 2])) = true ∧ free.powerSum + 156 = 256 ∧ free.powerSum + 157 > 256 ∧ free.bandwidthSum + 974 = 1024) ∧
    (
      let p := prog 0x0502 [] [];
      let s := inProg W p;
      let t := inProg { W with ctxs := [] } p;
      s.mayCommit 0 0x0502 (fun p => s.partCheck p :: oneArg p) p ∧ s.partNamed 0 = true ∧ t.mayCommit 0 0x0502 (fun p => t.partCheck p :: oneArg p) p ∧ t.partNamed 0 = false) ∧
    (
      let u : State := { W with live := { W.live with sealed := false } };
      let sc (s : State) (gbs : Nat) : State := State.sendRates { s with feed := { s.feed with dNow := some gbs }, parts := tmap s.parts fun _ x => { x with effective := if gbs < s.live.deliverable then x.bandwidth * gbs / s.live.deliverable else x.bandwidth } };
      let s := W;
      s.awake = true ∧ 1048575 < 2 ^ 20 ∧ ¬(u.live.sealed = true ∧ u.primary = true) ∧ s.live.sealed = true ∧ s.primary = true ∧ s.live.deliverable ≤ 100 ∧ (sc s 100).parts = s.parts ∧ 99 < s.live.deliverable) :=
  ⟨by decide +kernel, by decide +kernel, by decide +kernel, by decide +kernel⟩
def pLoad : Prog := prog 0x0101 [(0x20, 4, 3)] (List.replicate 64 1)
def pTrace (op : Nat) : Prog := prog 0x0701 [(0x20, 4, op), (0x24, 4, 0x7FF), (0x30, 4, 16), (0x34, 4, 0x10), (0x38, 4, 5)] []
def tr (op : Nat) (en idle : Bool) : State := { inProg W (pTrace op) with trace := { W.trace with en := en, idle := idle } }

theorem witness_TableAndTraceCommands :
    (
      let s : State := { inProg W pLoad with cfg := { W.cfg with state := .ready } };
      s.mayCommit 0 0x0101 (fun p => within 0x20 (p.arg 0x20) 1 6 :: oneArg p) pLoad ∧ s.cfg.state ≠ .sealed) ∧
    (
      let t : State := inProg W pLoad;
      t.mayCommit 0 0x0101 (fun p => within 0x20 (p.arg 0x20) 1 6 :: oneArg p) pLoad ∧ t.cfg.state = .sealed) ∧
    (([0, 1, 2].all fun op => decide ((tr op true false).mayCommit 0 0x0701 traceChecks (pTrace op) ∧ (pTrace op).arg 0x20 = op)) = true) ∧
    (
      let s := tr 2 false false;
      s.trace.en = false ∧ s.trace.idle = false ∧ s.trace.buf = []) :=
  ⟨by decide +kernel, by decide +kernel, by decide +kernel, by decide +kernel⟩
def pStage : Prog := prog 0x0801 [] (List.replicate 320 0)
def img : Image := ⟨0x0403, 2, [1]⟩

theorem witness_ImageExchange :
    (
      let s := inProg W pStage;
      let t : State := { s with mgmt := { s.mgmt with exchange := .draining } };
      s.mayCommit 0 0x0801 (fun _ => []) pStage ∧ s.mgmt.exchange = .none ∧ (s.cpb.judge pStage.bulk 1).toOption = none ∧ t.mayCommit 0 0x0801 (fun _ => []) pStage ∧ t.mgmt.exchange ≠ .none) ∧
    (
      let p := prog 0x0802 [] [];
      let s := inProg W p;
      let t : State := { s with mgmt := { s.mgmt with exchange := .draining } };
      let u : State := { s with mgmt := { s.mgmt with staged := some img } };
      s.mayCommit 0 0x0802 (fun _ => []) p ∧ s.mgmt.exchange = .none ∧ s.mgmt.staged = none ∧ t.mayCommit 0 0x0802 (fun _ => []) p ∧ t.mgmt.exchange ≠ .none ∧ u.mayCommit 0 0x0802 (fun _ => []) p ∧ u.mgmt.staged = some img) ∧
    (
      let box (st : MbxState) : Mailbox := { Mailbox.reset with owner := 1, state := st };
      let s : State := { W with mgmt := { W.mgmt with exchange := .draining, staged := some img }, mbx := { W.mbx with boxes := (W.mbx.boxes.set 15 (box .posted)).set 3 (box .done) } };
      s.firmware = true ∧ s.mgmt.exchange = .draining ∧ s.mgmt.progs = [] ∧ (∀ b ∈ s.mbx.boxes, b.state ≠ .busy) ∧ (box .posted).forced = false ∧ s.mbx.boxes[15]? = some (box .posted) ∧ s.mbx.boxes[3]? = some (box .done)) ∧
    (
      let s : State := { W with mgmt := { W.mgmt with exchange := .switching, staged := some img } };
      s.mgmt.exchange = .switching ∧ s.mgmt.staged = some img) :=
  ⟨by decide +kernel, by decide +kernel, by decide +kernel, by decide +kernel⟩
def irq (st : SrcState) : State := { W with iga := { W.iga with states := [(5, st), (9, .pending)], cfg := [(5, ⟨3, 0x80000000⟩), (9, ⟨3, 0x80000000⟩)], levels := [5] } }

theorem witness_InterruptClaims :
    (
      let s : State := irq .pending;
      s.serves ∧ 31 < 32 ∧ s.iga.best 31 = some 5 ∧ (s.iga.states.map Prod.fst).Pairwise (· < ·)) ∧
    (
      let s : State := W;
      let w : State := { W with iga := { W.iga with compat := true, withdrawn := [4] } };
      s.iga.best 0 = none ∧ ¬(s.iga.compat = true ∧ s.iga.withdrawn.contains 0 = true) ∧ w.iga.best 4 = none ∧ w.iga.compat = true ∧ w.iga.withdrawn.contains 4 = true) ∧
    (
      let s : State := irq (.inService 31);
      let o : State := irq (.inService 30);
      let p : State := irq .pending;
      s.iga.stateOf 5 = .inService 31 ∧ o.iga.stateOf 5 = .inService 30 ∧ p.iga.stateOf 5 = .pending ∧ 0x3FD < 0x3FE ∧ p.iga.stateOf 0x3FD = .idle ∧ bits (0x3FE : W32).toNat 9 0 = 0x3FE) :=
  ⟨by decide +kernel, by decide +kernel, by decide +kernel⟩
def cf (st : CfgState) : State := { W with cfg := { W.cfg with state := st } }
def bt (st : BootState) (len : W32) : State := { W with cpb := { W.cpb with state := st, henpenLen := len } }

theorem witness_ConfigurationAndBootWrites :
    (bit (1 : W32).toNat 0 = true ∧ bit (0 : W32).toNat 0 = false ∧ W.feed.halt = false ∧ ([.ready, .incomplete, .sealBroken].all fun st => decide ((cf st).serves ∧ (cf st).cfg.check = none)) = true ∧ ([.training, .sealed, .halted].all fun st => decide (cf st).serves) = true) ∧
    (bit (1 : W32).toNat 0 = true ∧ bit (2 : W32).toNat 0 = false ∧ (bt .waitKeys 0).serves ∧ (bt .opened 0).cpb.henpenLen = 0 ∧ (bt .failed 0x140).cpb.henpenLen ≠ 0 ∧ (bt .checking 0).cpb.state = .checking) ∧
    (
      let m : State := { W with build := { small with mirrored := true }, mir := { W.mir with role := .primaryAlone, failoverSource := true } };
      bits (0x15752 : W32).toNat 15 0 = 0x5752 ∧ bit (0x15752 : W32).toNat 16 = true ∧ bit (0x5752 : W32).toNat 16 = false ∧ m.serves ∧ m.build.mirrored = true ∧ W.build.mirrored = false) :=
  ⟨by decide +kernel, by decide +kernel, by decide +kernel⟩
def pair (r : Role) : State := { W with build := { small with mirrored := true }, mir := { W.mir with role := r } }

theorem witness_DetachedHubControl :
    (
      let s := pair .detached;
      let y := pair .yielded;
      s.ductus.refOk = true ∧ s.power.testMode = false ∧ s.awake = true ∧ s.build.mirrored = true ∧ s.mir.role = .detached ∧ bit (2 : W32).toNat 0 = false ∧ bit (2 : W32).toNat 1 = true ∧ bit (2 : W32).toNat 2 = false ∧ y.mir.role = .yielded ∧ bits (0x48520004 : W32).toNat 31 16 = 0x4852 ∧ bit (0x48520004 : W32).toNat 2 = true ∧ bits (4 : W32).toNat 31 16 ≠ 0x4852) :=
  by decide +kernel

theorem witness_DebugStops :
    (
      let s := W;
      let r : State := { W with dbg := { W.dbg with qCtrl := 0x80000001, nCtrl := 0x80000001, qCount := 3, nCount := 4, stops := 0 } };
      s.serves ∧ (0x80000005 : W32) ≠ 0 ∧ bits (1 : W32).toNat 1 0 = 1 ∧ bits (2 : W32).toNat 1 0 = 2 ∧ r.dbg.nCtrl.getLsbD 31 = true ∧ r.dbg.nCount ≠ 0 ∧ r.dbg.nLeft = 0 ∧ r.dbg.stops.getLsbD 1 = false ∧ r.dbg.qCtrl.getLsbD 31 = true ∧ r.dbg.qCount ≠ 0 ∧ r.dbg.qLeft = 0 ∧ r.dbg.stops.getLsbD 0 = false) :=
  by decide +kernel
def words : State := { W with sync := { W.sync with words := [(3, 7), (9, 0xFFFFFFFFFFFFFFFE)] }, dbg := { W.dbg with syncIndex := 3 } }
def dbgAdd (i : W32) (v : W64) : State := { words with dbg := { words.dbg with syncIndex := i, syncValue := v } }

theorem witness_SyncWordWrites :
    (
      let s := words;
      let h : State := { words with dbg := { words.dbg with syncCtrl := 0x80000000 } };
      s.serves ∧ 32767 < 32768 ∧ (s.sync.words.map Prod.fst).Pairwise (· < ·) ∧ s.sync.waits = [] ∧ s.dbg.syncCtrl.getLsbD 31 = false ∧ (0x80000000 : W32).getLsbD 31 = true ∧ (0x80000000 : W32).getLsbD 0 = false ∧ (0x80000000 : W32).getLsbD 1 = false ∧ (0x80000002 : W32).getLsbD 1 = true ∧ (0x80000001 : W32).getLsbD 0 = true ∧ s.sync.memOps = [] ∧ h.dbg.syncCtrl.getLsbD 31 = true) ∧
    (
      let a := dbgAdd 9 1;
      let b := dbgAdd 9 2;
      let c := dbgAdd 3 (BitVec.ofInt 64 (-8));
      let f (s : State) : Int := (s.word s.dbg.syncIndex.toNat).toNat + s.dbg.syncValue.toInt;
      0 ≤ f a ∧ f a < 2 ^ 64 ∧ 2 ^ 64 ≤ f b ∧ f c < 0 ∧ (a.sync.words.map Prod.fst).Pairwise (· < ·)) :=
  ⟨by decide +kernel, by decide +kernel⟩

theorem witness_FeedRegisterWrites :
    (
      let s := W;
      let t : State := { W with feed := { W.feed with qeSel := 1 } };
      s.serves ∧ 15 < 16 ∧ bits (12 : W32).toNat 3 0 ≤ 12 ∧ 12 < bits (13 : W32).toNat 3 0 ∧ t.feed.qeReady = false ∧ tget t.queues t.feed.qeSel.toNat = some queue0 ∧ tget s.queues s.feed.qeSel.toNat = none) :=
  by decide +kernel
def warm (ab : Bool) (qs : Tbl Queue) : State := { W with queues := qs, mgmt := { W.mgmt with warmReset := true, warmAborted := ab } }
def pendQ : Queue := { queue0 with fetch := 1, subs := [⟨0, 1, 1, 5000000000, [], [], 0, 16, true, false, 0, List.replicate 16 0, none, 0, [], true, none, none⟩] }

theorem witness_ResetsOfTheBlock :
    ((W.splitters[1]?).any (fun x => x.link == .up) = true ∧ (W.nibs[2]?).any Nib.present = true) ∧
    (
      let a := warm false [(1, queue0)];
      let b := warm true [(1, pendQ)];
      let c := warm true [];
      let f : State := { W with build := { small with mirrored := true }, mir := { W.mir with role := .following } };
      (f.primary = false ∧ a.primary = true ∧ b.primary = true ∧ c.primary = true) ∧ ([a, b, c].all fun s => decide (s.mgmt.warmReset = true ∧ s.tasks = [])) = true ∧ a.mgmt.warmAborted = false ∧ (b.retireAll Code.deviceReset).writingBack = true ∧ (b.retireAll Code.deviceReset).queues ≠ b.queues ∧ (c.retireAll Code.deviceReset).writingBack = false) ∧
    (
      let s := W;
      (s.splitters[0]?).any (fun x => x.link == .up) = true ∧ (s.nibs[2]?).any Nib.present = true) ∧
    (
      let lk (l : LinkState) : State := W.modSplitter 1 fun x => { x with link := l };
      ([.inReset, .waiting, .absent].all fun l => ((lk l).splitters[1]?).any fun x => x.link != .up) = true) ∧
    (
      let lk (l : LinkState) : State := W.modNib 2 fun x => { x with link := l };
      ([.inReset, .waiting, .absent].all fun l => ((lk l).nibs[2]?).any fun x => !x.present) = true) :=
  ⟨by decide +kernel, by decide +kernel, by decide +kernel, by decide +kernel, by decide +kernel⟩
def ky (v : Option (List W32)) (i : Option (List W32)) (n : Option W32) : State := { W with cpb := { W.cpb with keyReq := true, verifyKey := v, imageKey := i, counter := n, state := .waitKeys } }
def vk : List W32 := List.replicate 24 7 ++ [255]
def ik : List W32 := List.replicate 8 9

theorem witness_ClockKeysAndBoot :
    (State.reset.ductus.refOk = false ∧ State.reset.htp.waiting = [] ∧ State.reset.bells.held = []) ∧
    (
      let a := ky (some vk) none (some 3);
      let b := ky none none (some 3);
      let d : State := { a with cpb := { a.cpb with start := true } };
      a.cpb.keyReq = true ∧ ik.length = 8 ∧ b.cpb.verifyKey = none ∧ a.cpb.verifyKey = some vk ∧ a.cpb.counter = some 3 ∧ a.cpb.state = .waitKeys ∧ a.cpb.start = false ∧ d.cpb.keyReq = true ∧ d.cpb.verifyKey = some vk ∧ d.cpb.counter = some 3 ∧ d.cpb.state = .waitKeys ∧ d.cpb.start = true) ∧
    (
      let a := ky none none none;
      a.cpb.keyReq = true ∧ a.cpb.verifyKey = none ∧ vk.length = 25 ∧ (vk.getLastD 0).toNat < 256 ∧ a.cpb.counter = none) ∧
    (
      let s : State := { W with cpb := { W.cpb with state := .checking, henpenLen := 0x140, start := true } };
      s.cpb.state = .checking ∧ s.power.hubReleased = true ∧ s.power.testMode = false ∧ s.cpb.patchLen = 0 ∧ (s.cpb.judge (s.mbx.ink.read s.cpb.henpenOffset.toNat s.cpb.henpenLen.toNat) 1).toOption = none) :=
  ⟨by decide +kernel, by decide +kernel, by decide +kernel, by decide +kernel⟩
def trn (l : LinkState) (heard : Nat) : State := { W.modSplitter 1 (fun x => { x with link := l, heard := heard }) with cfg := { W.cfg with train := .splitters, state := .training, ready := false } }
def nt (l : LinkState) (nibs : List Nib) (n : Nat) : State := { W with nibs := lmod nibs n (fun x => { x with link := l, trainFrom := W.now - 400000 }), cfg := { W.cfg with train := .batch 0 (W.now - 512), state := .training, ready := false } }

theorem witness_LinkTraining :
    (
      let now := W.now;
      let ok (l : LinkState) (tries : Nat) : Bool := ((trn l (now - 200000 * tries)).splitters[1]?).any fun x => x.link == l && decide (x.heard + 200000 * tries ≤ now);
      ok .waiting 1 = true ∧ ok (.training 1) 2 = true ∧ ok (.training 2) 3 = true ∧ W.now = now) ∧
    (
      let s : State := { trn .absent 0 with nibs := [nib0, nib0, { nib0 with link := .waiting }] };
      s.cfg.train = .splitters ∧ (∀ x ∈ s.splitters, x.link = .up ∨ x.link = .absent) ∧ (List.range s.nibs.length).all (fun m => (s.homes m).any s.splitterUpNow) = true ∧ 0 < s.nibs.length ∧ (s.nibs[2]?).any (fun x => decide (x.link ≠ .up ∧ x.link ≠ .absent)) = true) ∧
    (
      let s := nt .waiting W.nibs 2;
      let t := nt (.training 1) W.nibs 2;
      let u := nt (.training 1) [nib0, { nib0 with link := .waiting }, nib0] 2;
      let v := nt (.training 1) [nib0, { nib0 with link := .absent }, nib0] 2;
      (s.nibs[2]?).any (fun x => x.link == .waiting) = true ∧ s.cfg.train = .batch 0 (W.now - 512) ∧ 2 / 16 = 0 ∧ (W.now - 512) + 2 % 16 * 256 ≤ s.now ∧ ([t, u, v].all fun t => (t.nibs[2]?).any (fun x => decide (x.link = .training 1 ∧ x.ports ≠ [] ∧ x.trainFrom + 200000 * 2 ≤ t.now))) = true ∧ 0 ∈ t.homes 2 ∧ t.splitterUpNow 0 = true) :=
  ⟨by decide +kernel, by decide +kernel, by decide +kernel⟩
def table6 : List Byte := build 0x200 ([(0, 4, 10), (4, 4, 5), (0x10, 2, 1), (0x16, 2, 1), (0x1A, 2, 8), (0x24, 4, 1), (0x2C, 4, 1)] ++ (List.range 16).map fun l => (0x40 + 2 * l, 2, 1000))
def image (b : List Byte) : TableImage := ⟨b, 0⟩
def six : Tbl TableImage := [(1, image []), (2, image []), (3, image [1]), (4, image []), (5, image []), (6, image table6)]
def check0 (changed : Option Nat) (tables : Tbl TableImage) : SealCheck := ⟨SealCheck.computed ⟨0, six, none⟩, tables, changed⟩
def sealing (k : SealCheck) : State := { W with ctxs := [], queues := [], bells := { W.bells with binds := [] }, cfg := { W.cfg with state := .sealBroken, check := some k } }

theorem witness_SealCheckEnds :
    (
      let k := check0 none six;
      let s := sealing k;
      s.cfg.check = some k ∧ k.changed = none ∧ s.sealOutcome k = none) ∧
    (
      let k := check0 (some 6) six;
      let m := check0 none (tdel six 4);
      let s := sealing k;
      let t := sealing m;
      k.changed = some 6 ∧ s.sealOutcome k = some (Code.cfgChanged, 6) ∧ m.changed = none ∧ tget m.tables (3 + 1) = none ∧ 3 < 6 ∧ t.cfg.check = some m) :=
  ⟨by decide +kernel, by decide +kernel⟩
def posted (command : Nat) (fs : List (Nat × Nat × Nat)) (ink : Nat) : State := { W with mbx := { W.mbx with
  boxes := W.mbx.boxes.set 15 { Mailbox.reset with owner := 1, state := .posted, reqLen := (commandLen command).getD 32, seen := 7, inkCount := ink }
  data := W.mbx.data.write 0xF00 (build 0x100 ((0, 2, command) :: fs)) } }
def bulkProg : Prog := { pStage with bulk := [], waitFrom := 0 }
def slotWith (w : Nat) (data : List Byte) (p : Prog) : State := let s := inProg W p; { s with mbx := { s.mbx with ink := (s.mbx.ink.write 0x40 data).write 0 (leBytes 8 w) } }
def filled : List Byte := List.replicate 64 3

theorem witness_TakingRequestsAndBulk :
    (
      let s := posted 0x0601 [] 0;
      let r := posted 0x0999 [] 0;
      let i := posted 0x0801 [(8, 4, 320)] 0;
      ([s, r, i].all fun s => decide (s.firmware = true ∧ s.mgmt.exchange = .none ∧ s.mgmt.progs.length < 8 ∧ s.nextBox.map Prod.fst = some 15 ∧ s.nextAdmin = none ∧ s.nextBox.map Prod.snd = s.mbx.boxes[15]?)) = true) ∧
    (
      let g := slotWith (makeWord 2 0 1 (crc32c filled).toNat) filled bulkProg;
      let b := slotWith (makeWord 2 0 1 5) filled bulkProg;
      let e := slotWith 0 [] bulkProg;
      ([g, b].all fun s => decide (s.firmware = true ∧ s.prog 0 = some bulkProg ∧ takesBulk bulkProg.command = true ∧ bulkProg.full = false ∧ wordOwner (s.slotWord 0) = 2)) = true ∧ g.slotFailure 0 0 false = none ∧ b.slotFailure 0 0 false = some Code.inkCrcBad ∧ wordOwner (e.slotWord 0) ≠ 2 ∧ bulkProg.waitFrom + 10000000 ≤ e.now) ∧
    (
      let p := prog 0x0601 [] [];
      let s := inProg W p;
      let payload : List Byte := List.replicate 65 9;
      s.prog 0 = some p ∧ p.handed % 4032 = 0 ∧ takesBulk p.command = false ∧ (s.mbx.boxes[0]?).any (fun b => decide (0 < b.inkCount)) = true ∧ wordOwner (s.slotWord 0) = 0 ∧ 0 < payload.length ∧ (List.replicate 4032 (0 : Byte)).length ≤ 4032) :=
  ⟨by decide +kernel, by decide +kernel, by decide +kernel⟩
def rung (x : Queue) (b : Doorbell) (binds : Tbl W32) : State := { withQ x with bells := { W.bells with catcher := [b], binds := binds } }
def bell0 : Doorbell := ⟨3, 0, 5, h0, 4999999999, false, true⟩
def tailQ (d : W32) (ret : Nat) (reading : Bool) : State := withQ { queue0 with tailProc := some ⟨d, 0, reading, ret⟩ }

theorem witness_DoorbellsTailsAndRecords :
    (
      let g := rung queue0 bell0 W.bells.binds;
      let u := rung queue0 bell0 [(3, 5)];
      let n := rung { queue0 with dbIndex := 9 } bell0 W.bells.binds;
      let d := rung { queue0 with enabled := false } bell0 W.bells.binds;
      ([g, u, n, d].all fun s => decide (s.bells.catcher = bell0 :: [] ∧ s.bells.held = [] ∧ s.awake = true ∧ s.primary = true ∧ s.feed.halt = false ∧ s.mgmt.warmReset = false ∧ s.qe.paging.length < 256)) = true ∧
        tget u.bells.binds bell0.page ≠ some bell0.handle ∧ tget g.bells.binds bell0.page = some bell0.handle ∧
        (g.queues.find? fun x => x.2.dbPage == bell0.page && x.2.dbIndex == bell0.index && x.2.handle == bell0.handle) = some (1, queue0) ∧
        (n.queues.find? fun x => x.2.dbPage == bell0.page && x.2.dbIndex == bell0.index && x.2.handle == bell0.handle) = none ∧ (d.queues.any fun x => !x.2.enabled) = true) ∧
    (
      let s := asked (tailQ 4 0 true) (.tailWord 1) 8;
      (s.answered (.tailWord 1)).any (fun p => decide ((tget p.2.queues 1).any (fun x => x.tailProc.isSome && x.tailDrop == 0 && x.tailOk 64 && !x.tailOk 65 && !x.tailOk 0x100000000) = true ∧ ((4 : W32) - 0).toNat ≤ ((64 : W64).setWidth 32 - (0 : W32)).toNat)) = true) ∧
    (
      let s := tailQ 4 (W.now - 1000) false;
      (tget s.queues 1).any (fun x => x.tailProc.any fun p => !p.reading && decide (p.returned + 1000 ≤ s.now)) = true) ∧
    (
      let x : Queue := { queue0 with resident := false };
      let s : State := { asked (withQ x) (.queueRecord 1) 128 with qe := { W.qe with resident := [], loads := [(1, some 5)] } };
      (s.answered (.queueRecord 1)).isSome = true ∧ tget s.qe.loads 1 = some (some 5)) ∧
    (
      let s : State := { W with qe := { W.qe with loads := (List.range 8176).map fun i => (i + 2, none) } };
      s.evictable = some 1 ∧ 8176 < s.residentUsed) :=
  ⟨by decide +kernel, by decide +kernel, by decide +kernel, by decide +kernel, by decide +kernel⟩
def entryBytes (ctrl : Nat) : List Byte := build 64 [(0, 4, ctrl), (4, 4, 16), (8, 8, 0x40000)]
def streamQ (held : List (Option Byte)) (header : Bool) (cmds : List Cmd) : Queue := { queue0 with fetch := 1, tail := 1, seq := 0, subs := [{ sub0 with segs := [(0x40000, 4096)], held := held, header := header, parsed := false, cmds := cmds }] }

theorem witness_RingEntriesAndArbitration :
    (
      let s := asked (withQ { queue0 with tail := 2, ra := [.reading, .reading] }) (.ringEntry 1) 128;
      let z := withQ { queue0 with raDrop := 2 };
      (s.answered (.ringEntry 1)).isSome = true ∧ (tget z.queues 1).any (fun y => decide (0 < y.raDrop)) = true) ∧
    (
      let q (d : Int) : Queue := { queue0 with tail := 1, deficit := d, ra := [.got (entryBytes 3) 7] };
      let s := withQ (q 0);
      let t := withQ (q (-1));
      ([s, t].all fun s => decide (s.awake = true ∧ s.primary = true ∧ s.feed.halt = false ∧ s.mgmt.warmReset = false ∧ s.readyClass = some 0 ∧ tget s.qe.visits 0 = none)) = true ∧
        (s.queues.find? fun e => e.2.cls == 0 && s.ready e.1) = some (1, q 0) ∧ (chainAt (1 == 0) (q 0).ra).isSome = true ∧ (q 0).deficit ≤ 0 ∧ 0 < clampDeficit ((q 0).deficit + (q 0).weight) ∧ clampDeficit ((q (-1)).deficit + (q (-1)).weight) ≤ 0) ∧
    (
      let s := asked (withQ (streamQ [] true [])) (.commandBytes 1) 32;
      (s.answered (.commandBytes 1)).isSome = true) ∧
    (
      let hd (v f : Nat) : List (Option Byte) := (build 16 [(0, 2, v), (2, 2, f)]).map some;
      let s := withQ (streamQ (hd 1 1) false []);
      let t := withQ (streamQ (hd 2 0) false []);
      ([s, t].all fun s => (s.front 1).any fun p => !p.2.1.header && decide (16 ≤ p.2.1.held.length) && (firstBad (p.2.1.held.take 16)).isNone) = true ∧ le (plain (hd 1 1)) 0 2 = 1 ∧ le (plain (hd 1 1)) 2 2 < 2 ∧ zeros (slice (plain (hd 1 1)) 4 12) = true ∧ le (plain (hd 2 0)) 0 2 ≠ 1) :=
  ⟨by decide +kernel, by decide +kernel, by decide +kernel, by decide +kernel⟩
def cmdBytes (opcode len flags : Nat) (fs : List (Nat × Nat × Nat)) : List Byte := build (16 * len) ((0, 4, flags + 2 ^ 16 * len + 2 ^ 24 * opcode) :: fs)
def atFront (b : List Byte) : State := withQ (streamQ (b.map some) true [])
def bNop : List Byte := cmdBytes 0 2 0 []
def bChain : List Byte := cmdBytes 1 2 0 [(8, 8, 0x50000), (0x10, 4, 16777216)]
def bPatch : List Byte := cmdBytes 0x12 3 2 [(0x10, 1, 15), (0x18, 8, 77), (0x20, 1, 15), (0x28, 8, 78)]
def bConst : List Byte := cmdBytes 0x13 2 0 [(8, 8, 0x40), (0x10, 2, 4096)]
def bHint : List Byte := cmdBytes 0x40 1 0 [(4, 2, 5), (6, 2, 256), (8, 4, 1000000), (0xC, 1, 63)]
def bFence : List Byte := cmdBytes 0x50 1 0 []
def bLaunch : List Byte := cmdBytes 0x10 3 9 [(4, 4, 0x10000), (0x20, 4, 0)]
def bReplay : List Byte := cmdBytes 0x11 3 (2 ^ 4) [(4, 4, 0x10000), (0x21, 1, 31)]
def bWait : List Byte := cmdBytes 0x21 2 1 []
def fenceCmd : Cmd := ⟨0, 0, 0, .fenceFetch, [], .parsed, none, false, []⟩

theorem witness_StreamCommands :
    (parsesIn (atFront bNop) 0x00 (fun b => headerCheck b 0) noChecks bNop = true ∧ parsesIn (atFront bChain) 0x01 chainChecks (fun u _ _ _ => [(0, decide (u.chains < 255), Code.chainLimit)]) bChain = true ∧ parsesIn (atFront bPatch) 0x12 patchParamsChecks noChecks bPatch = true ∧ parsesIn (atFront bConst) 0x13 setConstantsChecks (fun _ _ _ b => constChecks b 8 0x10) bConst = true ∧ parsesIn (atFront bHint) 0x40 hintPhaseChecks noChecks bHint = true ∧ parsesIn (atFront bFence) 0x50 fenceFetchChecks noChecks bFence = true) ∧
    (parsesIn (atFront bLaunch) 0x10 (launchChecks 0x10) (fun _ slot c b => launchChecks6 0x10 slot c b) bLaunch = true ∧ parsesIn (atFront bReplay) 0x11 (launchChecks 0x11) (fun _ slot c b => launchChecks6 0x11 slot c b) bReplay = true ∧ parsesIn (atFront bWait) 0x21 eventWaitChecks (fun _ slot c b => waitRangeChecks slot c b 0x10 (bits (flagsOf b) 2 0)) bWait = true) ∧
    (
      let q : Queue := { streamQ (bChain.map some) true [] with subs := [{ sub0 with segs := [(0x40000, 4096)], held := bChain.map some, asked := 64, header := true, parsed := false }] };
      let s := withQ q;
      let n : State := { atFront bHint with ctxs := [(0, { ctx0 with partition := none })] };
      parsesIn s 0x01 chainChecks (fun u _ _ _ => [(0, decide (u.chains < 255), Code.chainLimit)]) bChain = true ∧ (match s.front 1 with | some (_, u, _, _) => ((s.consume 1 u.seq 32).subOf 1 u.seq).any fun v => v.asked != 0 | none => false) = true ∧
        parsesIn n 0x40 hintPhaseChecks noChecks bHint = true ∧ (match n.front 1 with | some (_, _, _, c) => decide (c.partition = none) | none => false) = true) ∧
    (
      let bad := atFront (cmdBytes 0x10 0 0 [] ++ cmdBytes 0x10 1 0 []);
      let unk := atFront (cmdBytes 0x77 1 0 []);
      let fld := atFront (cmdBytes 0x10 2 0 [(0x12, 2, 1)]);
      failsIn bad (some 0x10) Code.cmdLength = true ∧ failsIn unk none Code.opcodeUnknown = true ∧
        parsesIn fld 0x10 (fun _ => []) noChecks (cmdBytes 0x10 2 0 [(0x12, 2, 1)]) = true ∧ (firstFail (launchChecks 0x10 (cmdBytes 0x10 2 0 [(0x12, 2, 1)]))).map Prod.snd = some Code.badValue) ∧
    (
      let s := withQ (streamQ [some 1] true [fenceCmd]);
      (tget s.queues 1).any (fun x => decide (x.subs.flatMap Sub.cmds = [fenceCmd] ∧ fenceCmd.op = .fenceFetch) && s.dmeRuns x.dme && x.subs.any fun u => decide (u.cmds = [fenceCmd])) = true) :=
  ⟨by decide +kernel, by decide +kernel, by decide +kernel, by decide +kernel, by decide +kernel⟩
def cmdOf (op : CmdOp) : Cmd := ⟨16, 0, 5, op, [], .parsed, none, false, []⟩
def winSub (op : CmdOp) : Sub := { sub0 with cmds := [cmdOf op] }
def winQ (op : CmdOp) : Queue := { queue0 with subs := [winSub op] }
def win (op : CmdOp) : State := withQ (winQ op)
def winH (op : CmdOp) : State := (win op).holdLast queue0.handle ctx0 1 1
def eligibleIn (s : State) (opcode : Nat) : Bool := match s.eligibleCmd 1 opcode with | some (_, u, d, slot, _) => decide (opcode = d.op.opcode ∧ u.cmds = [d] ∧ slot = 0) | none => false
def bRecord : List Byte := cmdBytes 0x20 1 0 [(4, 2, 0)]
def bSyncWait : List Byte := cmdBytes 0x23 3 2 [(4, 4, 5), (0x10, 8, 3), (0x20, 4, 1000)]
def imm : State := let s := (win (.writeImm true 0x100 7)).modCmd 1 1 16 fun d => { d with state := .begun }; { s with mip := [{ memReq (.writeImm 1) 8 with op := .write, data := leBytes 8 7, atomic := true }] }

theorem witness_WindowCommands :
    (
      let ops : List CmdOp := [.eventRecord 0, .writeImm true 0x100 7, .writeImm false 0x104 7, .feedSet 5, .traceSet true true 0xFFFFFFFF 0xFFFFFFFF, .traceSet false true 1 2, .privWrite true 0x90110 9, .privWrite false 0x20000 1, .partControl 0 true, .partControl 63 false, .syncConfig true 0 32768 0, .syncConfig false 32767 1 7, .syncOp 1 false 32767 0 5, .syncOp 0 true 0 0x108 5, .syncWait 2 true 0 0x100 3 0 60000000 1024, .syncWait 3 false 9 0 3 0 0 0, .barrier 7 60000000, .barrier 8 0];
      (ops.all fun op => eligibleIn (winH op) op.opcode && (cmdOf op).op == op && (match op with | .syncWait .. => (winH op).sync.waits.map SyncWait.party == [.queue 1 1 16] | _ => true)) = true ∧ (win (.barrier 8 0)).skeinEntry 8 = none ∧ ((win (.barrier 7 0)).skeinEntry 7).any (fun y => decide (ctx0.partition = some y.partition)) = true ∧ tget W.parts 63 = none ∧ (tget W.parts 0).isSome = true) ∧
    ((atFront bRecord).eligibleCmd 1 0x20 = none ∧ parsesIn (atFront bRecord) 0x20 eventRecordChecks (fun _ _ c b => [eventCheck c 4 (le b 4 2)]) bRecord = true) ∧
    ((atFront bSyncWait).eligibleCmd 1 0x23 = none ∧ parsesIn (atFront bSyncWait) 0x23 syncWaitChecks noChecks bSyncWait = true ∧ ((atFront bSyncWait).front 1).any (fun p => !p.2.1.explicit) = true) ∧
    ((imm.answered (.writeImm 1)).any (fun p => (tget p.2.queues 1).any fun y => y.subs.any fun u => u.cmds.any fun d => d.issued p.1) = true) :=
  ⟨by decide +kernel, by decide +kernel, by decide +kernel, by decide +kernel⟩
def launchOp (event : Option Nat) : CmdOp := .launch 0x10000 none event (List.replicate 16 0)
def launching (f : State → State) : State := f (win (launchOp none))
def replayCmd : Cmd := { cmdOf (.replay 0x10001 none none (List.replicate 16 0) [] 1) with rest := [(0, pattern0)] }
def moveIs (s : State) (later : Bool) (f : LaunchMove → Bool) : Bool := s.dmeRuns 0 && match s.nextLaunch 0 later with | some (q, _, _, _, _, _, m) => q == 1 && f m | none => false
def waiting (st : WaitState) (cached : Bool) : State := { withCmds [waitCmd ⟨0, 0, false, st⟩] with ctxs := [(0, { ctx0 with events := [(0, ⟨1, 0, 0, cached⟩)] })] }

theorem witness_LaunchDispatch :
    (
      let noHandle := withQ (winQ (.launch 0x20000 none none []));
      let asleep := launching fun s => { s with nibs := s.nibs.map fun b => { b with power := .off } };
      let capped := launching fun s => { s with feed := { s.feed with hostLimit := 1 } };
      let go := launching id;
      let granted := go.modCmd 1 1 16 fun d => { d with granted := true };
      let rep := withQ { winQ (launchOp none) with subs := [{ sub0 with cmds := [replayCmd] }] };
      moveIs noHandle false (fun m => m == .fail Code.badHandle) = true ∧ moveIs asleep false (fun m => match m with | .wake l => !l.isEmpty | _ => false) = true ∧ moveIs capped false (fun m => match m with | .withhold _ => true | _ => false) = true ∧
        moveIs go false (fun m => match m with | .go .. => true | _ => false) = true ∧ moveIs granted false (fun m => match m with | .go .. => true | _ => false) = true ∧ moveIs rep true (fun m => match m with | .go .. => true | _ => false) = true) ∧
    (
      let s := launching id;
      lowest 65536 (fun t => (tget s.tasks t).isNone) = some 0) ∧
    (
      let s := waiting .unregistered true;
      let r := asked (waiting .reading false) (.eventState 0 0) 8;
      s.oldestUnregistered = some (1, 1, waitCmd ⟨0, 0, false, .unregistered⟩) ∧ (waitCmd ⟨0, 0, false, .unregistered⟩).waits.length + s.waitsUsed ≤ 32768 ∧ (r.answered (.eventState 0 0)).isSome = true) :=
  ⟨by decide +kernel, by decide +kernel, by decide +kernel⟩
def task0 : Task := ⟨1, 1, 16, 0, 5, 0, 0, 0, 1, none, [], 0, [⟨0, 3, false, false, none⟩, ⟨2, 3, false, false, none⟩], 0, 0, none⟩
def done0 (nib : Nat) (epoch : W32) : DoneMsg := ⟨false, false, 0, 0, 9, Code.ok, epoch, [nib], none⟩
def running : State := { win (launchOp (some 0)) with tasks := [(9, task0)] }
def atHub (s : State) (m : UpMsg) : State := s.modSplitter 1 fun x => { x with up := [m] }
def wb (cs : Tbl Ctx) : State := { withQ { queue0 with wbFlight := true, wbPending := true } with ctxs := cs, mip := [{ memReq (.writeBack 1) 32 with op := .write }] }

theorem witness_TasksCompleteAndWriteBack :
    (
      let gone := atHub W (.done (done0 0 3));
      let wrong := atHub running (.done (done0 1 3));
      let stale := atHub running (.done (done0 2 4));
      let good := atHub running (.done (done0 2 3));
      ([gone, wrong, stale, good].all fun s => match s.hubFront 1 with | some (.done _, _) => true | _ => false) = true ∧ tget gone.tasks 9 = none ∧ tget good.tasks 9 = some task0 ∧ (task0.positions.findIdx? fun p => p.nib == 1) = none ∧ (task0.positions.findIdx? fun p => p.nib == 2) = some 1 ∧ (task0.positions[1]?).any (fun p => !p.counted && p.epoch == 3 && p.epoch != 4) = true) ∧
    (
      let t := running;
      let last : State := { running with tasks := [(9, { task0 with positions := [⟨0, 3, false, false, none⟩, ⟨2, 3, false, true, none⟩] })] };
      (tget t.tasks 9).any (fun k => !((k.count 1 Code.ok none).positions.all Pos.counted)) = true ∧ (tget last.tasks 9).any (fun k => (k.count 0 Code.nibLost none).positions.all Pos.counted) = true) ∧
    (
      let a := wb [(0, ctx0)];
      let b := wb [];
      let off := wb [(0, { ctx0 with state := .faulted })];
      ([a, b, off].all fun s => (s.answered (.writeBack 1)).isSome) = true ∧ (match (a.ctxOfQueue 1) with | some (_, c) => c.served | none => false) = true ∧ b.ctxOfQueue 1 = none ∧ (match (off.ctxOfQueue 1) with | some (_, c) => !c.served | none => false) = true) :=
  ⟨by decide +kernel, by decide +kernel, by decide +kernel⟩
def timed (q : Nat) (c : Ctx) : State := { W with queues := [(q, { queue0 with timeoutUs := 2, subs := [{ sub0 with fetched := W.now - 2000 }] })], ctxs := [(0, c)] }
def oldReq (w : MemWait) : State := { W with mip := [memReq (.tailWord 7) 8, { memReq w 8 with since := W.now - 1000000 }] }
def leaving (c : Ctx) (work : Bool) : State := { (if work then running else W) with ctxs := [(0, c)], queues := (if work then running.queues else []) }
def off0 : Ctx := { ctx0 with state := .bindingOff }

theorem witness_TimeoutsKillsAndReleases :
    (
      let s := timed 0 ctx0;
      let t := timed 1 ctx0;
      (tget s.queues 0).any (fun x => (x.subs.find? fun u => u.retired.isNone).any fun u => decide (u.fetched + 1000 * x.timeoutUs ≤ s.now)) = true ∧ (tget t.queues 1).any (fun x => (x.subs.find? fun u => u.retired.isNone).any fun u => decide (u.fetched + 1000 * x.timeoutUs ≤ t.now)) = true ∧ t.ctxOfQueue 1 = some (0, ctx0) ∧ ctx0.kill = none) ∧
    (
      let ws : List MemWait := [.queueRecord 1, .tailWord 1, .commandBytes 1, .writeBack 1, .writeImm 1, .syncOp 1, .watchPoll 1];
      (ws.all fun w => ((oldReq w).mip.find? fun r => r.wait == some w && !r.dead).any fun r => decide (r.since + 1000000 ≤ (oldReq w).now)) = true) ∧
    (
      let a := leaving { off0 with deadline := some W.now } true;
      let b := leaving { off0 with deadline := some W.now } false;
      ([a, b].all fun s => (tget s.ctxs 0).any fun c => decide (c.state = .bindingOff ∧ c.kill = none ∧ c.deadline = some s.now)) = true ∧ a.workLeft 0 = true ∧ b.workLeft 0 = false) ∧
    (
      let c0 := off0;
      let c1 : Ctx := { off0 with releasing := true };
      let c2 : Ctx := { off0 with releasing := true, idle := true };
      let a := leaving c0 false;
      let b := leaving c1 false;
      let bb : State := { leaving c1 false with mip := [memReq (.commandBytes 1) 8] };
      let d := leaving c2 false;
      ([a, b, bb, d].all fun s => decide (s.primary = true ∧ s.workLeft 0 = false) && (tget s.ctxs 0).any fun c => decide (c.state = .bindingOff ∧ c.kill = none)) = true ∧ b.ctxBusy 0 c1 = false ∧ bb.ctxBusy 0 c1 = true) :=
  ⟨by decide +kernel, by decide +kernel, by decide +kernel, by decide +kernel⟩
def msg0 : TaskMsg := ⟨false, 0, 5, 0, 9, 0, 3, 0, 1, none, [0, 2], 0, []⟩
def passing (m : TaskMsg) : State := W.modSplitter 0 fun x => { x with down := [.task m] }
def share (migrated : Bool) : DoneMsg := ⟨migrated, false, 0, 0, 9, Code.ok, 3, [], none⟩
def fan0 : FanIn := ⟨9, 3, [0, 2], [], 0, 0, none⟩
def sending (f : FanIn) (m : UpMsg) : State := (W.modSplitter 0 fun x => { x with counters := [f] }).modNib 2 fun b => { b with up := [m] }
def fromNib (s : State) : Bool := match s.splitterFront 2 with | some (m, b, _) => b.via == 0 && b.up == [m] | none => false
def held0 : NibTask := ⟨msg0, 1, 0, some [], false, 0, none, none, none, [], [], false, none, 0, none⟩
def move0 (s : State) (drain : Option Nat) : State := { s with tasks := [(9, { task0 with positions := [⟨2, 3, false, false, drain⟩] })] }
def unstarted (k : NibTask) : State := W.modNib 2 fun b => { b with tasks := [k] }
def draining (m : UpMsg) (kill : Option Kill) : State := { (move0 (atHub W m) (some 0)) with ctxs := [(0, { ctx0 with kill := kill })] }

theorem witness_SplitterFanInAndMigration :
    (
      let a := passing msg0;
      let b := passing { msg0 with migrated := true, placement := [2] };
      ([a, b].all fun s => match (s.splitters[0]?) with | some x => x.link == .up && (match x.down with | [.task m] => decide m.placement.Nodup | _ => false) | none => false) = true ∧ (nib0.via == 0 && nib0.present) = true) ∧
    (
      let a := sending fan0 (.done (share false));
      let b := sending { fan0 with expected := [2] } (.done (share false));
      let e := sending { fan0 with tag := 8 } (.done (share false));
      let m := sending fan0 (.done (share true));
      ([a, b, e, m].all fromNib) = true ∧ a.counterOf 0 9 3 = some fan0 ∧ (fan0.expected.contains 2 && !fan0.arrived.contains 2) = true ∧ e.counterOf 0 9 3 = none ∧ (share true).migrated = true) ∧
    (splitter0.link = .up ∧ ({ fan0 with arrived := [0, 2] }).full = true ∧ fan0.full = false) ∧
    (
      let a := sending { fan0 with tag := 8 } (.withdrawn 2 9 3 1);
      let b := sending fan0 (.withdrawn 2 9 3 1);
      ([a, b].all fromNib) = true ∧ (a.splitterFront 2).any (fun p => decide ((p.2.2.splitterUp 0 (.withdrawn 2 9 3 1)).counterOf 0 9 3 = none)) = true ∧ (b.splitterFront 2).any (fun p => decide ((p.2.2.splitterUp 0 (.withdrawn 2 9 3 1)).counterOf 0 9 3 = some fan0)) = true ∧ fan0.expected.contains 2 = true) ∧
    (
      let a := sending fan0 (.barrier [2, 0, 1] 7 0);
      let b := sending fan0 (.barrier [2] 7 0);
      ([a, b].all fromNib) = true ∧ splitter0.barriers = [] ∧ W.partNibs 0 = [0, 1, 2] ∧ nib0.via = 0) ∧
    (
      let a := move0 (unstarted held0) none;
      let b := move0 W (some (W.now - 100000));
      (tget a.tasks 9).any (fun k => (k.positions[0]?).any fun p => !p.counted && p.drain.isNone && a.primary && a.stuck 9 p && (a.otherNibs k).any a.idleNib) = true ∧ (tget b.tasks 9).any (fun k => (k.positions[0]?).any fun p => b.primary && p.drain.any fun t => decide (t + 100000 ≤ b.now)) = true) ∧
    (
      let kl : Kill := ⟨Code.queueTimeout, 0, false⟩;
      let a := draining (.withdrawn 2 9 3 0) none;
      let b := draining (.withdrawn 2 9 3 0) (some kl);
      let c := draining (.started 2 9 3 0) none;
      let e := draining (.unknown 2 9 3 0) none;
      ([a, b, c, e].all fun s => (s.hubFront 1).any fun p => (tget p.2.tasks 9).any fun k => (k.positions[0]?).any fun q => q.drain.isSome && q.epoch == 3 && !q.counted && !p.2.feed.halt && !p.2.mgmt.warmReset) = true ∧ (tget a.ctxs 0).bind Ctx.kill = none ∧ (tget b.ctxs 0).bind Ctx.kill = some kl) ∧
    (
      let a := W.modNib 2 fun b => { b with down := [.withdraw 2 9 3 0] };
      let b := (unstarted { held0 with started := true }).modNib 2 fun b => { b with down := [.withdraw 2 9 3 0] };
      let c := (unstarted held0).modNib 2 fun b => { b with down := [.withdraw 2 9 3 0] };
      (a.nibFront 2).any (fun p => (p.2.1.task 9 3).isNone) = true ∧ (b.nibFront 2).any (fun p => (p.2.1.task 9 3).any fun j => j.started) = true ∧ (c.nibFront 2).any (fun p => (p.2.1.task 9 3).any fun j => !j.started) = true) ∧
    (
      let s := W;
      (s.nibs[1]?).any (fun b => b.present) = true ∧ (s.splitters[1]?).any (fun x => x.link == .up) = true ∧ (s.nibs.all fun b => b.via != 1) = true) :=
  ⟨by decide +kernel, by decide +kernel, by decide +kernel, by decide +kernel, by decide +kernel, by decide +kernel, by decide +kernel, by decide +kernel, by decide +kernel⟩
def front2 (m : DownMsg) : State := W.modNib 2 fun b => { b with down := [m] }
def ready0 (k : NibTask) (xs : List Stitcher) : State := W.modNib 2 fun b => { b with tasks := [k], slots := [⟨some 1, 0, some variant0, 0⟩], stitchers := xs, power := .run }
def st0 : Stitcher := variant0.start held0 0
def full0 (b : Nib) : Nib := b.modEq 0 0 fun e => { e with buf := List.replicate 4 ⟨1, 9, 3, 5, 0, 0, 0, [], 0, [], false⟩ }

theorem witness_NibTasks :
    (
      let a := front2 (.task { msg0 with const := some (0x100, 16) });
      let b := (front2 (.task msg0)).modNib 2 fun b => { b with power := .off };
      (a.nibFront 2).any (fun p => p.2.1.power != .off) = true ∧ (b.nibFront 2).any (fun p => p.2.1.power == .off) = true) ∧
    (
      let s := asked (W.modNib 2 fun b => { b with slots := [⟨some 1, 0, none, 0⟩] }) (.nibSlot 2 0) 8192;
      (s.answered (.nibSlot 2 0)).isSome = true) ∧
    (
      let s := asked (unstarted { held0 with constant := none }) (.nibConstants 2 9) 16;
      (s.answered (.nibConstants 2 9)).isSome = true) ∧
    (
      let s := ready0 held0 [];
      (s.nibs[2]?).any (fun b => b.present && decide (b.swapsIn = some (held0, variant0))) = true) ∧
    (
      let s := ready0 { held0 with started := true } [st0];
      let f := s.modNib 2 full0;
      ([s, f].all fun s => (s.nibs[2]?).any fun b => decide ((b.stitchers.find? fun x => x.core == 0 && !x.ended) = some st0 ∧ b.task 9 3 = some { held0 with started := true } ∧ b.body { held0 with started := true } = some variant0)) = true ∧
        ([(s, true), (f, false)].all fun (e : State × Bool) => (e.1.nibs[2]?).any fun b => let k : NibTask := { held0 with started := true }; let y := st0.begin k variant0; let r := b.emitAll k variant0 y (y.todo.getD []); decide ((r.2.2 = []) = (e.2 = true) ∧ st0.todo ≠ some r.2.2)) = true) ∧
    (variant0.templates[0]? = some template0 ∧ (nib0.queue 0 0).any (fun e => decide (e.buf.length < 4)) = true ∧ ((full0 nib0).queue 0 0).any (fun e => decide (4 ≤ e.buf.length)) = true ∧ template0.eq = 0 ∧ st0.core = 0) :=
  ⟨by decide +kernel, by decide +kernel, by decide +kernel, by decide +kernel, by decide +kernel, by decide +kernel⟩
def pk (uid : Nat) (deps : List Nat) : Packet := ⟨uid, 9, 3, 5, 0, 0, 0, [], 0, deps, false⟩
def om (seq : Nat) (p : Packet) : OutMop := ⟨seq, p, [], false⟩
def eqs (out : List OutMop) (buf : List Packet) : EngineQueue := { eq0 with out := out, buf := buf, nextSeq := 5 }
def nibEq (e f : EngineQueue) : State := (ready0 { held0 with started := true } [{ st0 with ended := true, todo := some [] }]).modNib 2 fun b => { b with cores := [[e, f]] }
def tok (seq busy status energy : Nat) : List Byte := leBytes 2 seq ++ leBytes 1 busy ++ leBytes 1 status ++ leBytes 4 energy
def out0 (q : EngineQueue → EngineQueue) : State := nibEq (q (eqs [om 4 (pk 1 [])] [])) (eqs [] [])
def residue2 (k : Option NibTask) (values : List W64) : State := W.modNib 2 fun b => { b with tasks := k.toList, down := [.residue 2 9 3 values] }
def rk : NibTask := { held0 with started := true, residue := [(4, 7, 0)], residueAsked := true }

theorem witness_NibIssueAndTokens :
    (
      let a := nibEq (eqs [om 4 (pk 1 [])] [pk 2 []]) (eqs [] [pk 3 [1]]);
      let p := { W with parts := [(0, { (tgetD W.parts 0 (W.newPart [0, 1, 2] 100 50)) with target := 0 })] }.modNib 1 fun b => { b with purl := 1, cores := [[{ eq0 with cls := 7 }, eq0]] };
      ([(a, 2), (p, 1)].all fun (e : State × Nat) => (e.1.nibs[e.2]?).any fun b => b.present && b.power != .off) = true ∧ (a.nibs[2]?).any (fun b => decide (b.readyHead 0 0 = some (pk 2 [])) && decide (b.readyHead 0 1 = none)) = true) ∧
    (
      let a := out0 id;
      let c := out0 fun e => { e with abort := some (.pasid 5) };
      let ts := [(a, tok 4 64 0 100), (a, tok 9 0 0 0), (a, tok 4 1 0 100), (a, tok 4 1 1 100), (a, tok 4 1 2 0), (c, tok 4 1 2 0), (a, tok 4 0 0x11 0), (a, tok 4 0 0x12 0)];
      (ts.all fun (e : State × List Byte) => (e.1.nibs[2]?).any fun b => b.present && (b.queue 0 0).any fun q => ((q.live.find? fun o => o.mopSeq == le e.2 0 2).isNone == (le e.2 0 2 == 9)) && q.out.all fun o => !o.packet.purl) = true) ∧
    (
      let a := residue2 none [7];
      let b := residue2 (some rk) [7];
      let c := residue2 (some rk) [8];
      (a.nibFront 2).any (fun p => (p.2.1.task 9 3).isNone) = true ∧ ([b, c].all fun s => (s.nibFront 2).any fun p => decide (p.2.1.task 9 3 = some rk)) = true ∧ ((rk.residue.zip [(7 : W64)]).find? fun r => r.1.2.1 != r.2) = none ∧ ((rk.residue.zip [(8 : W64)]).find? fun r => r.1.2.1 != r.2) = some ((4, 7, 0), 8)) ∧
    (
      let l : List (Option Nat) := [none, some 5, some 6];
      let dead := out0 fun e => { e with abort := some .all, abortSince := W.now - 100000 };
      (l.all fun q => ((out0 id).modNib 2 fun b => { b with down := [.abort [2] q Code.killedAtDeadline] }).nibFront 2 |>.isSome) = true ∧ (dead.nibs[2]?).any (fun b => (b.queue 0 0).any fun e => e.abort.isSome && decide (e.abortSince + 100000 ≤ dead.now)) = true) :=
  ⟨by decide +kernel, by decide +kernel, by decide +kernel, by decide +kernel⟩
def ask (kind flags seq tag : Nat) (fields : List (Nat × Nat × Nat)) : List Byte := build 64 ((0, 1, kind) :: (1, 1, flags) :: (2, 2, seq) :: (4, 1, tag) :: fields)
def live0 : State := (out0 id).modNib 2 fun b => { b with tasks := [{ held0 with started := true }] }
def aborted0 : State := (out0 id).modNib 2 fun b => { b with tasks := [{ held0 with started := true, abort := some Code.killedAtDeadline }] }
def o0 : OutMop := om 4 (pk 1 [])
def fateIs (s : State) (kind : Nat) (r : List Byte) (f : ReqFate → Bool) : Bool := match s.nibs[2]? with | some b => f (b.fate 0 0 kind r) | none => false
def taken0 (s : State) (kind : Nat) (r : List Byte) : Bool := fateIs s kind r fun f => match f with | .taken o => o == o0 | _ => false
def tlb0 : Tlb := ⟨5, 0x4000, 0x2000, 0x40000, true, false, some 0⟩
def cached0 : State := live0.modNib 2 fun b => { b with cache := [tlb0] }
def syncReply0 (result : Nat) : SyncReply := ⟨2, 0, 0, 4, 3, result, 7, Code.ok⟩
def opened0 (q : OpenReq) (m : DownMsg) : State := live0.modNib 2 fun b => { b.openWith 0 0 4 q with down := [m] }
def syncReq0 : OpenReq := ⟨3, 2, false, none, some 9, 0, 0, false⟩
def enq0 : OpenReq := ⟨0, 3, false, none, none, 0x100, 16, false⟩
def enqReply (result : Nat) : DownMsg := .enqueueReply 2 0 0 4 0 result 1 0x10040 0x100 16 5

theorem witness_EngineRequests :
    (
      let r1 := ask 1 0 4 1 [(8, 8, 0x5123)];
      let stray := ask 1 0 9 1 [];
      let unclean := ask 1 0 4 1 [(0x10, 8, 1)];
      fateIs live0 1 stray (fun f => match f with | .answered 5 true => true | _ => false) = true ∧ fateIs live0 1 unclean (fun f => match f with | .answered 5 false => true | _ => false) = true ∧ fateIs aborted0 1 r1 (fun f => match f with | .answered 6 false => true | _ => false) = true ∧ taken0 live0 1 r1 = true ∧
        ([live0, aborted0].all fun s => (s.nibs[2]?).any fun b => b.present && (b.queue 0 0).any fun q => decide ((q.out.foldl (fun n o => n + o.reqs.length) 0) < 4 ∧ (q.live.find? fun o => o.mopSeq == 4) = some o0 ∧ (q.live.find? fun o => o.mopSeq == 9) = none)) = true ∧ reqClean r1 = true ∧ le r1 0 1 = 1 ∧
        (live0.nibs[2]?).any (fun b => !b.abortedShare o0.packet) = true ∧ (aborted0.nibs[2]?).any (fun b => b.abortedShare o0.packet) = true) ∧
    (
      let r := ask 1 0 4 1 [(8, 8, 0x5123)];
      let w := ask 1 1 4 1 [(8, 8, 0x5123)];
      taken0 cached0 1 r = true ∧ taken0 cached0 1 w = true ∧ (cached0.nibs[2]?).any (fun b => decide ((b.cache.find? fun e => e.serves 5 0x5000 false) = some tlb0 ∧ (b.cache.find? fun e => e.serves 5 0x5000 true) = none)) = true) ∧
    (
      let b6 := ask 2 6 4 2 [(0x20, 4, 7)];
      let add := ask 2 1 4 3 [(0x20, 4, 9), (0x10, 8, 1)];
      let enq := ask 3 0 4 0 [(8, 8, 0x100), (0x20, 4, 1), (0x2C, 4, 16)];
      taken0 live0 2 b6 = true ∧ taken0 live0 2 add = true ∧ taken0 live0 3 enq = true ∧ (live0.nibs[2]?).any (fun b => decide (live0.coreMayArrive b o0.packet 0 7 = some skein0 ∧ b.task 9 3 = some { held0 with started := true })) = true ∧ live0.tracks held0 1 9 false = false ∧ bits (le b6 1 1) 2 0 = 6 ∧ bits (le add 1 1) 2 0 = 1) ∧
    (
      let a := opened0 syncReq0 (.syncReply (syncReply0 0));
      let rel := opened0 syncReq0 (.release [2] 0 7 0 Code.ok);
      let ok := opened0 enq0 (enqReply 0);
      let no := opened0 enq0 (enqReply 2);
      ([a, rel, ok, no].all fun s => (s.nibFront 2).isSome) = true ∧ (rel.nibFront 2).any (fun p => decide (p.2.1.barrierReqs 7 = [])) = true ∧ ([ok, no].all fun s => (s.nibFront 2).any fun p => (p.2.1.openReq 0 0 4 3 0).any fun q => q.2 == enq0) = true) ∧
    (
      let s := { (live0.modNib 2 fun b => { b.openWith 0 0 4 enq0 with enqueues := [enqReply 0] }) with mip := [{ memReq (.nibEntry 2) 64 with op := .write }] };
      (s.answered (.nibEntry 2)).isSome = true ∧ (s.nibs[2]?).any (fun b => decide (b.enqueues.head? = some (enqReply 0))) = true) :=
  ⟨by decide +kernel, by decide +kernel, by decide +kernel, by decide +kernel, by decide +kernel⟩
def xr (dirty dead : Bool) : XReq := ⟨3, some 2, 5, 0x5000, false, 0, none, if dirty then [(0x5000, 4096)] else [], dead, [(0, 0, 4, 1, 0x5123)]⟩
def xrHub : XReq := ⟨3, none, 5, 0x5000, false, 0, none, [], false, []⟩
def xopen : OpenReq := ⟨1, 1, false, none, none, 0x5123, 0, false⟩
def xlating (r : XReq) : State := let s := live0.modNib 2 fun b => b.openWith 0 0 4 xopen; { s with xlat := { s.xlat with reqs := [r] } }
def devQ (f : Queue → Queue) : Queue := f { queue0 with device := true, enabled := true, ringLog2 := 2 }
def enqAt (x : Queue) (len : Nat) : State := (withQ x).modSplitter 0 fun y => { y with up := [.enqueue 2 0 0 4 0 5 1 0x100 len] }
def resv0 (index : Option W32) (written : Bool) : Reservation := ⟨2, 0, 0, 4, 0, 0x100, 16, 0, index, written⟩
def writtenAt (x : Queue) : State := (withQ x).modSplitter 0 fun y => { y with up := [.entryWritten 1 2 0 0 4 0] }

theorem witness_TranslationsAndEnqueues :
    (
      let rs := [xr false false, xr true false, xr false true, xrHub, { xr true false with dirty := [(0x9000, 4096)] }];
      (rs.all fun r => decide (((xlating r).xlat.reqs.find? fun r => r.tag == 3 && decide (r.tag < 256)) = some r) && (r.dirty.any (fun d => rangesMeet d.1 d.2 0x4000 0x4000) == (decide (r.dirty = [(0x5000, 4096)])))) = true) ∧
    (
      let s := xlating { xr false false with since := W.now - 1000000 };
      let c := { W with xlat := { W.xlat with users := [(5, [0, 2])] } };
      let v := W.modNib 2 fun b => { b with cache := [tlb0], down := [.invalidate 2 7 (some 5) 0x5000 0x1000] };
      let f := { W with xlat := { W.xlat with invs := [⟨7, some 5, 0x5000, 0x1000, []⟩] } };
      (s.xlat.reqs.find? fun r => r.tag == 3 && decide (r.tag < 256) && !r.dead).any (fun r => decide (r.since + 1000000 ≤ s.now)) = true ∧ (c.awake && c.primary && c.xlat.invs.isEmpty) = true ∧ (v.nibFront 2).isSome = true ∧ (f.awake && f.primary && f.splitters.all fun x => x.up.isEmpty) = true) ∧
    (
      let bad := enqAt (devQ id) 8;
      let good := enqAt (devQ id) 16;
      let behind := enqAt (devQ fun x => { x with resv := [resv0 none false] }) 16;
      ([bad, good, behind].all fun s => (s.hubFront 0).isSome) = true ∧ (bad.hubFront 0).any (fun p => decide (p.2.enqueueCheck 5 1 0x100 8 = some 4)) = true ∧ ([good, behind].all fun s => (s.hubFront 0).any fun p => decide (p.2.enqueueCheck 5 1 0x100 16 = none)) = true) ∧
    (
      let s := withQ (devQ fun x => { x with resv := [resv0 none false] });
      let full := withQ (devQ fun x => { x with resvTail := 4, resv := [resv0 none false] });
      (s.grantSlot 1).isSome = true ∧ s.primary = true ∧ s.awake = true ∧ s.ctxOfQueue 1 = some (0, ctx0) ∧ (takeFirst (fun r => r.index.isNone) [resv0 none false]) = some (resv0 none false, []) ∧ (devQ id).hasSlot = true ∧ (devQ fun x => { x with resvTail := 4 }).hasSlot = false ∧ (resv0 none false).since + 100000 ≤ full.now) ∧
    (
      let near := devQ fun x => { x with resvTail := 1, resv := [resv0 (some 0) false] };
      let far := devQ fun x => { x with resvTail := 2, resv := [{ resv0 (some 0) false with reqTag := 1 }, resv0 (some 1) false] };
      let fin := fun (x : Queue) => Queue.advanceTail 65537 { x with resv := modFirst (fun r => r.is 2 0 0 4 0) (fun r => { r with written := true }) x.resv };
      ([near, far].all fun x => ((writtenAt x).hubFront 0).any fun p => (tget p.2.queues 1 == some x) && p.2.ctxOfQueue 1 == some (0, ctx0)) = true ∧ (fin near).tail ≠ near.tail ∧ (fin near).resident = true ∧ (fin far).tail = far.tail) :=
  ⟨by decide +kernel, by decide +kernel, by decide +kernel, by decide +kernel, by decide +kernel⟩
def op0 (add : Bool) (ph : MemOpPhase) : MemOp := ⟨6, add, 5, some 0, 0x108, 3, h0, .host, ph⟩
def oping (o : MemOp) : State := let s := asked W (.syncOp 6) 8; { s with sync := { s.sync with memOps := [o], nextOp := 7 } }
def watch0 (p : Option Nat) (polling : Bool) : Watch := ⟨5, some 0, 0x108, 1, p, polling⟩
def wait0 (reg : Bool) : SyncWait := ⟨8, h0, some 0, .sram 9, 2, 3, 0, .queue 1 1 16, W.now - 2000, 2, 0, reg, false⟩
def waitS (w : SyncWait) : State := { (win (.syncWait 2 false 9 0 3 0 2 0)) with sync := { W.sync with waits := [w], nextWait := 9 } }
def sreq (tag : Nat) : SyncReq := ⟨2, 0, 0, 4, 3, tag, 1, false, 9, 0, 7, 0, 0, 0, 0⟩
def syncAt (m : UpMsg) : State := running.modSplitter 0 fun y => { y with up := [m] }
def killed9 (s : State) : State := { s with ctxs := s.ctxs.map fun e => (e.1, { e.2 with kill := some ⟨Code.killedAtDeadline, 0, false⟩ }) }

theorem witness_SyncUnitCommands :
    (
      let a := op0 false .setting;
      let r := op0 true .reading;
      let w := op0 true (.swapping 4 7);
      ([a, r, w].all fun o => ((oping o).answered (.syncOp 6)).isSome && decide ((oping o).sync.memOps.find? (fun o => o.ident == 6) = some o)) = true ∧ syncAdd 4 3 = some 7 ∧ syncAdd 0xFFFFFFFFFFFFFFFE 3 = none) ∧
    (
      let s : State := { W with sync := { W.sync with watches := [(2, watch0 none false), (3, watch0 (some 0) false), (4, watch0 none true)] } };
      let o : State := { W with sync := { W.sync with watches := [(3, watch0 (some (W.now - 1000)) false)] } };
      let z : State := let u : State := { W with mip := [{ memReq (.watchPoll 3) 8 with addr := 0x108 }] }; { u with sync := { u.sync with watches := [(3, watch0 none true)] } };
      (s.sync.due s.now = some 2 ∧ tget s.sync.watches 2 = some (watch0 none false) ∧ (s.sync.watches.map Prod.fst).Nodup) ∧ (o.sync.due o.now = some 3) ∧ (z.answered (.watchPoll 3)).isSome = true ∧ tget z.sync.watches 3 = some (watch0 none true) ∧ ((asked z (.watchPoll 3) 8).answered (.watchPoll 3)).any (fun p => decide ((watch0 none true).addr ≠ p.1.addr)) = true ∧ (z.answered (.watchPoll 3)).any (fun p => decide ((watch0 none true).addr = p.1.addr ∧ (watch0 none true).pasid = p.1.pasid)) = true) ∧
    (
      let a := waitS (wait0 false);
      let b := waitS (wait0 true);
      a.sync.waits.find? (fun w => !w.registered && !w.held && w.onWord && a.sync.room w) = some (wait0 false) ∧ (b.sync.waits.find? fun w => w.ident == 8).any (fun w => decide (0 < w.timeoutUs ∧ w.since + 1000 * w.timeoutUs ≤ b.now)) = true) ∧
    (
      let ab := killed9 (syncAt (.sync { sreq 9 with op := 2 }));
      let a := syncAt (.sync (sreq 9));
      let b := syncAt (.sync (sreq 10));
      let c := syncAt (.residue 2 9 3 [9, 10]);
      ([a, b, c].all fun s => (s.hubFront 0).isSome) = true ∧ (a.hubFront 0).any (fun p => tget p.2.tasks 9 == some task0) = true ∧ (b.hubFront 0).any (fun p => (tget p.2.tasks 10).isNone) = true ∧ (ab.hubFront 0).any (fun p => tget p.2.tasks 9 == some task0 && p.2.aborted task0) = true) :=
  ⟨by decide +kernel, by decide +kernel, by decide +kernel, by decide +kernel⟩
def kids : SkeinEntry := { skein0 with children := 2, parent := some 4, childDevice := [6, 7], childRelease := [0x500, 0x508] }
def run0 (e : SkeinEntry) (up : Bool) : BarrierRun := ⟨e, 3, W.now - 100000, up, [0, 1, 2], [], 0, List.replicate e.children none, (0, 0), some (W.now - 200), false⟩
def barAt (b : Nat) : State := W.modSplitter 0 fun y => { y with up := [.barrier [2] b 0] }
def barW (e : SkeinEntry) (rs : List BarrierRun) : State := { W with live := { W.live with skein := [e] }, sync := { W.sync with barriers := rs } }
def returned (e : SkeinEntry) (rs : List BarrierRun) (word : Option Nat) : State := let s := barW e rs; { s with mip := [memReq (.barrierPoll 7 word) 8] }

theorem witness_BarrierInstances :
    (
      let a := barAt 8;
      let b := barAt 7;
      let busy : State := let s := barAt 7; { s with sync := { s.sync with barriers := (List.range 16).map fun i => run0 { skein0 with barrier := 100 + i } false } };
      ([a, b, busy].all fun s => (s.hubFront 0).isSome) = true ∧ (a.hubFront 0).any (fun p => decide (p.2.skeinEntry 8 = none)) = true ∧ (b.hubFront 0).any (fun p => decide (p.2.skeinEntry 7 = some skein0)) = true ∧ (busy.hubFront 0).any (fun p => decide (p.2.barrierRun 7 = none ∧ 16 ≤ p.2.sync.barriers.length)) = true) ∧
    (
      let idle := barW kids [];
      let up := barW kids [run0 kids true];
      let down := barW kids [{ run0 kids false with childDone := [none, some (0, 0)] }];
      (idle.barrierRun 7 = none ∧ idle.skeinEntry 7 = some kids ∧ 0 < kids.children ∧ idle.primary = true) ∧ up.barrierRun 7 = some (run0 kids true) ∧ down.barrierRun 7 = some { run0 kids false with childDone := [none, some (0, 0)] } ∧ (run0 kids true).lastPoll.all (fun p => decide (p + 200 ≤ up.now)) = true ∧ up.waitsFor (.barrierPoll 7 none) = false) ∧
    (
      let kid := returned kids [run0 kids false] (some 1);
      let rel := returned kids [run0 kids true] none;
      let gone := returned kids [] none;
      ([(kid, some 1), (rel, none), (gone, none)].all fun (e : State × Option Nat) => (e.1.answered (.barrierPoll 7 e.2)).isSome) = true ∧ (kid.answered (.barrierPoll 7 (some 1))).any (fun p => decide (p.2.barrierRun 7 = some (run0 kids false))) = true ∧ (rel.answered (.barrierPoll 7 none)).any (fun p => decide (p.2.barrierRun 7 = some (run0 kids true))) = true ∧ (gone.answered (.barrierPoll 7 none)).any (fun p => decide (p.2.barrierRun 7 = none)) = true ∧
        (3 % 0x100000000 = (run0 kids true).gen.toNat ∧ 4 % 0x100000000 ≠ (run0 kids true).gen.toNat ∧ bit 3 32 = false ∧ bit 0x100000003 32 = true ∧ releaseClean 3 = true ∧ releaseClean 0x100000003 = true ∧ releaseClean 0x80000000000003 = false ∧ slotClean 0x80000000000003 = false ∧ 0x100000003 % 0x100000000 = (run0 kids true).gen.toNat)) ∧
    (
      let root := barW skein0 [run0 skein0 false];
      let mid := barW kids [run0 kids true];
      root.barrierRun 7 = some (run0 skein0 false) ∧ mid.barrierRun 7 = some (run0 kids true) ∧ (run0 kids true).since + 1000 * kids.timeoutUs ≤ mid.now ∧ skein0.parent = none ∧ kids.parent ≠ none) :=
  ⟨by decide +kernel, by decide +kernel, by decide +kernel, by decide +kernel⟩
def railed (f : Rail → Rail) : State := W.modRail 0 f
def pairS0 (r : Role) : State := { W with build := { small with mirrored := true }, mir := { W.mir with role := r } }
def hint0 : Hint := { t0 := 5000000000, leadUs := 4, load := 1, durUs := 10, cls := 0, level := 2, ramping := false }
def hint1 : Hint := { hint0 with t0 := 4999990000 }
def held1 : State := { W with parts := [(0, { W.newPart [0, 1, 2] 100 50 with target := 2, hint := some hint1 })] }
def hinted : State := { W with parts := [(0, { W.newPart [0, 1, 2] 100 50 with target := 0, hint := some hint0 })] }

theorem witness_FeedTimers :
    (
      let r0 : Rail := { Rail.reset with debt := 2, powerCount := 100, powerSum := 500, rawWindow := 60000000 };
      let s := railed fun _ => r0;
      let sense := railed fun r => { r with temp := some 95, powerMw := some 3 };
      let nolim : State := { W with live := { W.live with limits := none } };
      W.primary = true ∧ [] ≠ s.nibReports ∧ ((pairS0 .following).due 0 1024 && !(pairS0 .following).primary) = true ∧ sense.live.limits = some limits ∧ nolim.live.limits = none ∧ (nolim.due 1 2048 && nolim.due 3 100000) = true ∧ (W.due 0 1024 && W.due 1 2048 && W.due 2 10000000 && W.due 3 100000 && W.due 4 100000000) = true ∧ W.live.limits = some limits ∧ (s.feed.rails[0]? = some r0 ∧ 0 < r0.debt ∧ r0.powerCount = 100 ∧ 0 < r0.rawWindow) ∧ Rail.reset.debt = 0 ∧ Rail.reset.powerCount ≠ 100 ∧ Rail.reset.powerMw = none) ∧
    ((limits.thermalLimit ≤ (90 : Int)) ∧ ((84 : Int) < limits.thermalLimit - limits.thermalHyst) ∧ (¬(85 : Int) < limits.thermalLimit - limits.thermalHyst ∧ (85 : Int) < limits.thermalLimit) ∧ ((tget hinted.parts 0).any fun x => x.hint == some hint0 && !hint0.ramping && decide (hint0.t0 + 1000 * hint0.leadUs ≤ hinted.now + 1000 * ((hint0.level - x.target) * limits.stepMinUs)) && (decide (x.target < hint0.level) && !(x.over limits hinted.feed.hostLimit.toNat) && hinted.mayCapStep limits x)) = true ∧ ((tget held1.parts 0).any fun x => x.hint == some hint1 && decide (hint1.t0 + 1000 * hint0.leadUs ≤ held1.now + 1000 * ((hint0.level - x.target) * limits.stepMinUs)) && !decide (x.target < hint0.level)) = true) :=
  ⟨by decide +kernel, by decide +kernel⟩

theorem witness_PowerStates :
    (
      let a := railed fun r => { r with request := some (3, 1, W.now - 100000) };
      (W.feed.rails[0]?).any (fun r => r.request.isNone) = true ∧ (pairS0 .following).primary = false ∧ ((pairS0 .following).feed.rails[0]?).any (fun r => r.request.isNone) = true ∧ (a.feed.rails[0]?).any (fun r => r.request.any fun q => decide (q = (3, 1, W.now - 100000) ∧ q.2.2 + 100000 ≤ a.now)) = true ∧ (W.nibs[2]?).isSome = true) ∧
    (
      let w := { (railed fun r => { r with lastRelease := some (W.now - 100) }) with feed := { (railed fun r => { r with lastRelease := some (W.now - 100) }).feed with wakes := [⟨1, some 0⟩] } };
      let k := W.modNib 2 fun b => { b with power := .off, waking := true };
      let o := W.modNib 2 fun b => { b with openCores := 0 };
      let o2 := W.modNib 2 fun b => { b with ports := [([4], [0]), ([4], [0])], cores := [[eq0], [{ eq0 with opened := false }]], openedAt := W.now - 10 };
      (takeFirst (fun w' => w.railOf w'.nib == 0) w.feed.wakes) = some (⟨1, some 0⟩, []) ∧ W.now - 100 + limits.staggerNs ≤ w.now ∧ (k.nibs[2]?).any (fun b => b.present && b.waking) = true ∧ (k.feed.rails[k.railOf 2]?).isSome = true ∧ (o.nibs[2]?).any (fun b => b.present && b.power != .off && decide (b.openCores < b.ports.length)) = true ∧ (o2.nibs[2]?).any (fun b => b.present && b.power != .off && decide (b.openCores < b.ports.length ∧ b.openedAt + limits.eqOpenNs ≤ o2.now)) = true ∧ k.roundFits (.nib 2) [pr0, pr1, pr2, pr3] = true) ∧
    (
      let i : State := { W with cfg := { W.cfg with nibOffUs := 5 } };
      (i.nibs[2]?).any (fun b => decide (b.present = true ∧ b.power = .idle ∧ b.tasks = [] ∧ b.down = [] ∧ b.idleSince + 1000 * i.cfg.nibOffUs.toNat ≤ i.now)) = true ∧ 0 < i.cfg.nibOffUs.toNat) ∧
    (
      let d : State := { W with cfg := { W.cfg with dozeUs := 5 } };
      let d3 : State := { W with cfg := { W.cfg with dozeUs := 5 }, power := { W.power with since := W.now, brief := true } };
      let s : State := { (W.modNib 2 id) with cfg := { W.cfg with sleepUs := 5 }, power := { W.power with hub := .doze }, nibs := W.nibs.map fun b => { b with power := .off } };
      let k : State := { W with power := { W.power with hub := .sleep, since := W.ductus.count }, bells := { W.bells with catcher := [⟨3, 1, 1, h0, 0, false, false⟩] } };
      let k2 : State := { W with power := { W.power with hub := .doze, since := 0 } };
      (d3.power.hub = .active ∧ d3.cfg.dozeUs ≠ 0 ∧ d3.hubIdle = true ∧ d3.power.brief = true) ∧ (d.power.hub = .active ∧ d.cfg.dozeUs ≠ 0 ∧ d.hubIdle = true ∧ d.power.since + 1000 * d.cfg.dozeUs.toNat ≤ d.now) ∧ (s.power.hub = .doze ∧ s.cfg.sleepUs ≠ 0 ∧ (s.nibs.all fun b => !b.present || b.power == .off) = true ∧ s.sync.watches = [] ∧ s.power.since + 1000 * s.cfg.sleepUs.toNat ≤ s.now) ∧ (k.awake = false ∧ k.bells.catcher ≠ []) ∧ (k2.awake = false ∧ k2.roundDue = true) ∧ ({ W with cfg := { W.cfg with dozeUs := 0 } } : State).cfg.dozeUs = 0) :=
  ⟨by decide +kernel, by decide +kernel, by decide +kernel, by decide +kernel⟩
def pairS (r : Role) (f : Mir → Mir) : State := { W with build := { small with mirrored := true }, mir := f { W.mir with role := r } }
def mrec0 : MirrorRecord := ⟨⟨[], [], [], W.live, .sealed, [], [], 7, 0, W.sync, [], ⟨W.mbx.boxes, [], [], [], 4, [], [], ⟨none, none, .draining, 9, 0, 0, true⟩⟩, ⟨W.ductus.count, 0, 0, W.ductus.epoch, 0, 0, 0, 0⟩, []⟩, [(3, 1, 1)], []⟩

theorem witness_MirrorAndTakeover :
    (
      let p := pairS .primaryMirrored fun m => { m with linkUp := true, sent := 3, acked := 2, waitSince := W.now - 50000, lastBeat := W.now - 5000, held := [⟨3, .xic 1⟩, ⟨4, .xic 2⟩] };
      p.mir.role = .primaryMirrored ∧ p.mir.linkUp = true ∧ p.mir.acked < p.mir.sent ∧ p.mir.waitSince + 50000 ≤ p.now ∧ p.mir.lastBeat + 5000 ≤ p.now ∧ W.mir.role ≠ .primaryMirrored) ∧
    (
      let f := { pairS .following id with bells := { W.bells with catcher := [⟨3, 1, 1, h0, 0, false, false⟩, ⟨3, 2, 1, h0, 0, false, false⟩] } };
      let y := pairS .syncing id;
      let c := (pairS .primaryAlone id).modSplitter 0 fun x => { x with heard := W.now - 2000 };
      f.mir.role = .following ∧ y.mir.role = .syncing ∧ (c.build.mirrored && c.primary && c.awake) = true ∧ (c.splitters[0]?).any (fun x => x.link == .up && decide (x.heard + 2000 ≤ c.now)) = true) ∧
    (
      let f := pairS .following fun m => { m with lastBeat := W.now - 50000, lastSweep := W.now - 10000000 };
      let c := pairS .claiming fun m => { m with asked := [0, 1], claimedAt := W.now - 10000 };
      let n := pairS .claiming fun m => { m with refused := [1] };
      let e := pairS .claiming id;
      let l := pairS .yielded id;
      f.mir.role = .following ∧ f.mir.lastBeat + 50000 ≤ f.now ∧ f.mir.lastSweep + 10000000 ≤ f.now ∧ (c.mir.role = .claiming ∧ c.mir.asked.contains 1 = true ∧ c.mir.claimedAt + 10000 ≤ c.now ∧ (c.nibs.all fun b => b.via != 1) = true) ∧ (n.mir.role = .claiming ∧ n.mir.refused.contains 1 = true) ∧ (e.mir.role = .claiming ∧ e.mir.asked = [] ∧ e.mir.refused = []) ∧ l.mir.role = .yielded) ∧
    (
      let y := pairS .syncing id;
      let p := pairS .primaryAlone id;
      (y.cpb.state = .running ∧ y.mir.role = .syncing) ∧ (p.mir.role = .primaryAlone ∧ p.build.mirrored = true ∧ p.cpb.state = .running) ∧ ¬((1 : BitVec 384) = y.cpb.patchDigest ∧ y.mgmt.fwVersion = y.mgmt.fwVersion)) :=
  ⟨by decide +kernel, by decide +kernel, by decide +kernel, by decide +kernel⟩
def dmeAt (w : Nat) (f : Dme → Dme) : State := { W with dmes := lmod W.dmes 0 fun m => f { m with next := ⟨1, 0⟩, stopped := false, freeze := false, kill := false, stopCount := false, wake := false, inHandler := false }, cpb := { W.cpb with margin := [(0, BitVec.ofNat 192 w)] } }
def dmeStates : List State := [dmeAt (2 ^ 23) fun m => { m with freeze := true, wake := true }, dmeAt (2 ^ 23) id, dmeAt (3 * 2 ^ 20) id]
def recover (action target : Nat) : Prog := prog 0x0901 [(0x20, 4, action), (0x24, 4, target)] []
def recovering (s : State) (action target : Nat) : State := inProg s (recover action target)
def resettingQ (faulted : Bool) : Queue := { queue0 with resetting := true, faulted := faulted, subs := [{ sub0 with retired := some Code.ok }] }
def retrain (from_ : Nat) : State := { (W.modNib 2 fun b => { b with link := .absent, trainFrom := from_, firstReport := some (1, [([4], [0])]) }) with mgmt := { W.mgmt with recoveries := [(2, 2)] } }

theorem witness_FaultsAndRecovery :
    (
      let halted : State := pairS .following id;
      let busyBox : State := { W with mbx := { W.mbx with boxes := W.mbx.boxes.set 0 { Mailbox.reset with owner := 1, state := .posted } } };
      busyBox.cpb.state = .running ∧ (busyBox.mbx.boxes.any fun z => z.busy && !z.forced) = true ∧ W.feed.halt = false ∧ W.primary = true ∧ halted.feed.halt = false ∧ halted.primary = false) ∧
    (
      let one : BitVec 192 := 2 ^ 191;
      let two : BitVec 192 := 2 ^ 191 + 1;
      (dmeStates.all fun s => s.awake && s.power.hclk && (s.dmes[0]?).any fun m => !m.stopped) = true ∧ (dmeStates.map fun s => (s.dmes[0]?).any fun m => match m.form (s.cpb.content m.next) 0 with | .ok _ => true | .error _ => false) = [true, true, false] ∧ wordSafe (2 ^ 23) = true ∧
        (dmeStates.map fun s => (s.dmes[0]?).map fun m => (m.freeze, m.inHandler, m.latched, s.cpb.content m.next)) = [some (true, false, true, 2 ^ 23), some (false, false, false, 2 ^ 23), some (false, false, false, 3 * 2 ^ 20)] ∧ bitsSet one = 1 ∧ 2 ≤ bitsSet two ∧ bitsSet 0 < 2 ∧ ({ W with cpb := { W.cpb with mcodeFault := 0x80000000 } } : State).cpb.mcodeFault.getLsbD 31 = true) ∧
    (
      let q := recovering W 1 1;
      let n := recovering W 2 2;
      let w := recovering W 3 0;
      let f := recovering W 4 0;
      let m := recovering (pairS .primaryMirrored id) 4 0;
      q.mayCommit 0 0x0901 q.recoverChecks (recover 1 1) ∧ n.mayCommit 0 0x0901 n.recoverChecks (recover 2 2) ∧ w.mayCommit 0 0x0901 w.recoverChecks (recover 3 0) ∧ f.mayCommit 0 0x0901 f.recoverChecks (recover 4 0) ∧ m.mayCommit 0 0x0901 m.recoverChecks (recover 4 0) ∧ ((recover 1 1).arg 0x20 = 1 ∧ (recover 1 1).arg 0x24 = 1 ∧ tget q.queues 1 = some queue0 ∧ q.ctxOf queue0.handle = some (0, ctx0) ∧ ctx0.state = .active)) ∧
    (
      let a := withQ (resettingQ true);
      let b := withQ (resettingQ false);
      ([(a, true), (b, false)].all fun (e : State × Bool) => e.1.firmware && tget e.1.queues 1 == some (resettingQ e.2) && ((resettingQ e.2).subs.all fun u => u.retired.isSome) && e.1.ctxOf (resettingQ e.2).handle == some (0, ctx0)) = true ∧ (resettingQ true).enabled = (resettingQ true).enabled) ∧
    (
      let s : State := retrain (W.now - 600000);
      let r : State := retrain (W.now + 1);
      r.now < W.now + 1 ∧ 600000 ≤ s.now ∧ s.firmware = true ∧ s.mgmt.recoveries.contains (2, 2) = true ∧ (s.nibs[2]?).any (fun b => decide (b.firstReport = some (1, portsOf [[⟨4, 0⟩]]) ∧ ¬b.firstReport = some (1, portsOf []))) = true) :=
  ⟨by decide +kernel, by decide +kernel, by decide +kernel, by decide +kernel, by decide +kernel⟩

end Sys2Proof.Tests
end

section
/-! Accesses in reserved ranges and at unassigned offsets (R14). -/

namespace Sys2Proof.Machine

open Sys2Proof

/-- The two reserved ranges of R526 lie above the register blocks and outside the windows. -/
theorem assignedByte_of_reserved {off : Nat}
    (h : (0xA0000 ≤ off ∧ off < 0x100000) ∨ (0x240000 ≤ off ∧ off < 0x1000000)) : assignedByte off = false := by
  have above_blocks : ¬off < 0xA0000 := by omega
  have outside_windows : 0x100000 ≤ off → 0x240000 ≤ off := by omega
  simpa [assignedByte, above_blocks] using outside_windows

/-- The port's test that an access covers no assigned byte is met. -/
theorem all_unassigned {off n : Nat} (h : ∀ i < n, assignedByte (off + i) = false) :
    ((List.range n).all fun i => !assignedByte (off + i)) = true :=
  List.all_eq_true.mpr fun i hi => by rw [h i (List.mem_range.mp hi), Bool.not_false]

/-- An access that R70, R71 and R443 do not hold back is served at once. -/
theorem hostAccess_of_serves {s : State} (hs : s.serves) (a : HtpAccess) : s.hostAccess a = s.serveAccess a := by
  obtain ⟨href, htest, hawake, -⟩ := hs
  simp [State.hostAccess, href, htest, hawake]

/-- R14: an access of a listed size without an assigned byte is neither refused nor judged under R67, whatever its
alignment. -/
theorem serveAccess_unassigned (s : State) {a : HtpAccess} {n : Nat} (hn : accessBytes a.size = some n)
    (h : ∀ i < n, assignedByte (a.offset + i) = false) :
    s.serveAccess a = if a.write then s else s.respond a false 0 := by
  simp only [State.serveAccess, hn]
  exact if_pos (all_unassigned h)

end Sys2Proof.Machine

open Sys2Proof Sys2Proof.Machine

/-- Settles O10: the port's first branch after the size of the access takes it, before the alignment and the role of the
Hub are looked at. -/
theorem unassignedOffsetsDoNothing : Obligations.UnassignedOffsetsDoNothing := by
  refine ⟨fun s a n hs hn hbytes => ?_, fun off hoff => assignedByte_of_reserved hoff⟩
  have hserve : s.hostAccess a = if a.write then s else s.respond a false 0 :=
    (hostAccess_of_serves hs a).trans (serveAccess_unassigned s hn hbytes)
  constructor
  · intro hwrite
    rw [hserve, if_pos hwrite]
  · intro hread
    rw [hserve, hread]
    rfl

end

section
/-! Submission timeouts, unanswered memory requests, bind-off deadlines and the release of a context (R144, R153 to R155,
R182, R183, R503). -/

namespace Sys2Proof.Machine

open Sys2Proof

variable {s : State} {q slot : Nat} {x : Queue} {u : Sub} {c : Ctx} {r : MemReq} {w : MemWait}

/-! ## Timeouts -/

/-- R182: the admin queue's expired submission retires alone. -/
theorem queueTimeout_admin (hx : tget s.queues 0 = some x) (hu : (x.subs.find? fun u => u.retired.isNone) = some u)
    (due : u.fetched + 1000 * x.timeoutUs ≤ s.now) :
    exec (.queueTimeout 0) s = .next (s.ends (s.retire 0 u.seq Code.queueTimeout)) := by
  simp only [exec, execQueueTimeout, hx, hu, Option.bind_some, Option.map_some, if_pos due, if_true, done, State.ends]

/-- R183: an expired submission of another queue faults the queue's context, where no kill runs in it. -/
theorem queueTimeout_faults (hx : tget s.queues q = some x) (hu : (x.subs.find? fun u => u.retired.isNone) = some u)
    (due : u.fetched + 1000 * x.timeoutUs ≤ s.now) (other : q ≠ 0) (owner : s.ctxOfQueue q = some (slot, c))
    (alive : c.kill = none) :
    exec (.queueTimeout q) s = .next (s.endsQuiet ((s.overtaken q).queueCtxFault q Code.queueTimeout)) := by
  simp only [exec, execQueueTimeout, hx, hu, Option.bind_some, Option.map_some, if_pos due, if_neg other, owner, Ctx.killed,
    alive, Option.isSome_none, Bool.false_eq_true, if_false, done, State.endsQuiet]

/-- The oldest live request for a purpose that is on its port has had no response for 1 ms (R503): it is given up, with its
tag still in use, and the waiting unit sees an error. -/
theorem memoryResponseTimeout_of_due
    (hr : (s.mip.find? fun r => r.wait == some w && !r.dead && r.pages.isEmpty) = some r) (due : r.since + 1000000 ≤ s.now) :
    exec (.memoryResponseTimeout w) s = State.asError { s with mip := s.mip ++ [{ r with dead := true }] } r w := by
  simp only [exec, execMemoryResponseTimeout, hr, if_pos due]

/-- A bind-off whose deadline has passed outside a kill (R144, R154). -/
theorem bindOffDeadline_of_due {d : Nat} (hc : tget s.ctxs slot = some c) (primary : s.primary = true)
    (leaving : c.state = .bindingOff) (alive : c.kill = none) (hd : c.deadline = some d) (due : d ≤ s.now) :
    exec (.bindOffDeadline slot) s =
      let t := s.modCtx slot fun c => { c with deadline := none }
      .next (State.close s (if s.workLeft slot then (t.startKill slot Code.killedAtDeadline).quiet else t)) := by
  simp only [exec, execBindOffDeadline, hc, hd, primary, leaving, alive, due, Option.isNone_none, and_self, if_true]
  rfl

/-! ## The turns of a release -/

/-- A BINDING_OFF context without work left, where a kill has completed its events: the turn that the bits RELEASING and IDLE
name (R154). -/
theorem contextRelease_of_drained (hc : tget s.ctxs slot = some c) (primary : s.primary = true)
    (leaving : c.state = .bindingOff) (killed : ∀ k, c.kill = some k → k.eventsDone = true) (drained : s.workLeft slot = false) :
    exec (.contextRelease slot) s =
      if ¬c.releasing then .next (s.endsQuiet (s.beginRelease slot c))
      else if ¬c.idle then
        (if s.ctxBusy slot c then .next s else .next (State.close s (s.modCtx slot fun c => { c with idle := true })))
      else .next (s.ends ((s.bindOffWaiters slot).foldl (fun t p => t.answer p Code.ok 0 []) (s.freeCtx slot c))) := by
  simp only [exec, execContextRelease, hc]
  refine if_pos ⟨primary, leaving, ?_, by simp [drained]⟩
  cases hk : c.kill with
  | none => rfl
  | some k => exact killed k hk

/-! ## What the release frees -/

/-- A memory read of the Hub touches no context (R478). -/
theorem State.readMem_ctxs (s : State) (w : MemWait) (pasid : Nat) (part : Option Nat) (addr : W64) (len : Nat) (phys : Bool) :
    (s.readMem w pasid part addr len phys).ctxs = s.ctxs := by
  unfold State.readMem
  obtain ⟨mip, xlat, h⟩ := s.putMem_eq _
  rw [h]

/-- A tail word that is asked for touches no context (R175). -/
theorem State.readTail_ctxs (s : State) (q : Nat) : (s.readTail q).ctxs = s.ctxs := by
  unfold State.readTail
  split
  · split
    · rw [State.modQueue_ctxs, State.readMem_ctxs]
    · rfl
  · rfl

/-- A doorbell's tail procedure touches no context (R175). -/
theorem State.bell_ctxs (s : State) (q : Nat) (d : W32) : (s.bell q d).ctxs = s.ctxs := by
  unfold State.bell
  split
  · rfl
  · split
    · rfl
    · split
      · rfl
      · exact State.readTail_ctxs _ q

/-- Filling resident states from the paging list touches no context (R168). -/
theorem State.pageInN_ctxs (fuel : Nat) (s : State) : (State.pageInN fuel s).ctxs = s.ctxs := by
  induction fuel generalizing s with
  | zero => rfl
  | succ fuel ih =>
    unfold State.pageInN
    split
    · split
      · rw [ih]
        split
        · split
          · exact State.bell_ctxs _ _ _
          · split
            · rfl
            · exact State.readMem_ctxs _ _ _ _ _ _ _
        · rfl
      · rfl
    · rfl

theorem State.foldl_freeQueueRecord_ctxs (qs : List Nat) (s : State) :
    (qs.foldl State.freeQueueRecord s).ctxs = s.ctxs := by
  induction qs generalizing s with
  | nil => rfl
  | cons q qs ih => exact ih (s.freeQueueRecord q)

/-- R141, R154: the freed slot is blank under its old generation, and no other slot changes. -/
theorem State.freeCtx_ctxs (s : State) (slot : Nat) (c : Ctx) :
    (s.freeCtx slot c).ctxs = tset s.ctxs slot (Ctx.blank c.gen (c.gen == 0x3FFFFF)) := by
  simp only [State.freeCtx, State.blot_ctxs, State.pageIn, State.pageInN_ctxs, State.foldl_freeQueueRecord_ctxs]

/-- R154: no doorbell page stays bound to the freed context. -/
theorem State.freeCtx_binds (s : State) (slot : Nat) (c : Ctx) :
    ∀ b ∈ (s.freeCtx slot c).bells.binds, b.2 ≠ handleOf slot c.gen := by
  intro b hb
  simpa using (List.mem_filter.mp hb).2

end Sys2Proof.Machine

open Sys2Proof Sys2Proof.Machine

/-- Settles O49: each command's conditions are met, so it comes to the branch that its rule names. -/
theorem timeoutsKillsAndReleases : Obligations.TimeoutsKillsAndReleases := by
  intro s q slot x u c r w
  refine ⟨fun hx hu due => ?_, fun hr due => ?_, fun hc primary leaving => ⟨fun d alive hd due => ?_, fun killed drained => ?_⟩⟩
  · constructor
    · rintro rfl
      exact queueTimeout_admin hx hu due
    · exact queueTimeout_faults hx hu due
  · rw [memoryResponseTimeout_of_due hr due]
    refine ⟨?_, ?_, ?_, ?_, ?_, ?_, ?_⟩ <;> (rintro rfl; rfl)
  · rw [bindOffDeadline_of_due hc primary leaving alive hd due]
    constructor
    · intro work
      simp only [work, if_true]
      rfl
    · intro idle
      simp only [idle, Bool.false_eq_true, if_false]
  · rw [contextRelease_of_drained hc primary leaving killed drained]
    refine ⟨fun begins => ?_, fun begun notIdle free => ?_, fun begun notIdle busy => ?_, fun begun idle => ?_⟩
    · simp [begins]
    · simp [begun, notIdle, free]
    · simp [begun, notIdle, busy]
    · refine ⟨by simp [begun, idle], ⟨Ctx.blank c.gen (c.gen == 0x3FFFFF), ?_, rfl, rfl, rfl, rfl⟩, s.freeCtx_binds slot c, ?_⟩
      · rw [s.freeCtx_ctxs, tget_tset_self]
      · intro j other
        rw [s.freeCtx_ctxs, tget_tset_of_ne _ _ other]

end

section
/-! Ascending lists of ports, and lists with one position changed. -/

namespace Sys2Proof.Machine

open Sys2Proof

theorem mem_insertNat {l : List Nat} {n k : Nat} : k ∈ insertNat l n ↔ k = n ∨ k ∈ l := by
  induction l with
  | nil => simp [insertNat]
  | cons a l ih =>
    simp only [insertNat]
    split
    · simp
    · split
      · next same => simp [same]
      · simp only [List.mem_cons, ih]
        exact or_left_comm

theorem insertNat_ascends {l : List Nat} (n : Nat) (h : l.Pairwise (· < ·)) : (insertNat l n).Pairwise (· < ·) := by
  induction l with
  | nil => simp [insertNat]
  | cons a l ih =>
    obtain ⟨least, rest⟩ := List.pairwise_cons.mp h
    simp only [insertNat]
    split
    · next below =>
      refine List.pairwise_cons.mpr ⟨fun k hk => ?_, h⟩
      rcases List.mem_cons.mp hk with rfl | hk
      · exact below
      · exact Nat.lt_trans below (least k hk)
    · split
      · exact h
      · refine List.pairwise_cons.mpr ⟨fun k hk => ?_, ih rest⟩
        rcases mem_insertNat.mp hk with rfl | hk
        · omega
        · exact least k hk

/-- `sortNats` keeps the members of a list. -/
theorem mem_sortNats {l : List Nat} {k : Nat} : k ∈ sortNats l ↔ k ∈ l := by
  have fold (l acc : List Nat) : k ∈ l.foldl insertNat acc ↔ k ∈ l ∨ k ∈ acc := by
    induction l generalizing acc with
    | nil => simp
    | cons a l ih =>
      rw [List.foldl_cons, ih, mem_insertNat, List.mem_cons, or_assoc]
      exact or_left_comm
  simpa only [sortNats, List.not_mem_nil, or_false] using fold l []

/-- `sortNats` answers a strictly ascending list. -/
theorem sortNats_ascends (l : List Nat) : (sortNats l).Pairwise (· < ·) := by
  have fold (l acc : List Nat) (h : acc.Pairwise (· < ·)) : (l.foldl insertNat acc).Pairwise (· < ·) := by
    induction l generalizing acc with
    | nil => exact h
    | cons a l ih => exact ih _ (insertNat_ascends a h)
  exact fold l [] .nil

theorem sortNats_eq_nil {l : List Nat} : sortNats l = [] ↔ l = [] := by
  simp only [List.eq_nil_iff_forall_not_mem, mem_sortNats]

/-- Two strictly ascending lists with the same members are equal. -/
theorem eq_of_ascends {l r : List Nat} (hl : l.Pairwise (· < ·)) (hr : r.Pairwise (· < ·)) (h : ∀ k, k ∈ l ↔ k ∈ r) :
    l = r := by
  have same : l.Perm r := (List.perm_ext_iff_of_nodup (hl.imp Nat.ne_of_lt) (hr.imp Nat.ne_of_lt)).mpr h
  exact same.eq_of_pairwise (fun a b _ _ below above => absurd below (Nat.lt_asymm above)) hl hr

/-- Members taken out of a sorted list leave the sorted list of the members that stay. -/
theorem filter_sortNats {l stay : List Nat} {p : Nat → Bool} (h : ∀ k, k ∈ stay ↔ k ∈ l ∧ p k = true) :
    (sortNats l).filter p = sortNats stay :=
  eq_of_ascends ((sortNats_ascends l).filter p) (sortNats_ascends stay) fun k => by
    rw [List.mem_filter, mem_sortNats, mem_sortNats, h k]

/-- The element changed by `lmod`. -/
theorem getElem?_lmod_self {α : Type} (l : List α) (i : Nat) (f : α → α) : (lmod l i f)[i]? = l[i]?.map f := by
  simp [lmod]

/-- Every other element under `lmod`. -/
theorem getElem?_lmod_of_ne {α : Type} (l : List α) {i j : Nat} (f : α → α) (h : j ≠ i) : (lmod l i f)[j]? = l[j]? := by
  simp [lmod, Ne.symm h]

/-- Two changes of a position that agree on its element come to the same. -/
theorem lmod_congr {α : Type} {l : List α} {i : Nat} {f g : α → α} (h : ∀ a, l[i]? = some a → f a = g a) :
    lmod l i f = lmod l i g := by
  refine List.ext_getElem? fun j => ?_
  by_cases hj : j = i
  · subst hj
    simp only [getElem?_lmod_self]
    cases ha : l[j]? with
    | none => rfl
    | some a => simp [h a ha]
  · simp only [getElem?_lmod_of_ne _ _ hj]

end Sys2Proof.Machine
end

section
/-! A task message at its splitter (R310, R311): its Nibs receive it, and one counter opens for those present. -/

namespace Sys2Proof.Machine

open Sys2Proof

/-! ## The steps of SPLITTER_TASK_PASS -/

/-- The Nibs of a placement that hang on a splitter, present or not. -/
def State.portsOf (s : State) (sp : Nat) (m : TaskMsg) : List Nat :=
  m.placement.filter fun n => match s.nibs[n]? with | some b => b.via == sp | none => false

/-- Whether a Nib has been lost. -/
def State.lostNib (s : State) (n : Nat) : Bool := !(s.nibs[n]?.map Nib.present).getD false

/-- The counter that a task message opens for some ports (R311). -/
def FanIn.opened (m : TaskMsg) (ports : List Nat) : FanIn :=
  { tag := m.tag, epoch := m.epoch, expected := sortNats ports, arrived := [], status := 0, rank := 0, nf := none }

/-- The message leaves the down-stream, and its counter opens. -/
def State.openCounter (s : State) (sp : Nat) (m : TaskMsg) (rest : List DownMsg) (ports : List Nat) : State :=
  s.modSplitter sp fun x =>
    { x with
      down := rest
      forwarded := x.forwarded + 1
      counters := if m.migrated || ports.isEmpty then x.counters else x.counters ++ [FanIn.opened m ports] }

/-- What a Nib does with a task message sent to it. -/
def Nib.receive (m : TaskMsg) (b : Nib) : Nib := if b.present then { b with down := b.down ++ [.task m] } else b

/-- The message reaches its ports. -/
def State.deliver (s : State) (m : TaskMsg) (ports : List Nat) : State :=
  ports.foldl (fun t n => t.modNib n (Nib.receive m)) s

/-- The bit of a port that reports no more is cleared in the message's counter, where it has one. -/
def State.dropPort (sp : Nat) (m : TaskMsg) (s : State) (n : Nat) : State :=
  match s.counterOf sp m.tag m.epoch with
  | some c => s.clearPort sp n c
  | none => s

/-- The state in which a splitter has passed the task message at its front. -/
def State.passedTask (s : State) (sp : Nat) (m : TaskMsg) (rest : List DownMsg) : State :=
  ((s.portsOf sp m).filter s.lostNib).foldl (State.dropPort sp m)
    ((s.openCounter sp m rest (s.portsOf sp m)).deliver m (s.portsOf sp m))

/-- A port that hangs on a splitter and whose Nib is not lost. -/
theorem State.mem_portsOf_kept {s : State} {sp n : Nat} {m : TaskMsg} : n ∈ s.portsOf sp m ∧ s.lostNib n = false ↔
    n ∈ m.placement ∧ ∃ b, s.nibs[n]? = some b ∧ b.via = sp ∧ b.present = true := by
  cases hb : s.nibs[n]? <;> simp [State.portsOf, State.lostNib, hb, and_assoc]

theorem splitterTaskPass_of_task {s : State} {sp : Nat} {x : Splitter} {m : TaskMsg} {rest : List DownMsg}
    (hx : s.splitters[sp]? = some x) (front : x.down = .task m :: rest) (up : x.link = .up) :
    exec (.splitterTaskPass sp) s =
      .next (State.close s (((s.passedTask sp m rest).passDown sp).latchAll fun m => { m with wake := true })) := by
  simp only [exec, execSplitterTaskPass, hx, front, up, ne_eq, not_true_eq_false, if_false]
  rfl

/-! ## What the Nibs receive -/

theorem State.deliver_eq (s : State) (m : TaskMsg) (ports : List Nat) :
    ∃ nibs, s.deliver m ports = { s with nibs := nibs } :=
  State.foldl_modNib_eq (fun _ _ => Nib.receive m) ports s

theorem State.deliver_nibs_of_notMem {m : TaskMsg} {ports : List Nat} {n : Nat} (s : State) (h : n ∉ ports) :
    (s.deliver m ports).nibs[n]? = s.nibs[n]? := by
  induction ports generalizing s with
  | nil => rfl
  | cons a ports ih =>
    obtain ⟨other, rest⟩ := not_or.mp (mt List.mem_cons.mpr h)
    calc ((s.modNib a (Nib.receive m)).deliver m ports).nibs[n]?
      _ = (s.modNib a (Nib.receive m)).nibs[n]? := ih _ rest
      _ = s.nibs[n]? := getElem?_lmod_of_ne _ _ other

/-- A port is named once in a placement, so its Nib receives the message once. -/
theorem State.deliver_nibs_of_mem {m : TaskMsg} {ports : List Nat} {n : Nat} (s : State) (once : ports.Nodup) (h : n ∈ ports) :
    (s.deliver m ports).nibs[n]? = s.nibs[n]?.map (Nib.receive m) := by
  induction ports generalizing s with
  | nil => cases h
  | cons a ports ih =>
    obtain ⟨new, once⟩ := List.nodup_cons.mp once
    change ((s.modNib a (Nib.receive m)).deliver m ports).nibs[n]? = _
    by_cases same : n = a
    · subst same
      rw [State.deliver_nibs_of_notMem _ new]
      exact getElem?_lmod_self _ _ _
    · rw [ih _ once ((List.mem_cons.mp h).resolve_left same)]
      exact congrArg _ (getElem?_lmod_of_ne _ _ same)

/-! ## The message's counter -/

/-- A counter's place in the list: none once it expects no port (R311). -/
def FanIn.listed (c : FanIn) : List FanIn := if c.expected.isEmpty then [] else [c]

/-- The counters of a splitter with one that is not full put back (R311). -/
def FanIn.putIn (c : FanIn) (l : List FanIn) : List FanIn :=
  l.filterMap fun d => if d.tag = c.tag ∧ d.epoch = c.epoch then (if c.expected.isEmpty then none else some c) else some d

/-- A counter without a port. -/
def FanIn.without (c : FanIn) (n : Nat) : FanIn := { c with expected := c.expected.filter (· != n) }

theorem FanIn.foldl_without (ns : List Nat) (c : FanIn) :
    ns.foldl FanIn.without c = { c with expected := c.expected.filter fun k => !ns.contains k } := by
  induction ns generalizing c with
  | nil =>
    have all : c.expected.filter (fun k => !([] : List Nat).contains k) = c.expected :=
      List.filter_eq_self.mpr fun _ _ => rfl
    rw [List.foldl_nil, all]
  | cons n ns ih =>
    simp only [List.foldl_cons, ih, FanIn.without, List.filter_filter, List.contains_cons, Bool.not_or, bne, Bool.and_comm]

theorem FanIn.without_of_notMem {c : FanIn} {n : Nat} (h : n ∉ c.expected) : c.without n = c := by
  have keeps : ∀ k ∈ c.expected, (k != n) = true := fun k hk => bne_iff_ne.mpr fun e => h (e ▸ hk)
  rw [FanIn.without, List.filter_eq_self.mpr keeps]

/-- A counter to which no port has reported is not full: a full one expects at least one port (R311). -/
theorem FanIn.not_full_of_arrived_nil {c : FanIn} (h : c.arrived = []) : c.full = false := by
  simp only [FanIn.full, h]
  cases c.expected <;> rfl

theorem State.putCounter_of_not_full {s : State} {sp : Nat} {c : FanIn} (h : c.full = false) :
    s.putCounter sp c = s.modSplitter sp fun x => { x with counters := c.putIn x.counters } := by
  simp only [State.putCounter, FanIn.putIn, h, Bool.false_or, Bool.false_eq_true, if_false]

/-- Counters of other placements keep their places. -/
theorem FanIn.putIn_of_others {c : FanIn} {old : List FanIn} (others : ∀ f ∈ old, ¬(f.tag = c.tag ∧ f.epoch = c.epoch)) :
    c.putIn old = old := by
  induction old with
  | nil => rfl
  | cons f old ih =>
    obtain ⟨other, rest⟩ := List.forall_mem_cons.mp others
    rw [FanIn.putIn, List.filterMap_cons_some (b := f)]
    · exact congrArg (f :: ·) (ih rest)
    · exact if_neg other

/-- Among counters of other placements, the changed counter takes its own place. -/
theorem FanIn.putIn_append {c d : FanIn} {old : List FanIn} (others : ∀ f ∈ old, ¬(f.tag = c.tag ∧ f.epoch = c.epoch))
    (htag : d.tag = c.tag) (hepoch : d.epoch = c.epoch) : c.putIn (old ++ [d]) = old ++ c.listed := by
  have changed : c.putIn [d] = c.listed := by
    simp only [FanIn.putIn, FanIn.listed, List.filterMap, if_pos (And.intro htag hepoch)]
    cases c.expected.isEmpty <;> rfl
  calc c.putIn (old ++ [d])
    _ = c.putIn old ++ c.putIn [d] := List.filterMap_append
    _ = old ++ c.listed := by rw [FanIn.putIn_of_others others, changed]

/-- Clearing a port changes splitters alone. -/
theorem State.dropPort_eq (sp : Nat) (m : TaskMsg) (s : State) (n : Nat) :
    ∃ spl, State.dropPort sp m s n = { s with splitters := spl } := by
  unfold State.dropPort State.clearPort
  split
  · split
    · unfold State.putCounter
      simp only
      split <;> exact ⟨_, rfl⟩
    · exact ⟨s.splitters, rfl⟩
  · exact ⟨s.splitters, rfl⟩

theorem State.foldl_dropPort_eq (sp : Nat) (m : TaskMsg) (ns : List Nat) (s : State) :
    ∃ spl, ns.foldl (State.dropPort sp m) s = { s with splitters := spl } := by
  induction ns generalizing s with
  | nil => exact ⟨s.splitters, rfl⟩
  | cons n ns ih =>
    obtain ⟨spl, hn⟩ := State.dropPort_eq sp m s n
    obtain ⟨spl', hns⟩ := ih (State.dropPort sp m s n)
    exact ⟨spl', by rw [List.foldl_cons, hns, hn]⟩

section
variable {sp : Nat} {m : TaskMsg} {s : State} {x : Splitter} {old : List FanIn} {c : FanIn}

/-- Without a counter of the message's, a lost port changes nothing. -/
theorem State.dropPort_of_none (hx : s.splitters[sp]? = some x)
    (others : ∀ f ∈ x.counters, ¬(f.tag = m.tag ∧ f.epoch = m.epoch)) (n : Nat) : State.dropPort sp m s n = s := by
  have absent : s.counterOf sp m.tag m.epoch = none := by
    simp only [State.counterOf, hx]
    exact List.find?_eq_none.mpr fun f hf => by simpa using others f hf
  rw [State.dropPort, absent]

theorem State.foldl_dropPort_of_none (hx : s.splitters[sp]? = some x)
    (others : ∀ f ∈ x.counters, ¬(f.tag = m.tag ∧ f.epoch = m.epoch)) (ns : List Nat) :
    ns.foldl (State.dropPort sp m) s = s := by
  induction ns with
  | nil => rfl
  | cons n ns ih => rwa [List.foldl_cons, State.dropPort_of_none hx others]

/-- A lost port leaves the message's counter, to which no port has reported yet. -/
theorem State.dropPort_counters (hx : s.splitters[sp]? = some x) (counters : x.counters = old ++ c.listed)
    (others : ∀ f ∈ old, ¬(f.tag = m.tag ∧ f.epoch = m.epoch)) (htag : c.tag = m.tag) (hepoch : c.epoch = m.epoch)
    (unreported : c.arrived = []) (n : Nat) :
    (State.dropPort sp m s n).splitters[sp]? = some { x with counters := old ++ (c.without n).listed } := by
  by_cases empty : c.expected = []
  · have same : c.without n = c := FanIn.without_of_notMem (by simp [empty])
    have unopened : ∀ f ∈ x.counters, ¬(f.tag = m.tag ∧ f.epoch = m.epoch) := by
      simpa [counters, FanIn.listed, empty] using others
    rw [State.dropPort_of_none hx unopened, hx, same, ← counters]
  · have listed : x.counters = old ++ [c] := by simp [counters, FanIn.listed, empty]
    have find : s.counterOf sp m.tag m.epoch = some c := by
      have first : old.find? (fun f => f.tag == m.tag && f.epoch == m.epoch) = none :=
        List.find?_eq_none.mpr fun f hf => by simpa using others f hf
      simp [State.counterOf, hx, listed, first, htag, hepoch]
    simp only [State.dropPort, find, State.clearPort]
    by_cases mem : n ∈ c.expected
    · rw [if_pos (by simp [mem, unreported])]
      change (s.putCounter sp (c.without n)).splitters[sp]? = _
      rw [State.putCounter_of_not_full (c := c.without n) (FanIn.not_full_of_arrived_nil unreported), State.modSplitter_splitters,
        getElem?_lmod_self, hx, Option.map_some, listed,
        FanIn.putIn_append (c := c.without n) (d := c) (htag ▸ hepoch ▸ others) rfl rfl]
    · rw [if_neg (by simp [mem]), hx, FanIn.without_of_notMem mem, ← counters]

/-- Any number of lost ports leave it. -/
theorem State.foldl_dropPort_counters (ns : List Nat) (hx : s.splitters[sp]? = some x) (counters : x.counters = old ++ c.listed)
    (others : ∀ f ∈ old, ¬(f.tag = m.tag ∧ f.epoch = m.epoch)) (htag : c.tag = m.tag) (hepoch : c.epoch = m.epoch)
    (unreported : c.arrived = []) :
    (ns.foldl (State.dropPort sp m) s).splitters[sp]? =
      some { x with counters := old ++ (ns.foldl FanIn.without c).listed } := by
  induction ns generalizing s x c with
  | nil => rw [List.foldl_nil, List.foldl_nil, hx, ← counters]
  | cons n ns ih =>
    exact ih (x := { x with counters := old ++ (c.without n).listed }) (c := c.without n)
      (State.dropPort_counters hx counters others htag hepoch unreported n) rfl htag hepoch unreported

end

/-! ## The outcome -/

section
variable {s : State} {sp : Nat} {x : Splitter} {m : TaskMsg} {rest : List DownMsg}

/-- Passing a task changes splitters and Nibs alone; the Nibs are those of the delivery. -/
theorem State.passedTask_eq (s : State) (sp : Nat) (m : TaskMsg) (rest : List DownMsg) : ∃ spl, s.passedTask sp m rest =
    { s with splitters := spl
             nibs := ((s.openCounter sp m rest (s.portsOf sp m)).deliver m (s.portsOf sp m)).nibs } := by
  unfold State.passedTask
  obtain ⟨spl, hspl⟩ := State.foldl_dropPort_eq sp m ((s.portsOf sp m).filter s.lostNib)
    ((s.openCounter sp m rest (s.portsOf sp m)).deliver m (s.portsOf sp m))
  obtain ⟨nibs, hnibs⟩ := (s.openCounter sp m rest (s.portsOf sp m)).deliver_eq m (s.portsOf sp m)
  refine ⟨spl, ?_⟩
  rw [hspl, hnibs]
  rfl

theorem State.deliver_splitters (s : State) (m : TaskMsg) (ports : List Nat) : (s.deliver m ports).splitters = s.splitters := by
  obtain ⟨nibs, h⟩ := s.deliver_eq m ports
  rw [h]

theorem State.openCounter_splitter {ports : List Nat} (hx : s.splitters[sp]? = some x) :
    (s.openCounter sp m rest ports).splitters[sp]? = some { x with
      down := rest, forwarded := x.forwarded + 1
      counters := if m.migrated then x.counters else x.counters ++ (FanIn.opened m ports).listed } := by
  rw [State.openCounter, State.modSplitter_splitters, getElem?_lmod_self, hx, Option.map_some]
  have empty : (sortNats ports).isEmpty = ports.isEmpty := by
    rw [Bool.eq_iff_iff, List.isEmpty_iff, List.isEmpty_iff, sortNats_eq_nil]
  cases m.migrated <;> cases h : ports.isEmpty <;> simp [FanIn.listed, FanIn.opened, empty, h]

/-- R294: a migrated message opens no counter. -/
theorem State.passedTask_migrated (hx : s.splitters[sp]? = some x) (migrated : m.migrated = true)
    (others : ∀ f ∈ x.counters, ¬(f.tag = m.tag ∧ f.epoch = m.epoch)) :
    (s.passedTask sp m rest).splitters[sp]? = some { x with down := rest, forwarded := x.forwarded + 1 } := by
  have opened := State.openCounter_splitter (m := m) (rest := rest) (ports := s.portsOf sp m) hx
  rw [if_pos migrated, ← State.deliver_splitters _ m (s.portsOf sp m)] at opened
  rw [State.passedTask, State.foldl_dropPort_of_none opened others, opened]

/-- R311: an initial placement opens a counter that expects the ports whose Nibs are not lost. -/
theorem State.passedTask_initial {present : List Nat} (hx : s.splitters[sp]? = some x) (initial : m.migrated = false)
    (others : ∀ f ∈ x.counters, ¬(f.tag = m.tag ∧ f.epoch = m.epoch))
    (hpresent : ∀ n, n ∈ present ↔ n ∈ s.portsOf sp m ∧ s.lostNib n = false) :
    (s.passedTask sp m rest).splitters[sp]? = some { x with
      down := rest, forwarded := x.forwarded + 1, counters := x.counters ++ (FanIn.opened m present).listed } := by
  have opened := State.openCounter_splitter (m := m) (rest := rest) (ports := s.portsOf sp m) hx
  rw [if_neg (by simp [initial]), ← State.deliver_splitters _ m (s.portsOf sp m)] at opened
  have left : ((s.portsOf sp m).filter s.lostNib).foldl FanIn.without (FanIn.opened m (s.portsOf sp m)) =
      FanIn.opened m present := by
    rw [FanIn.foldl_without]
    refine congrArg (fun e => ({ FanIn.opened m present with expected := e } : FanIn)) (filter_sortNats fun k => ?_)
    rw [hpresent k]
    simp +contextual
  rw [State.passedTask, State.foldl_dropPort_counters _ opened rfl others rfl rfl rfl, left]

theorem State.passedTask_nibs (s : State) (sp : Nat) (m : TaskMsg) (rest : List DownMsg) : (s.passedTask sp m rest).nibs =
    ((s.openCounter sp m rest (s.portsOf sp m)).deliver m (s.portsOf sp m)).nibs := by
  obtain ⟨spl, h⟩ := s.passedTask_eq sp m rest
  rw [h]

theorem State.passedTask_tasks (s : State) (sp : Nat) (m : TaskMsg) (rest : List DownMsg) :
    (s.passedTask sp m rest).tasks = s.tasks := by
  obtain ⟨spl, h⟩ := s.passedTask_eq sp m rest
  rw [h]

theorem State.passedTask_queues (s : State) (sp : Nat) (m : TaskMsg) (rest : List DownMsg) :
    (s.passedTask sp m rest).queues = s.queues := by
  obtain ⟨spl, h⟩ := s.passedTask_eq sp m rest
  rw [h]

theorem State.openCounter_nibs (s : State) (sp : Nat) (m : TaskMsg) (rest : List DownMsg) (ports : List Nat) :
    (s.openCounter sp m rest ports).nibs = s.nibs := rfl

theorem State.portsOf_nodup (once : m.placement.Nodup) : (s.portsOf sp m).Nodup := once.filter _

/-- A present Nib of the placement receives the message once. -/
theorem State.passedTask_receives {n : Nat} {b : Nib} (once : m.placement.Nodup) (port : n ∈ s.portsOf sp m)
    (kept : s.lostNib n = false) (hb : s.nibs[n]? = some b) :
    (s.passedTask sp m rest).nibs[n]? = some { b with down := b.down ++ [.task m] } := by
  have present : b.present = true := by simpa [State.lostNib, hb] using kept
  rw [State.passedTask_nibs, State.deliver_nibs_of_mem _ (State.portsOf_nodup once) port, State.openCounter_nibs, hb,
    Option.map_some, Nib.receive, if_pos present]

/-- Every other Nib stays as it is, one lost among the placement's with them. -/
theorem State.passedTask_leaves {n : Nat} (once : m.placement.Nodup) (other : ¬(n ∈ s.portsOf sp m ∧ s.lostNib n = false)) :
    (s.passedTask sp m rest).nibs[n]? = s.nibs[n]? := by
  rw [State.passedTask_nibs]
  by_cases port : n ∈ s.portsOf sp m
  · rw [State.deliver_nibs_of_mem _ (State.portsOf_nodup once) port, State.openCounter_nibs]
    cases hb : s.nibs[n]? with
    | none => rfl
    | some b =>
      have gone : ¬b.present = true := by simpa [State.lostNib, hb, port] using other
      rw [Option.map_some, Nib.receive, if_neg gone]
  · rw [State.deliver_nibs_of_notMem _ port, State.openCounter_nibs]

end

end Sys2Proof.Machine
end

section
/-! Completions, withdrawals and arrivals at a splitter (R294, R311 to R313, R349). -/

namespace Sys2Proof.Machine

open Sys2Proof

variable {s t : State} {sp nib n tag pos ident part : Nat} {epoch : W32} {d : DoneMsg} {b : Nib} {c : FanIn} {x : Splitter}

/-- R311: a port that the open counter expects is counted in it. -/
theorem splitterCompletion_counted (front : s.splitterFront nib = some (.done d, b, t))
    (counter : t.counterOf b.via d.tag d.epoch = some c) (initial : d.migrated = false) (expected : c.expected.contains nib = true)
    (new : c.arrived.contains nib = false) :
    exec (.splitterCompletion nib) s = .next (State.close s ((t.putCounter b.via (c.add nib d)).passUp nib)) := by
  simp only [exec, execSplitterCompletion, front, counter, initial, Option.filter_some, expected, new, Bool.not_false, Bool.and_self,
    if_true]
  rfl

/-- R313: a completion without a counter, or of a migrated task, passes unfolded. -/
theorem splitterCompletion_passes (front : s.splitterFront nib = some (.done d, b, t))
    (alone : t.counterOf b.via d.tag d.epoch = none ∨ d.migrated = true) :
    exec (.splitterCompletion nib) s = .next (State.close s
      ((t.splitterUp b.via (.done { d with splitter := b.via, arrived := [nib], folded := false })).passUp nib)) := by
  have uncounted : ((t.counterOf b.via d.tag d.epoch).filter fun c =>
      !d.migrated && c.expected.contains nib && !c.arrived.contains nib) = none := by
    rcases alone with h | h
    · rw [h, Option.filter_none]
    · simp [h]
  simp only [exec, execSplitterCompletion, front, uncounted]
  rfl

/-- R311, R313: a full counter goes up as one folded message. -/
theorem State.putCounter_up_of_full (hx : s.splitters[sp]? = some x) (up : x.link = .up) (full : c.full = true) :
    ((s.putCounter sp c).splitters[sp]?).map Splitter.up = some (x.up ++ [.done (c.message sp)]) := by
  simp only [State.putCounter, full, if_true, State.splitterUp, State.modSplitter_splitters, getElem?_lmod_self, hx, Option.map_some,
    up]

/-- A counter that is not full sends nothing up. -/
theorem State.putCounter_up_of_not_full (hx : s.splitters[sp]? = some x) (waits : c.full = false) :
    ((s.putCounter sp c).splitters[sp]?).map Splitter.up = some x.up := by
  rw [State.putCounter_of_not_full waits, State.modSplitter_splitters, getElem?_lmod_self, hx]
  rfl

/-- R294: the answer to a WITHDRAW passes up, and the counter of its placement, where there is one, loses the port. -/
theorem splitterWithdrawn_of_front (front : s.splitterFront nib = some (.withdrawn n tag epoch pos, b, t)) :
    exec (.splitterWithdrawn nib) s =
      let u := t.splitterUp b.via (.withdrawn n tag epoch pos)
      .next (State.close s (((u.counterOf b.via tag epoch).elim u (u.clearPort b.via nib)).passUp nib)) := by
  simp only [exec, execSplitterWithdrawn, front]
  cases (t.splitterUp b.via (.withdrawn n tag epoch pos)).counterOf b.via tag epoch <;> rfl

/-- Two changes of a splitter that agree on it come to the same. -/
theorem State.modSplitter_congr {f g : Splitter → Splitter} (h : ∀ x, s.splitters[sp]? = some x → f x = g x) :
    s.modSplitter sp f = s.modSplitter sp g :=
  congrArg (fun l => { s with splitters := l }) (lmod_congr h)

/-- The Nibs of a partition that hang on a splitter: those whose arrivals it waits for (R349). -/
def State.nibsHere (s : State) (sp part : Nat) : List Nat :=
  (s.partNibs part).filter fun n => match s.nibs[n]? with | some b => b.via == sp | none => false

/-- An arrival folded in at a splitter: the fold stays there, or goes up where it stands for every Nib awaited (R349). -/
def State.takeArrival (t : State) (sp : Nat) (f : BarrierFold) (all : Bool) : State :=
  let u := t.modSplitter sp fun x =>
    { x with barriers := (x.barriers.filter fun g => !(g.ident == f.ident && g.partition == f.partition)) ++ (if all then [] else [f]) }
  if all then u.splitterUp sp (.barrier f.here f.ident f.partition) else u

/-- A splitter without folds keeps none of an arrival that goes up, and the one fold of an arrival that stays. -/
theorem State.takeArrival_first {f : BarrierFold} {all : Bool} (hx : t.splitters[sp]? = some x) (first : x.barriers = []) :
    t.takeArrival sp f all =
      if all then (t.modSplitter sp fun x => { x with barriers := [] }).splitterUp sp (.barrier f.here f.ident f.partition)
      else t.modSplitter sp fun x => { x with barriers := [f] } := by
  have only (l : List BarrierFold) : (t.modSplitter sp fun x =>
      { x with barriers := (x.barriers.filter fun g => !(g.ident == f.ident && g.partition == f.partition)) ++ l }) =
      t.modSplitter sp fun x => { x with barriers := l } :=
    State.modSplitter_congr fun y hy => by
      obtain rfl : x = y := Option.some.inj (hx.symm.trans hy)
      rw [first, List.filter_nil, List.nil_append]
  simp only [State.takeArrival, only]
  cases all <;> rfl

/-- R349: the first arrival of a barrier at a splitter without folds. -/
theorem splitterBarrierArrival_first {nibs : List Nat} (front : s.splitterFront nib = some (.barrier nibs ident part, b, t))
    (hx : t.splitters[b.via]? = some x) (first : x.barriers = []) :
    exec (.splitterBarrierArrival nib) s =
      let here := sortNats nibs
      let u := t.recordSplitter b.via 0x09 (t.barrierPayload ident false)
      .next (State.close s ((if (t.nibsHere b.via part).all here.contains then
          (u.modSplitter b.via fun x => { x with barriers := [] }).splitterUp b.via (.barrier here ident part)
        else u.modSplitter b.via fun x => { x with barriers := [⟨ident, part, here⟩] }).passUp nib)) := by
  have hu : (t.recordSplitter b.via 0x09 (t.barrierPayload ident false)).splitters[b.via]? = some x := by
    obtain ⟨tr, htr⟩ := t.recordSplitter_eq b.via 0x09 (t.barrierPayload ident false)
    rw [htr, hx]
  simp only [exec, execSplitterBarrierArrival, front, hx, first, List.find?_nil, Option.elim_none, List.nil_append]
  exact congrArg (fun u : State => done s (u.passUp nib))
    (State.takeArrival_first (f := ⟨ident, part, sortNats nibs⟩) hu first)

end Sys2Proof.Machine
end

section
/-! Migration of positions and the loss of Nibs (R160, R291 to R293, R469). -/

namespace Sys2Proof.Machine

open Sys2Proof

variable {s t : State} {sp nib n tag pos : Nat} {epoch : W32} {k : Task} {p : Pos} {b : Nib} {j : NibTask}

/-- R291: the three conditions of a migration hold, and a WITHDRAW goes to the Nib. -/
theorem migrationTimer_of_stuck (hk : tget s.tasks tag = some k) (hp : k.positions[pos]? = some p) (primary : s.primary = true)
    (open_ : p.counted = false) (idle : p.drain = none) (stuck : s.stuck tag p = true)
    (other : (s.otherNibs k).any s.idleNib = true) :
    exec (.migrationTimer tag pos) s = .next (State.close s
      ((s.modPos tag pos fun p => { p with drain := some s.now }).sendNib p.nib (.withdraw p.nib tag p.epoch pos))) := by
  simp only [exec, execMigrationTimer, hk, hp, primary, open_, idle, stuck, other, Option.isNone_none, Bool.false_eq_true,
    not_false_eq_true, and_self, if_true]
  rfl

/-- R293: a drain without answer for 100 µs closes, and the Nib is lost with cause 3. -/
theorem withdrawDrainTimeout_of_due {t0 : Nat} (hk : tget s.tasks tag = some k) (hp : k.positions[pos]? = some p)
    (primary : s.primary = true) (drains : p.drain = some t0) (due : t0 + 100000 ≤ s.now) :
    exec (.withdrawDrainTimeout tag pos) s =
      .next (s.endsQuiet ((s.modPos tag pos fun p => { p with drain := none }).nibLost p.nib 3)) := by
  simp only [exec, execWithdrawDrainTimeout, hk, Option.bind_some, hp, drains, primary, due, and_self, if_true]
  rfl

/-- An answer counts for the epoch that drains (R293). -/
theorem Pos.answered (drains : p.drain.isSome = true) (hepoch : p.epoch = epoch) :
    ¬(p.drain.isNone = true ∨ p.epoch ≠ epoch) := by
  simp [hepoch, Option.isSome_iff_ne_none.mp drains]

section
variable (hk : tget s.tasks tag = some k) (hp : k.positions[pos]? = some p) (drains : p.drain.isSome = true)
  (hepoch : p.epoch = epoch) (open_ : p.counted = false)
include hk hp drains hepoch

/-- R293: the position was not withdrawn: its drain closes. -/
theorem State.withdrawAnswer_closes :
    s.withdrawAnswer false tag epoch pos = s.modPos tag pos fun p => { p with drain := none } := by
  simp only [State.withdrawAnswer, hk, hp, if_neg (Pos.answered drains hepoch), Bool.false_eq_true, false_and, if_false]

include open_

/-- A withdrawn position of a task under the kill procedure ends with the cause. -/
theorem State.withdrawAnswer_killed {kill : Kill} (killed : (tget s.ctxs k.slot).bind Ctx.kill = some kill) :
    s.withdrawAnswer true tag epoch pos = s.countPos tag pos kill.cause none := by
  simp only [State.withdrawAnswer, hk, hp, if_neg (Pos.answered drains hepoch), open_, Bool.false_eq_true, not_false_eq_true,
    and_self, if_true, killed]

/-- R290, R293: a withdrawn position is placed anew. -/
theorem State.withdrawAnswer_replaces (alive : (tget s.ctxs k.slot).bind Ctx.kill = none) (flow : s.feed.halt = false)
    (warm : s.mgmt.warmReset = false) : s.withdrawAnswer true tag epoch pos = s.replace tag pos p.nib k := by
  simp only [State.withdrawAnswer, hk, hp, if_neg (Pos.answered drains hepoch), open_, Bool.false_eq_true, not_false_eq_true,
    and_self, if_true, alive, flow, warm, if_false]

end

/-! ## WITHDRAW at the Nib -/

/-- A Nib's front message leaves its down-stream, and nothing else changes. -/
theorem State.nibFront_some {m : DownMsg} (front : s.nibFront n = some (m, b, t)) :
    ∃ rest, t = s.modNib n fun b => { b with down := rest } := by
  unfold State.nibFront at front
  split at front
  · split at front
    · split at front
      · simp only [Option.some.injEq, Prod.mk.injEq] at front
        obtain ⟨-, -, rfl⟩ := front
        exact ⟨_, rfl⟩
      · cases front
    · cases front
  · cases front

theorem Nib.settle_tasks (b : Nib) (now : Nat) : (b.settle now).tasks = b.tasks := by
  unfold Nib.settle
  simp only
  split
  · rfl
  · split
    · rfl
    · split <;> rfl

/-- A Nib after a task has left it: with none left it is idle. -/
def Nib.dropTask (tag : Nat) (epoch : W32) (now : Nat) (b : Nib) : Nib :=
  Nib.settle { b with tasks := b.tasks.filter fun j => !(j.msg.tag == tag && j.msg.epoch == epoch) } now

theorem Nib.dropTask_task (tag : Nat) (epoch : W32) (now : Nat) (b : Nib) : (b.dropTask tag epoch now).task tag epoch = none := by
  rw [Nib.task, Nib.dropTask, Nib.settle_tasks]
  refine List.find?_eq_none.mpr fun j hj => ?_
  exact Bool.eq_false_iff.mp ((Bool.not_eq_true' _).mp (List.mem_filter.mp hj).2)

/-- The state after a task has left its Nib, with the read of its constants given up (R268). -/
def State.dropNibTask (t : State) (nib tag : Nat) (epoch : W32) : State :=
  { t.modNib nib (Nib.dropTask tag epoch t.now) with
    mip := t.mip.map fun r => if r.wait = some (MemWait.nibConstants nib tag) then { r with dead := true } else r }

/-- R292: a WITHDRAW for a task that the Nib does not hold. -/
theorem nibWithdraw_unknown (front : s.nibFront nib = some (.withdraw n tag epoch pos, b, t)) (absent : b.task tag epoch = none) :
    exec (.nibWithdraw nib) s = .next (State.close s (t.sendUp nib (.unknown nib tag epoch pos))) := by
  simp only [exec, execNibWithdraw, front, absent, done]

/-- R292: a WITHDRAW for a task that has started. -/
theorem nibWithdraw_started (front : s.nibFront nib = some (.withdraw n tag epoch pos, b, t)) (hj : b.task tag epoch = some j)
    (started : j.started = true) :
    exec (.nibWithdraw nib) s = .next (State.close s (t.sendUp nib (.started nib tag epoch pos))) := by
  simp only [exec, execNibWithdraw, front, hj, started, if_true, done]

/-- R268, R292: a WITHDRAW for a task that waits unstarted. -/
theorem nibWithdraw_withdrawn (front : s.nibFront nib = some (.withdraw n tag epoch pos, b, t)) (hj : b.task tag epoch = some j)
    (waits : j.started = false) : exec (.nibWithdraw nib) s =
      .next (State.close s ((t.dropNibTask nib tag epoch).sendUp nib (.withdrawn nib tag epoch pos))) := by
  simp only [exec, execNibWithdraw, front, hj, waits, Bool.false_eq_true, if_false]
  rfl

/-- R268: the withdrawn task is gone from its Nib, and the other Nibs, the tasks of the Hub and the splitters are as before. -/
theorem State.dropNibTask_frame (front : s.nibFront nib = some (.withdraw n tag epoch pos, b, t)) :
    (∀ y, (t.dropNibTask nib tag epoch).nibs[nib]? = some y → y.task tag epoch = none) ∧
      (∀ i ≠ nib, (t.dropNibTask nib tag epoch).nibs[i]? = t.nibs[i]?) ∧
      (t.dropNibTask nib tag epoch).tasks = s.tasks ∧ (t.dropNibTask nib tag epoch).splitters = s.splitters := by
  obtain ⟨rest, rfl⟩ := State.nibFront_some front
  refine ⟨fun y hy => ?_, fun i other => getElem?_lmod_of_ne _ _ other, rfl, rfl⟩
  obtain ⟨b, -, rfl⟩ := Option.map_eq_some_iff.mp ((getElem?_lmod_self _ _ _).symm.trans hy)
  exact Nib.dropTask_task tag epoch _ b

/-! ## Loss -/

theorem ylinkDown_nib (hb : s.nibs[nib]? = some b) (present : b.present = true) :
    exec (.ylinkDown (.nib nib)) s = .next (s.endsQuiet (s.nibLost nib 1)) := by
  simp only [exec, execYlinkDown, hb, Option.map_some, Option.getD_some, present, if_true, done, State.endsQuiet]

theorem nibUncorrectableError_present (hb : s.nibs[nib]? = some b) (present : b.present = true) :
    exec (.nibUncorrectableError nib) s = .next (s.endsQuiet (s.nibLost nib 4)) := by
  simp only [exec, execNibUncorrectableError, hb, Option.map_some, Option.getD_some, present, if_true, done, State.endsQuiet]

/-- The Nibs that hang on a splitter. -/
def State.nibsVia (s : State) (sp : Nat) : List Nat :=
  (List.range s.nibs.length).filter fun n => match s.nibs[n]? with | some b => b.via == sp | none => false

theorem State.nibsVia_eq_nil (alone : ∀ b ∈ s.nibs, b.via ≠ sp) : s.nibsVia sp = [] := by
  refine List.filter_eq_nil_iff.mpr fun n _ => ?_
  cases hb : s.nibs[n]? with
  | none => simp
  | some b => simpa using alone b (List.mem_of_getElem? hb)

/-- R510: a splitter's link falls, and its Nibs are lost with it. -/
theorem ylinkDown_splitter {x : Splitter} (hx : s.splitters[sp]? = some x) (up : x.link = .up) :
    exec (.ylinkDown (.splitter sp)) s = .next (s.endsQuiet ((s.nibsVia sp).foldl (fun t n => t.nibLost n 1)
      (s.modSplitter sp fun x => { x with link := .absent, down := [], up := [] }))) := by
  simp only [exec, execYlinkDown, hx, up, if_true]
  rfl

end Sys2Proof.Machine

open Sys2Proof Sys2Proof.Machine

/-- Settles O50: the fan-in of splitters, then the migration of positions, then the loss of Nibs, each by the lemma on its
command. -/
theorem splitterFanInAndMigration : Obligations.SplitterFanInAndMigration := by
  intro s t sp nib n tag pos part ident epoch x rest m d b c k j p nibs
  refine ⟨fun hx front up once others => ?pass, fun front => ⟨?counted, ?passes⟩, fun hx up => ⟨?full, ?waits⟩,
    fun front => ⟨?noCounter, ?clears⟩, fun front hx first => ?barrier, fun hk hp => ⟨?timer, ?drain⟩,
    fun hk hp drains hepoch open_ => ⟨?replaces, ?killed, ?closes⟩, fun front => ⟨?unknown, ?started, ?withdrawn⟩,
    fun hb present => ⟨?down, ?error, ?dropped, ?others⟩, fun hx up => ⟨?link, ?alone⟩⟩
  case pass =>
    intro mine
    have hmine : ∀ n, n ∈ mine ↔ n ∈ s.portsOf sp m ∧ s.lostNib n = false := fun n => by
      rw [State.mem_portsOf_kept, List.mem_filter]
      cases hb : s.nibs[n]? <;> simp
    refine ⟨s.passedTask sp m rest, splitterTaskPass_of_task hx front up, ?_, fun n hn b hb => ?_, fun n hn => ?_,
      State.passedTask_tasks s sp m rest, State.passedTask_queues s sp m rest⟩
    · cases kind : m.migrated with
      | true => exact ⟨_, State.passedTask_migrated hx kind others, rfl, rfl, rfl, fun _ => rfl, fun no => nomatch no⟩
      | false =>
        refine ⟨_, State.passedTask_initial hx kind others hmine, rfl, rfl, rfl, fun no => (nomatch no), fun _ ports =>
          ⟨FanIn.opened m mine, ?_, rfl, rfl, rfl, rfl, rfl⟩⟩
        have expects : (FanIn.opened m mine).expected ≠ [] := fun h => ports (sortNats_eq_nil.mp h)
        rw [FanIn.listed, if_neg (mt List.isEmpty_iff.mp expects)]
    · obtain ⟨port, kept⟩ := (hmine n).mp hn
      exact State.passedTask_receives once port kept hb
    · exact State.passedTask_leaves once (mt (hmine n).mpr hn)
  case counted => exact splitterCompletion_counted front
  case passes => exact splitterCompletion_passes front
  case full => exact State.putCounter_up_of_full hx up
  case waits => exact State.putCounter_up_of_not_full hx
  case noCounter =>
    intro uncounted
    rw [splitterWithdrawn_of_front front]
    simp only [uncounted, Option.elim_none]
  case clears =>
    intro counter expected new
    rw [splitterWithdrawn_of_front front]
    simp only [counter, Option.elim_some, State.clearPort, expected, new, Bool.not_false, Bool.and_self, if_true]
  case barrier =>
    rw [splitterBarrierArrival_first front hx first]
    exact ⟨fun all => congrArg _ (congrArg _ (congrArg (fun u : State => u.passUp nib) (if_pos all))),
      fun missing => congrArg _ (congrArg _ (congrArg (fun u : State => u.passUp nib) (if_neg (Bool.eq_false_iff.mp missing))))⟩
  case timer => exact migrationTimer_of_stuck hk hp
  case drain => exact fun t0 => withdrawDrainTimeout_of_due hk hp
  case replaces =>
    intro front alive flow warm
    simp only [exec, execWithdrawAnswer, front, State.withdrawAnswer_replaces hk hp drains hepoch open_ alive flow warm]
    rfl
  case killed =>
    intro kill front killed
    simp only [exec, execWithdrawAnswer, front, State.withdrawAnswer_killed hk hp drains hepoch open_ killed]
    rfl
  case closes =>
    rintro (front | front)
    all_goals
      simp only [exec, execWithdrawAnswer, front, State.withdrawAnswer_closes hk hp drains hepoch]
      rfl
  case unknown => exact nibWithdraw_unknown front
  case started => exact nibWithdraw_started front
  case withdrawn =>
    exact fun hj waits => ⟨t.dropNibTask nib tag epoch, nibWithdraw_withdrawn front hj waits, State.dropNibTask_frame front⟩
  case down => exact ylinkDown_nib hb present
  case error => exact nibUncorrectableError_present hb present
  case dropped => exact (getElem?_lmod_self _ _ _).trans (congrArg _ hb)
  case others => exact fun i other => getElem?_lmod_of_ne _ _ other
  case link => exact ⟨_, ylinkDown_splitter hx up⟩
  case alone =>
    intro alone
    rw [ylinkDown_splitter hx up, State.nibsVia_eq_nil alone]
    rfl

end

section
/-! Rows that put a command of the window into effect, or else parse (R197, R200, R204), and the response of a WRITE_IMM
(R223). -/

namespace Sys2Proof.Machine

open Sys2Proof

variable {s : State} {q slot opcode : Nat} {x : Queue} {u : Sub} {d : Cmd} {c : Ctx} {b : List Byte}
  {c5 : List Byte → List Check} {c6 : Sub → Nat → Ctx → List Byte → List Check}

/-! ## Parses -/

theorem plain_map_some (b : List Byte) : plain (b.map some) = b := by
  simp only [plain, List.map_map]
  exact List.map_id b

theorem firstBad_map_some (b : List Byte) : firstBad (b.map some) = none :=
  List.findIdx?_eq_none_iff.mpr fun e he => by
    obtain ⟨_, -, rfl⟩ := List.mem_map.mp he
    rfl

/-- R197: bytes read without error that pass checks 5 and 6 have no code. -/
theorem verdict_of_passes {l5 l6 : List Check} (h5 : firstFail l5 = none) (h6 : lowestFail l6 = none) :
    verdict (b.map some) l5 l6 = none := by
  simp only [verdict, h5, firstBad_map_some, h6, Option.map_none]

/-- R197: a command that passes every check of its parse leaves the stream and takes the effect of its parse. -/
theorem State.parseRow_of_parses (effect : Queue → Sub → Nat → Ctx → List Byte → State → State)
    (h : s.parses q opcode c5 c6 x u slot c b) :
    s.parseRow q opcode c5 c6 effect =
      some (((effect x u slot c b (s.consume q u.seq b.length)).maybeRetire q u.seq).cbFetch q) := by
  obtain ⟨front, next, pass5, pass6⟩ := h
  simp only [State.parseRow, front, next, plain_map_some, verdict_of_passes pass5 pass6, List.length_map, ne_eq,
    not_true_eq_false, and_false, if_false]

/-! ## The command that a row puts into effect -/

/-- The command that a row may put into effect is of the row's opcode. -/
theorem State.eligibleCmd_opcode (h : s.eligibleCmd q opcode = some (x, u, d, slot, c)) : opcode = d.op.opcode := by
  have found : s.openCmd q opcode = some (x, u, d, slot, c) := (Option.filter_eq_some_iff.mp h).1
  unfold State.openCmd at found
  split at found
  · split at found
    · obtain ⟨⟨v, e⟩, first, same⟩ := Option.map_eq_some_iff.mp found
      obtain ⟨w, -, first⟩ := List.exists_of_findSome?_eq_some first
      split at first
      · cases first
      · obtain ⟨f, hf, pair⟩ := Option.map_eq_some_iff.mp first
        have of_row := List.find?_some hf
        simp only [Prod.mk.injEq] at pair same
        obtain ⟨-, -, rfl, -⟩ := same
        obtain ⟨-, rfl⟩ := pair
        simp only [Bool.and_eq_true, beq_iff_eq] at of_row
        exact of_row.1.2.symm
    · cases found
  · cases found

section
variable {effect : Queue → Sub → Cmd → Nat → Ctx → State} {parse : Option State}

/-- R200, R204: a row puts its oldest eligible command into effect where its DME chooses it. -/
theorem effectOr_of_eligible (h : s.eligibleCmd q d.op.opcode = some (x, u, d, slot, c)) (row : d.op.opcode = opcode) :
    effectOr s q opcode effect parse = .next (s.begunTo q (effect x u d slot c)) := by
  subst row
  simp only [effectOr, h]
  rfl

/-- R197: a row with nothing to put into effect parses. -/
theorem effectOr_of_parses (onParse : Queue → Sub → Nat → Ctx → List Byte → State → State)
    (nothing : s.eligibleCmd q opcode = none) (h : s.parses q opcode c5 c6 x u slot c b) :
    effectOr s q opcode effect (s.parseRow q opcode c5 c6 onParse) =
      .next (s.parsedTo q u (onParse x u slot c b (s.consume q u.seq b.length))) := by
  simp only [effectOr, nothing, State.parseRow_of_parses _ h]
  rfl

end

/-! ## The registers of TRACE_SET -/

/-- DUC_TRACE_MASK keeps the bits of its mask (R230). -/
theorem State.write32_traceMask (s : State) (agent : Nat) (w : W32) :
    s.write32 agent 0x30034 w.toNat = { s with trace := { s.trace with mask := w &&& 0x7FF } } := by
  simp [State.write32, State.writeDuc]

/-- DUC_MOP_SEL keeps the bits of its mask (R230). -/
theorem State.write32_mopSel (s : State) (agent : Nat) (w : W32) :
    s.write32 agent 0x30044 w.toNat = { s with trace := { s.trace with mopSel := w &&& 0xF1FFF } } := by
  simp [State.write32, State.writeDuc]

/-! ## What each row's command does -/

section
variable (h : s.eligibleCmd q d.op.opcode = some (x, u, d, slot, c))
include h

/-- EVENT_RECORD (R217). -/
theorem eventRecord_of_eligible {e : Nat} (hop : d.op = .eventRecord e) :
    exec (.eventRecord q) s = .next (s.begunTo q ((s.recordEvent slot e Code.ok).completeCmd q u.seq d.off)) :=
  (effectOr_of_eligible h (by rw [hop]; rfl)).trans (by simp only [hop])

/-- WRITE_IMM (R223): one single-copy atomic write, and the command waits for its response. -/
theorem writeImm_of_eligible {wide : Bool} {addr value : W64} (hop : d.op = .writeImm wide addr value) :
    exec (.writeImm q) s = .next (s.begunTo q ((s.modCmd q u.seq d.off fun d => { d with state := .begun }).writeMem
      (some (.writeImm q)) c.pasid c.partition addr (leBytes (if wide then 8 else 4) value.toNat) true)) :=
  (effectOr_of_eligible h (by rw [hop]; rfl)).trans (by simp only [hop])

/-- FEED_SET (R230). -/
theorem feedSet_of_eligible {w : W32} (hop : d.op = .feedSet w) :
    exec (.feedSet q) s = .next (s.begunTo q
      (State.completeCmd { s with feed := { s.feed with hostLimit := w } } q u.seq d.off)) :=
  (effectOr_of_eligible h (by rw [hop]; rfl)).trans (by simp only [hop])

/-- TRACE_SET (R230): its flags say which of the two registers it writes. -/
theorem traceSet_of_eligible {m k : Bool} {w mop : W32} (hop : d.op = .traceSet m k w mop) :
    exec (.traceSet q) s = .next (s.begunTo q (State.completeCmd { s with
      trace := { s.trace with
        mask := if m then w &&& 0x7FF else s.trace.mask
        mopSel := if k then mop &&& 0xF1FFF else s.trace.mopSel } } q u.seq d.off)) := by
  refine (effectOr_of_eligible h (by rw [hop]; rfl)).trans ?_
  simp only [hop, State.write32_traceMask, State.write32_mopSel]
  cases m <;> cases k <;> rfl

/-- PRIV_WRITE (R231). -/
theorem privWrite_of_eligible {wide : Bool} {off : Nat} {value : W64} (hop : d.op = .privWrite wide off value) :
    exec (.privWrite q) s =
      .next (s.begunTo q ((s.serveAccess (privAccess wide off value)).completeCmd q u.seq d.off)) :=
  (effectOr_of_eligible h (by rw [hop]; rfl)).trans (by simp only [hop])

/-- PART_CONTROL (R230): the partition is looked for as the command takes effect. -/
theorem partControl_of_eligible {p : Nat} {release : Bool} (hop : d.op = .partControl p release) :
    exec (.partControl q) s = .next (s.begunTo q (if (tget s.parts p).isSome then
      (s.modPart p fun x => { x with hold := !release }).completeCmd q u.seq d.off
      else s.failCmd q u.seq d.off Code.badValue (s.dmeUnit q))) :=
  (effectOr_of_eligible h (by rw [hop]; rfl)).trans (by simp only [hop])

/-- SYNC_CONFIG (R230). -/
theorem syncConfig_of_eligible {local_ : Bool} {first count : Nat} {value : W64}
    (hop : d.op = .syncConfig local_ first count value) :
    exec (.syncConfig q) s = .next (s.begunTo q
      ((s.syncConfig local_ first count value x.handle (.queue q u.seq d.off)).completeCmd q u.seq d.off)) :=
  (effectOr_of_eligible h (by rw [hop]; rfl)).trans (by simp only [hop])

/-! ## Commands of the Sync Unit -/

/-- SYNC_OP (R220): on Sync SRAM at once, on memory with the queue PARKED. -/
theorem syncOp_of_eligible {op index : Nat} {mem : Bool} {addr value : W64} (hop : d.op = .syncOp op mem index addr value) :
    exec (.syncOp q) s = .next (s.begunTo q
      (let begun := s.modCmd q u.seq d.off fun d => { d with state := .begun }
      let p : SyncParty := .queue q u.seq d.off
      if mem then
        (begun.modQueue q fun x => { x with parked := true }).memOp (op == 1) c.pasid c.partition addr value x.handle p
      else begun.sramOp (op == 1) index value x.handle p)) :=
  (effectOr_of_eligible h (by rw [hop]; rfl)).trans (by simp only [hop])

/-- SYNC_WAIT (R221). -/
theorem syncWait_of_eligible (row : d.op.opcode = 0x23) :
    exec (.syncWait q) s = .next (s.begunTo q (s.beginWait q u d)) := effectOr_of_eligible h row

/-- BARRIER (R222). -/
theorem barrier_of_eligible (row : d.op.opcode = 0x24) :
    exec (.barrier q) s = .next (s.begunTo q (s.beginBarrier x q u d c).quiet) := effectOr_of_eligible h row

end

/-! ## The wait of a command that begins -/

/-- What `takeFirst` leaves was in the list. -/
theorem mem_of_mem_takeFirst {α : Type} {ok : α → Bool} {l rest : List α} {a b : α} (h : takeFirst ok l = some (a, rest))
    (left : b ∈ rest) : b ∈ l := by
  induction l generalizing rest with
  | nil => cases h
  | cons e l ih =>
    simp only [takeFirst] at h
    split at h
    · obtain ⟨-, rfl⟩ := Prod.mk.inj (Option.some.inj h)
      exact List.mem_cons_of_mem _ left
    · obtain ⟨⟨f, r⟩, taken, same⟩ := Option.map_eq_some_iff.mp h
      obtain ⟨rfl, rfl⟩ := Prod.mk.inj same
      rcases List.mem_cons.mp left with rfl | left
      · exact List.mem_cons_self
      · exact List.mem_cons_of_mem _ (ih taken left)

/-- The wait that arrives keeps its identity: where it is the one wait of its party, it is found under it (R332). -/
theorem SyncUnit.find?_arrive {y : SyncUnit} {p : SyncParty} {held : SyncWait} (mem : held ∈ y.waits) (party : held.party = p)
    (alone : ∀ v ∈ y.waits, v.party = p → v = held) :
    ∃ w, ((y.arrive p).waits.find? fun w => w.party == p) = some w ∧ w.ident = held.ident := by
  have arrived : (∃ w ∈ (y.arrive p).waits, w.party = p) ∧ ∀ w ∈ (y.arrive p).waits, w.party = p → w.ident = held.ident := by
    unfold SyncUnit.arrive
    split
    · next w rest taken =>
      obtain ⟨of_party, was⟩ := takeFirst_some taken
      obtain rfl := alone w was (eq_of_beq of_party)
      refine ⟨⟨{ w with held := false }, List.mem_append_right _ List.mem_cons_self, party⟩, fun v hv hp => ?_⟩
      rcases List.mem_append.mp hv with left | last
      · rw [alone v (mem_of_mem_takeFirst taken left) hp]
      · rw [List.mem_singleton.mp last]
    · exact ⟨⟨held, mem, party⟩, fun v hv hp => by rw [alone v hv hp]⟩
  obtain ⟨⟨w, hw, hp⟩, same⟩ := arrived
  have found : ((y.arrive p).waits.find? fun w => w.party == p).isSome = true :=
    List.find?_isSome.mpr ⟨w, hw, beq_iff_eq.mpr hp⟩
  obtain ⟨v, hv⟩ := Option.isSome_iff_exists.mp found
  have of_party : v.party = p := by simpa using List.find?_some hv
  exact ⟨v, hv, same v (List.mem_of_find?_eq_some hv) of_party⟩

/-- SYNC_WAIT (R221): the queue is PARKED and the wait, held since the parse, arrives. -/
theorem State.beginWait_of_held {held : SyncWait} (mem : held ∈ s.sync.waits) (party : held.party = .queue q u.seq d.off)
    (alone : ∀ v ∈ s.sync.waits, v.party = .queue q u.seq d.off → v = held) :
    s.beginWait q u d = (s.park q u.seq d.off).enter held.ident := by
  obtain ⟨w, found, ident⟩ := SyncUnit.find?_arrive mem party alone
  have found : ((s.park q u.seq d.off).sync.waits.find? fun w => w.party == .queue q u.seq d.off) = some w := found
  simp only [State.beginWait, found, ident]

/-- BARRIER of a partition that is not the context's is refused (R222, R354). -/
theorem State.beginBarrier_refused {index timeoutUs : Nat} (hop : d.op = .barrier index timeoutUs)
    (other : ∀ y, s.skeinEntry index = some y → c.partition ≠ some y.partition) :
    s.beginBarrier x q u d c =
      (s.barrierRefused ⟨index, [], some (.queue q u.seq d.off)⟩ Code.badValue x.handle).failCmd q u.seq d.off Code.badValue
        unitSync := by
  have foreign : ((s.skeinEntry index).any fun e => c.partition == some e.partition) = false := by
    cases hy : s.skeinEntry index with
    | none => rfl
    | some y => exact beq_eq_false_iff_ne.mpr (other y hy)
  simp only [State.beginBarrier, hop, foreign, Bool.false_eq_true, if_false]

/-- BARRIER of the context's partition arrives, or waits for an instance to end (R222, R347, R349). -/
theorem State.beginBarrier_arrives {index timeoutUs : Nat} {y : SkeinEntry} (hop : d.op = .barrier index timeoutUs)
    (hy : s.skeinEntry index = some y) (own : c.partition = some y.partition) :
    s.beginBarrier x q u d c =
      let t := s.park q u.seq d.off
      t.orLate ⟨index, [], some (.queue q u.seq d.off)⟩ (t.arriveQueue index (.queue q u.seq d.off)) := by
  simp only [State.beginBarrier, hop, hy, own, Option.any_some, beq_self_eq_true, if_true]

/-! ## The response of a WRITE_IMM -/

/-- Where one element alone has a value, `findSome?` finds that value. -/
theorem findSome?_of_alone {α β : Type} {f : α → Option β} {l : List α} {a : α} {v : β} (mem : a ∈ l) (value : f a = some v)
    (alone : ∀ e ∈ l, ∀ w, f e = some w → w = v) : l.findSome? f = some v := by
  have found : (l.findSome? f).isSome = true := List.findSome?_isSome_iff.mpr ⟨a, mem, by rw [value]; rfl⟩
  obtain ⟨w, hw⟩ := Option.isSome_iff_exists.mp found
  obtain ⟨e, he, hew⟩ := List.exists_of_findSome?_eq_some hw
  rw [hw, alone e he w hew]

/-- The response of the one issued WRITE_IMM that its request is of completes or fails that command (R223). -/
theorem State.writeImmEnds_of_issued {t : State} {y : Queue} {r : MemReq} (hy : tget t.queues q = some y) (hu : u ∈ y.subs)
    (hd : d ∈ u.cmds) (alone : ∀ v ∈ y.subs, ∀ f ∈ v.cmds, f.issued r = true → v = u ∧ f = d) (issued : d.issued r = true)
    (ok : Bool) :
    t.writeImmEnds q r ok = if ok then (t.completeCmd q u.seq d.off).cbFetch q
      else (t.failCmd q u.seq d.off Code.memoryError (t.dmeUnit q)).pasidFault r.pasid Code.memoryError := by
  have value (v : Sub) (hv : v ∈ y.subs) (p : W64 × Nat)
      (h : ((v.cmds.find? (Cmd.issued r)).map fun c => (v.seq, c.off)) = some p) : p = (u.seq, d.off) := by
    obtain ⟨f, hf, rfl⟩ := Option.map_eq_some_iff.mp h
    obtain ⟨rfl, rfl⟩ := alone v hv f (List.mem_of_find?_eq_some hf) (List.find?_some hf)
    rfl
  have own : ((u.cmds.find? (Cmd.issued r)).map fun c => (u.seq, c.off)) = some (u.seq, d.off) := by
    obtain ⟨f, hf⟩ := Option.isSome_iff_exists.mp (List.find?_isSome.mpr ⟨d, hd, issued⟩)
    have named : ((u.cmds.find? (Cmd.issued r)).map fun c => (u.seq, c.off)) = some (u.seq, f.off) := by rw [hf]; rfl
    rw [named, value u hu _ named]
  simp only [State.writeImmEnds, hy, Option.bind_some, findSome?_of_alone hu own value]

/-- WRITE_IMM_VISIBLE of a WRITE_IMM ends the command, and what waits acts (R223). -/
theorem writeImmVisible_of_answered {t : State} {r : MemReq} (h : s.answered (.writeImm q) = some (r, t)) (ok : Bool) :
    exec (.writeImmVisible (.writeImm q) ok) s = .next (s.ends (t.writeImmEnds q r ok)) := by
  simp only [exec, execWriteImmVisible, MemWait.posted, h, not_true_eq_false, if_false]
  rfl

end Sys2Proof.Machine

open Sys2Proof Sys2Proof.Machine

/-- Settles O46: each row's command is its queue's oldest eligible one, so the row's effect on it is what the row does; with
none eligible the row comes to the effect of its parse. -/
theorem windowCommands : Obligations.WindowCommands := by
  intro s t q slot e p index first count timeoutUs pollUs op x y u c d held b wide release local_ m k addr value mask w mop r
    begin_ park me
  refine ⟨fun opcode h => ?_, fun nothing parses => ?_, fun nothing parses unordered => ?_, fun front hy hu hd alone issued => ?_⟩
  · obtain rfl := State.eligibleCmd_opcode h
    refine ⟨rfl, eventRecord_of_eligible h, writeImm_of_eligible h, feedSet_of_eligible h, traceSet_of_eligible h,
      privWrite_of_eligible h, fun hop => ?_, syncConfig_of_eligible h, syncOp_of_eligible h, syncOp_of_eligible h,
      fun hop mem party alone => ?_, fun hop other => ?_, fun hop y hy own => ?_⟩
    · rw [partControl_of_eligible h hop]
      exact ⟨fun live => by rw [if_pos live], fun gone => by rw [gone]; rfl⟩
    · rw [syncWait_of_eligible h (by rw [hop]; rfl), State.beginWait_of_held mem party alone]
      rfl
    · rw [barrier_of_eligible h (by rw [hop]; rfl), State.beginBarrier_refused hop other]
    · rw [barrier_of_eligible h (by rw [hop]; rfl), State.beginBarrier_arrives hop hy own]
      rfl
  · exact effectOr_of_parses _ nothing parses
  · refine (effectOr_of_parses _ nothing parses).trans ?_
    simp only [unordered, Bool.false_eq_true, if_false]
  · rw [writeImmVisible_of_answered front, writeImmVisible_of_answered front,
      State.writeImmEnds_of_issued hy hu hd alone issued, State.writeImmEnds_of_issued hy hu hd alone issued]
    exact ⟨rfl, rfl⟩

end

section
/-! A granted launch of a pattern of no Nibs: it is dispatched although its context's partition is not live (R209, R210). -/

namespace Sys2Proof.Machine

open Sys2Proof

/-- A pattern with nothing in it: TARGET_NIBS is 0, which no registration admits (R236). -/
def nibless : Pattern :=
  { storeEntry := 0, stateTag := 0, constMin := 0, paramUsed := 0, paramSigned := 0, bounds := [], variantNo := 0
    body := { targetNibs := 0, cores := 0, depth := 0, dmemBytes := 0, lookahead := 0, perEntry := false, trigLevel := 0
              counts := [], nibLevel := none, coreLevel := none, streams := [], templates := [], ops := [] } }

/-- A launch of pattern index 0 that Feed has granted and that waits for nothing. -/
def grantedLaunch : Cmd :=
  { off := 16, parseNo := 0, stamp := 0, op := .launch 0 none none [], waits := [], state := .parsed, withheld := none
    granted := true, rest := [] }

/-- The submission of the launch. -/
def launchingSub : Sub :=
  { first := 0, entries := 1, seq := 1, fetched := 0, segs := [], held := [], asked := 0, pos := 48, header := true
    explicit := false, chains := 0, params := [], const := none, version := 0, cmds := [grantedLaunch], parsed := true
    failed := none, retired := none }

/-- The queue of the launch, on DME 0. -/
def launchingQueue : Queue := { Queue.created (handleOf 0 0) with resident := true, subs := [launchingSub] }

/-- An ACTIVE context of partition 0, whose pattern index 0 holds the pattern of no Nibs. -/
def niblessCtx : Ctx :=
  { Ctx.blank 0 false with state := .active, partition := some 0, patterns := [(0, ⟨0, .pattern nibless⟩)] }

/-- A single Hub that runs, with the launch in queue 1 and no partition in its table. -/
def niblessLaunch : State := { State.reset with ctxs := [(0, niblessCtx)], queues := [(1, launchingQueue)] }

theorem niblessLaunch_dmeRuns : niblessLaunch.dmeRuns 0 = true := rfl

/-- The context has no Nib to place on and the launch asks for none; granted, it is not put to Feed, which would look for
the partition. -/
theorem niblessLaunch_nextLaunch : niblessLaunch.nextLaunch 0 false =
    some (1, launchingQueue, launchingSub, grantedLaunch, 0, niblessCtx, .go (0, nibless, []) [] [] []) := rfl

/-- The partition that the context names is not live. -/
theorem niblessLaunch_partition : niblessCtx.partition.bind (tget niblessLaunch.parts) = none := rfl

end Sys2Proof.Machine

open Sys2Proof Sys2Proof.Machine

/-- Refutes O47: the statement says of every dispatched launch that its context's partition is live. The checks of R209 see a
named partition that is not live only as too few Nibs, so a pattern whose TARGET_NIBS is 0 passes them, and a launch that Feed
has granted already goes without another look at the partition. The verifier admits TARGET_NIBS of 1 to 256 alone (R236), but
no hypothesis of the statement keeps 0 out of the pattern table. -/
theorem not_launchDispatch : ¬ Obligations.LaunchDispatch := by
  intro h
  obtain ⟨next, -⟩ := h niblessLaunch 0 1 0 0 0 0 false launchingQueue launchingSub grantedLaunch niblessCtx 0 0 [] [] [] nibless
    [] 0 (.go (0, nibless, []) [] [] []) ⟨none, .read, 0, none, 0, 0, [], false, false, 0, false, []⟩ niblessLaunch
  obtain ⟨-, -, -, -, go⟩ := next niblessLaunch_dmeRuns niblessLaunch_nextLaunch
  obtain ⟨-, -, -, -, -, live, -⟩ := go rfl
  rw [niblessLaunch_partition] at live
  cases live

end

section
/-! Nibs: what a front message, a record and a message to a Nib leave unchanged, and the parts of a Nib after a change
(R48, R262, R462). -/

namespace Sys2Proof.Machine

open Sys2Proof

variable {s t : State} {n : Nat} {b : Nib} {m : DownMsg}

/-! ## The state -/

/-- Two changes of a Nib that agree on it come to the same. -/
theorem State.modNib_congr {f g : Nib → Nib} (h : ∀ b, s.nibs[n]? = some b → f b = g b) : s.modNib n f = s.modNib n g :=
  congrArg (fun l => { s with nibs := l }) (lmod_congr h)

theorem State.modNib_self (hb : s.nibs[n]? = some b) (f : Nib → Nib) : (s.modNib n f).nibs[n]? = some (f b) := by
  rw [State.modNib_nibs, getElem?_lmod_self, hb, Option.map_some]

/-- The Nib that a front message is taken from is the one the state holds. -/
theorem State.nibFront_nib (front : s.nibFront n = some (m, b, t)) : s.nibs[n]? = some b := by
  unfold State.nibFront at front
  split at front
  · next c hc =>
    split at front
    · split at front
      · simp only [Option.some.injEq, Prod.mk.injEq] at front
        obtain ⟨-, rfl, -⟩ := front
        exact hc
      · cases front
    · cases front
  · cases front

/-- A Nib's record changes the trace and the Nibs' buffers of records alone (R48). -/
theorem State.recordNib_eq (s : State) (n source typ payload : Nat) :
    ∃ tr nibs, s.recordNib n source typ payload = { s with trace := tr, nibs := nibs } := by
  unfold State.recordNib State.recordNibAs
  split
  · exact ⟨s.trace, s.nibs, rfl⟩
  · split
    · simp only
      split <;> exact ⟨_, _, rfl⟩
    · exact ⟨s.trace, s.nibs, rfl⟩

@[simp] theorem State.recordNib_parts (s : State) (n source typ payload : Nat) :
    (s.recordNib n source typ payload).parts = s.parts := by
  obtain ⟨tr, nibs, h⟩ := s.recordNib_eq n source typ payload
  rw [h]

/-- A message to a Nib changes no translation (R285). -/
@[simp] theorem State.sendNib_xlat (s : State) (n : Nat) (m : DownMsg) : (s.sendNib n m).xlat = s.xlat := by
  unfold State.sendNib State.emit
  split
  · split
    · rfl
    · next b _ _ =>
      obtain ⟨spl, nibs, tr, mir, h⟩ := s.sendDown_eq b.via m
      rw [State.release, h]
  · rfl

/-! ## The Nib -/

/-- Settling changes a Nib's power state alone (R462). -/
theorem Nib.settle_eq (b : Nib) (now : Nat) : ∃ power since, b.settle now = { b with power := power, idleSince := since } := by
  unfold Nib.settle
  simp only
  split
  · exact ⟨b.power, b.idleSince, rfl⟩
  · split
    · exact ⟨_, b.idleSince, rfl⟩
    · split
      · exact ⟨_, _, rfl⟩
      · exact ⟨b.power, b.idleSince, rfl⟩

theorem Nib.settle_cores (b : Nib) (now : Nat) : (b.settle now).cores = b.cores := by
  obtain ⟨power, since, h⟩ := b.settle_eq now
  rw [h]

theorem Nib.settle_stitchers (b : Nib) (now : Nat) : (b.settle now).stitchers = b.stitchers := by
  obtain ⟨power, since, h⟩ := b.settle_eq now
  rw [h]

theorem Nib.queue_modEq (b : Nib) (core eq : Nat) (f : EngineQueue → EngineQueue) :
    (b.modEq core eq f).queue core eq = (b.queue core eq).map f := by
  simp only [Nib.queue, Nib.modEq, getElem?_lmod_self]
  cases b.cores[core]? with
  | none => rfl
  | some qs => exact getElem?_lmod_self qs eq f

/-- A change that leaves the messages of tasks as they are changes the task found under a tag and epoch. -/
theorem Nib.task_modTask {f : NibTask → NibTask} (keeps : ∀ k, (f k).msg = k.msg) (b : Nib) (tag : Nat) (epoch : W32) :
    (b.modTask tag epoch f).task tag epoch = (b.task tag epoch).map f := by
  have same (k : NibTask) : (if k.msg.tag = tag ∧ k.msg.epoch = epoch then f k else k).msg = k.msg := by
    split
    · exact keeps k
    · rfl
  simp only [Nib.task, Nib.modTask, List.find?_map, Function.comp_def, same]
  cases found : b.tasks.find? fun k => k.msg.tag == tag && k.msg.epoch == epoch with
  | none => rfl
  | some k =>
    have named : k.msg.tag = tag ∧ k.msg.epoch = epoch := by simpa using List.find?_some found
    exact congrArg some (if_pos named)

end Sys2Proof.Machine
end

section
/-! A task at its Nib: receipt, constants, swap-in and emission (R262 to R271, R283). -/

namespace Sys2Proof.Machine

open Sys2Proof

variable {s t : State} {nib core tag tp : Nat} {m : TaskMsg} {b : Nib} {k : NibTask} {v : Variant} {x : Stitcher}

/-! ## Receipt -/

/-- The share that a task message becomes at its Nib (R262, R264, R265). -/
def TaskMsg.share (m : TaskMsg) (n slot now : Nat) : NibTask :=
  { msg := m, position := m.positionAt n, slot := slot, constant := if m.const.isNone then some [] else none,
    started := false, arrivedAt := now, abort := none, fatal := none, waiter := none, residue := [],
    residuePending := [], residueAsked := false, doneAt := none, energy := 0, nf := none }

/-- A state slot as a task takes it: used where it holds the task's pattern, else to be filled (R264). -/
def TaskMsg.mark (m : TaskMsg) (now : Nat) (held : Bool) (x : StateSlot) : StateSlot :=
  if held then { x with lastUsed := now + 1 } else ⟨some m.stateTag, m.storeEntry, none, now + 1⟩

/-- A Nib that has taken a task message (R264). -/
def Nib.took (b : Nib) (m : TaskMsg) (n now : Nat) : Nib :=
  let c := b.chooseSlot m.stateTag
  Nib.settle { b with slots := lmod b.fourSlots c.1 (m.mark now c.2), tasks := b.tasks ++ [m.share n c.1 now] } now

theorem State.takeTask_nib (hb : s.nibs[nib]? = some b) (m : TaskMsg) :
    (s.takeTask nib m).nibs[nib]? = some (b.took m nib s.now) := by
  simp only [State.takeTask, hb, Nib.took, TaskMsg.share]
  cases (b.chooseSlot m.stateTag).2 <;> cases m.const <;> exact State.modNib_self hb _

/-- Taking a task touches no table of the Hub: its slot and its constants are asked for from memory (R264, R265). -/
theorem State.takeTask_hub (s : State) (nib : Nat) (m : TaskMsg) :
    (s.takeTask nib m).tasks = s.tasks ∧ (s.takeTask nib m).queues = s.queues := by
  unfold State.takeTask
  split
  · exact ⟨rfl, rfl⟩
  · simp only
    split <;> split <;> exact ⟨rfl, rfl⟩

theorem nibTaskReceive_of_front (front : s.nibFront nib = some (.task m, b, t)) : exec (.nibTaskReceive nib) s =
    .next (State.close s (if b.power = .off then s.askWake nib (s.partOfNib nib) else t.takeTask nib m)) := by
  simp only [exec, execNibTaskReceive, front]
  split <;> rfl

/-! ## Swap-in -/

/-- R267: the task that swaps in has not started and is not aborted, and every Stitcher of the Nib is free. -/
theorem Nib.swapsIn_some (h : b.swapsIn = some (k, v)) :
    k.started = false ∧ k.abort = none ∧ b.stitchers.all Stitcher.ended = true := by
  unfold Nib.swapsIn at h
  split at h
  · cases h
  · next j oldest =>
    split at h
    · cases h
    · split at h
      · next free =>
        simp only [Option.some.injEq, Prod.mk.injEq] at h
        obtain ⟨rfl, -⟩ := h
        simp only [Bool.and_eq_true, Option.isNone_iff_eq_none] at free
        obtain ⟨⟨⟨ended, -⟩, whole⟩, -⟩ := free
        exact ⟨by simpa using List.find?_some oldest, whole, ended⟩
      · cases h

/-- A Nib with a task swapped in: the task's Stitchers stand at their first points, before those of cores that it leaves
free (R267). -/
def Nib.swapped (b : Nib) (k : NibTask) (v : Variant) : Nib :=
  { b.modTask k.msg.tag k.msg.epoch fun k => { k with started := true } with
    stitchers := (List.range v.cores).map (v.start k) ++ b.stitchers.filter fun x => decide (v.cores ≤ x.core) }

theorem nibSwapIn_of_ready (hb : s.nibs[nib]? = some b) (present : b.present = true) (ready : b.swapsIn = some (k, v)) :
    exec (.nibSwapIn nib) s = .next (State.close s ((s.modNib nib fun _ => b.swapped k v).recordNib nib (nibSource nib) 0x04
      (k.msg.patIndex + 2 ^ 16 * (k.msg.epoch.toNat % 65536)))) := by
  have same : s.modNib nib (fun _ => b.swapped k v) = s.modNib nib fun c =>
      { c.modTask k.msg.tag k.msg.epoch fun k => { k with started := true } with stitchers := (b.swapped k v).stitchers } :=
    State.modNib_congr fun c hc => by
      obtain rfl : b = c := Option.some.inj (hb.symm.trans hc)
      rfl
  rw [same]
  simp only [exec, execNibSwapIn, hb, Option.bind_some, present, if_true, ready, Option.map_some]
  rfl

/-- R267: of the Stitchers on the cores of the swapped-in task each is the task's, at its first point. -/
theorem Nib.swapped_fresh {z : Stitcher} (hz : z ∈ (b.swapped k v).stitchers) (own : z.core < v.cores) :
    z = v.start k z.core := by
  rcases List.mem_append.mp hz with fresh | rest
  · obtain ⟨c, -, rfl⟩ := List.mem_map.mp fresh
    rfl
  · have free : v.cores ≤ z.core := of_decide_eq_true (List.mem_filter.mp rest).2
    exact absurd own (Nat.not_lt.mpr free)

/-- R267: every core of the task has its Stitcher. -/
theorem Nib.start_mem_swapped (b : Nib) (k : NibTask) {c : Nat} (own : c < v.cores) :
    v.start k c ∈ (b.swapped k v).stitchers :=
  List.mem_append_left _ (List.mem_map_of_mem (List.mem_range.mpr own))

/-- R267: the task has started. -/
theorem Nib.swapped_started {j : NibTask} (hj : (b.swapped k v).task k.msg.tag k.msg.epoch = some j) : j.started = true := by
  have changed : (b.swapped k v).task k.msg.tag k.msg.epoch =
      (b.task k.msg.tag k.msg.epoch).map fun k => { k with started := true } :=
    Nib.task_modTask (f := fun k => { k with started := true }) (fun _ => rfl) b k.msg.tag k.msg.epoch
  obtain ⟨j, -, rfl⟩ := Option.map_eq_some_iff.mp (changed.symm.trans hj)
  rfl

/-! ## Emission -/

section
variable (hb : s.nibs[nib]? = some b) (stands : (b.stitchers.find? fun x => x.core == core && !x.ended) = some x)
  (hk : b.task x.tag x.epoch = some k) (hv : b.body k = some v)
include hb stands hk hv

/-- R269, R283: with every packet of its point emitted the Stitcher moves on and looks ahead. -/
theorem stitcherEmit_of_emitted {b' : Nib} {x' : Stitcher}
    (emits : b.emitAll k v (x.begin k v) ((x.begin k v).todo.getD []) = (b', x', [])) :
    exec (.stitcherEmit nib core) s =
      let z := ({ x' with todo := some [] } : Stitcher).next k v
      .next (s.endsQuiet ((((s.modNib nib fun _ => b'.modStitcher core fun _ => { z with parked := false }).lookAhead nib k v
        { z with core := core } x.flat)).checkShare nib x.tag x.epoch)) := by
  simp only [exec, execStitcherEmit, hb, stands, hk, hv, Option.bind_some, Option.map_some, emits, ne_eq, not_true_eq_false,
    and_false, if_false, List.isEmpty_nil, if_true]
  rfl

/-- R269: packets left over wait for room, where some have been emitted or the point is new. -/
theorem stitcherEmit_of_left {b' : Nib} {x' : Stitcher} {left : List Nat}
    (emits : b.emitAll k v (x.begin k v) ((x.begin k v).todo.getD []) = (b', x', left)) (waits : left ≠ [])
    (moved : x.todo ≠ some left) :
    exec (.stitcherEmit nib core) s = .next (s.endsQuiet
      ((s.modNib nib fun _ => b'.modStitcher core fun _ => { x' with todo := some left, parked := false }).checkShare nib
        x.tag x.epoch)) := by
  have some_left : left.isEmpty = false := List.isEmpty_eq_false_iff.mpr waits
  simp only [exec, execStitcherEmit, hb, stands, hk, hv, Option.bind_some, Option.map_some, emits, moved, false_and, if_false,
    some_left, Bool.false_eq_true]
  rfl

end

section
variable {f : Template} {e : EngineQueue} (hf : v.templates[tp]? = some f) (he : b.queue x.core f.eq = some e)
include hf he

/-- R271: a queue's issue buffer holds 4 packets. -/
theorem Nib.emitOne_of_full (k : NibTask) (full : 4 ≤ e.buf.length) : b.emitOne k v x tp = none := by
  simp only [Nib.emitOne, hf, he, if_pos full]

/-- The packet that a Stitcher forms of a template at its point (R247, R249, R269). -/
def Nib.packet (b : Nib) (k : NibTask) (v : Variant) (x : Stitcher) (tp : Nat) (f : Template) : Packet :=
  { uid := b.nextUid, tag := x.tag, epoch := x.epoch, pasid := k.msg.pasid, partition := k.msg.partition, template := tp
    activity := f.activity, payload := f.form v.streams k.msg.param x.index x.dmem, iter := x.flat
    deps := f.deps.filterMap (tget x.lastUid), purl := false }

/-- R247 to R249, R269: with room the template's packet is formed and joins its queue. -/
theorem Nib.emitOne_of_room (k : NibTask) (room : e.buf.length < 4) :
    ∃ (b' : Nib) (x' : Stitcher) (p : Packet), b.emitOne k v x tp = some (b', x') ∧
      b'.queue x.core f.eq = some { e with buf := e.buf ++ [p] } ∧ p.template = tp ∧ p.iter = x.flat ∧ p.tag = x.tag ∧
      p.pasid = k.msg.pasid ∧ p.payload = f.form v.streams k.msg.param x.index x.dmem ∧
      p.deps = f.deps.filterMap (tget x.lastUid) ∧ tget x'.lastUid tp = some p.uid ∧ b'.tasks = b.tasks := by
  simp only [Nib.emitOne, hf, he, if_neg (Nat.not_le.mpr room)]
  refine ⟨_, _, b.packet k v x tp f, rfl, ?_, rfl, rfl, rfl, rfl, rfl, rfl, tget_tset_self _ _ _, rfl⟩
  exact (Nib.queue_modEq b x.core f.eq _).trans (congrArg _ he)

end

end Sys2Proof.Machine

open Sys2Proof Sys2Proof.Machine

/-- Settles O51: receipt, the answers to the reads that it makes, swap-in, and the emission of a point and of a template. -/
theorem nibTasks : Obligations.NibTasks := by
  intro s t nib core slot tag tp m b k v x r l f e
  refine ⟨fun front => ⟨?receives, ?wakes, ?taken⟩, fun filled => ?slot, fun staged => ⟨?constants, ?constantsError⟩,
    fun hb present ready => ?swap, fun hb stands hk hv => ?emit, fun hf he => ⟨Nib.emitOne_of_full hf he k,
      Nib.emitOne_of_room hf he k⟩⟩
  case receives =>
    intro on
    rw [nibTaskReceive_of_front front, if_neg on]
  case wakes =>
    intro off
    rw [nibTaskReceive_of_front front, if_pos off]
  case taken =>
    obtain ⟨rest, rfl⟩ := State.nibFront_some front
    have taken := State.takeTask_nib (State.modNib_self (State.nibFront_nib front) fun b => { b with down := rest }) m
    obtain ⟨tasks, queues⟩ := State.takeTask_hub (s.modNib nib fun b => { b with down := rest }) nib m
    refine ⟨_, m.share nib (b.chooseSlot m.stateTag).1 s.now, taken, Nib.settle_tasks _ _, rfl, rfl, rfl, rfl, fun plain => ?_,
      Nib.settle_cores _ _, Nib.settle_stitchers _ _, tasks, queues⟩
    simp only [TaskMsg.share, plain, Option.isNone_none, if_true]
  case slot =>
    simp only [exec, execStateSlotFilled, filled]
    rfl
  case constants => simp only [exec, execConstantsStaged, staged, done]
  case constantsError =>
    simp only [exec, execConstantsStaged, staged]
    rfl
  case swap =>
    obtain ⟨waiting, whole, ended⟩ := Nib.swapsIn_some ready
    refine ⟨waiting, whole, ended, _, _, nibSwapIn_of_ready hb present ready, State.modNib_self hb _, rfl,
      fun i other => getElem?_lmod_of_ne _ _ other, fun z hz own => ?_, fun c own => ⟨_, Nib.start_mem_swapped b k own, rfl⟩,
      fun j hj => Nib.swapped_started hj⟩
    rw [Nib.swapped_fresh hz own]
    exact ⟨rfl, rfl, rfl, rfl, rfl, rfl, rfl⟩
  case emit =>
    intro y r
    exact ⟨fun all => stitcherEmit_of_emitted hb stands hk hv (Prod.ext rfl (Prod.ext rfl all)),
      fun waits moved => stitcherEmit_of_left hb stands hk hv rfl waits moved⟩

end

section
/-! Issue, completion tokens, residue answers and aborts at a Nib (R151, R152, R271 to R279, R338). -/

namespace Sys2Proof.Machine

open Sys2Proof

variable {s t : State} {nib core eq tag : Nat} {epoch : W32} {b : Nib} {e : EngineQueue} {o : OutMop} {p : Packet}
  {token : List Byte} {values : List W64} {k : NibTask}

/-! ## Issue -/

/-- R271: the head of a queue's buffer is ready where the queue is open, has a credit, and nothing that the packet depends on
is pending. -/
theorem Nib.readyHead_eq_some_iff : b.readyHead core eq = some p ↔ ∃ e rest, b.queue core eq = some e ∧
    e.buf = p :: rest ∧ e.opened = true ∧ e.live.length < e.credits ∧ ∀ u ∈ p.deps, b.pendingUid core u = false := by
  cases hq : b.queue core eq with
  | none => simp [Nib.readyHead, hq]
  | some e =>
    cases hbuf : e.buf with
    | nil => simp [Nib.readyHead, hq, hbuf]
    | cons head rest =>
      have free : ((e.opened && decide (e.live.length < e.credits) && !head.deps.any (b.pendingUid core)) = true) ↔
          e.opened = true ∧ e.live.length < e.credits ∧ ∀ u ∈ head.deps, b.pendingUid core u = false := by
        simp [and_assoc]
      simp only [Nib.readyHead, hq, hbuf, Option.ite_none_right_eq_some, free, Option.some.injEq]
      constructor
      · rintro ⟨ready, rfl⟩
        exact ⟨e, rest, rfl, hbuf, ready⟩
      · rintro ⟨e, rest, rfl, hp, ready⟩
        obtain ⟨rfl, -⟩ := List.cons.inj (hbuf.symm.trans hp)
        exact ⟨ready, rfl⟩

/-- R272: what the arbiter visits as ready is ready. -/
theorem Nib.readyHead_isSome_of_mem {c : Nat × Nat} (h : c ∈ b.readyHeads) : (b.readyHead c.1 c.2).isSome = true := by
  obtain ⟨core, -, h⟩ := List.mem_flatMap.mp h
  obtain ⟨q, hq, rfl⟩ := List.mem_map.mp h
  exact (List.mem_filter.mp hq).2

/-! ## Tokens -/

/-- A token whose MOP_SEQ names no live packet is a stray (R276). -/
theorem completionToken_stray (hb : s.nibs[nib]? = some b) (present : b.present = true) (he : b.queue core eq = some e)
    (unknown : (e.live.find? fun o => o.mopSeq == le token 0 2) = none) :
    exec (.completionToken nib core eq token) s = .next (State.close s (s.strayMop nib core eq)) := by
  simp only [exec, execCompletionToken, hb, he, Option.bind_some, Option.map_some, present, not_true_eq_false, if_false, unknown,
    done]

/-- STATUS of a token; a reserved bit of ACTIVITY makes it ENGINE_ERROR (R11, R275). -/
def tokenStatus (token : List Byte) : Nat := if le token 2 1 < 64 then le token 3 1 else 0x10

/-- Whether the abort that a queue's port carries covers a packet (R511). -/
def EngineQueue.covers (e : EngineQueue) (p : Packet) : Bool := match e.abort with | some a => a.covers p | none => false

/-- The NONFINITE report of a token (R280). -/
def State.tokenReport (s : State) (nib core eq : Nat) (token : List Byte) : Option NonFinite :=
  if tokenStatus token = 1 then some ⟨s.nibNow nib, engineAddr nib core eq⟩ else none

/-- The state once the token of a live packet of a task has been taken, before what follows from it (R274 to R279). -/
def State.takeToken (s : State) (nib core eq : Nat) (token : List Byte) (p : Packet) (covered : Bool) : State :=
  (s.chargeToken nib (le token 4 4) (le token 2 1 % 64) p).modNib nib fun b =>
    let b := (b.modEq core eq fun e => e.token (le token 0 2) s.now).modTask p.tag p.epoch fun k =>
      { k with doneAt := some (s.nibNow nib) }
    let b := b.modTask p.tag p.epoch fun k => k.tokened (tokenFatal (tokenStatus token) covered)
      (tokenStatus token == 2 && covered) (s.tokenReport nib core eq token)
    Nib.settle { b with invalidations := b.invalidations.map fun i => (i.1, i.2.1, i.2.2.filter (· != p.uid)) } s.now

/-- What follows from a token: invalidations that waited for it are answered, and its share may have ended (R278, R285). -/
def State.afterToken (t : State) (nib : Nat) (p : Packet) : State := (t.answerInvalidations nib).checkShare nib p.tag p.epoch

/-- The end of a token's command: a context-fatal code has its record and faults the token's context (R275, R279). -/
def State.tokenEnds (s : State) (nib core eq : Nat) (token : List Byte) (p : Packet) (t : State) :
    Option W16 → Host.Outcome State Fault Refusal
  | none => .next (State.close s (t.afterToken nib p))
  | some c => .next (s.endsQuiet (((t.recordNib nib (nibSource nib) 0x0A
      (c.toNat + 2 ^ 16 * engineAddr nib core eq + 2 ^ 64 * le token 8 8)).afterToken nib p).pasidFault p.pasid c))

section
variable (hb : s.nibs[nib]? = some b) (present : b.present = true) (he : b.queue core eq = some e)
  (live : (e.live.find? fun o => o.mopSeq == le token 0 2) = some o) (task : o.packet.purl = false)
include hb present he live task

/-- R275, R276, R279: a token of a live packet of a task ends by the context-fatal code of its STATUS. -/
theorem completionToken_of_live : exec (.completionToken nib core eq token) s =
    s.tokenEnds nib core eq token o.packet (s.takeToken nib core eq token o.packet (e.covers o.packet))
      (tokenFatal (tokenStatus token) (e.covers o.packet)) := by
  simp only [exec, execCompletionToken, hb, he, Option.bind_some, Option.map_some, present, not_true_eq_false, if_false, live,
    task, Bool.false_eq_true]
  split
  · next c fatal =>
    have fatal : tokenFatal (tokenStatus token) (e.covers o.packet) = some c := fatal
    rw [fatal]
    rfl
  · next harmless =>
    have harmless : tokenFatal (tokenStatus token) (e.covers o.packet) = none := harmless
    rw [harmless]
    rfl

end

/-! ## Aborts -/

/-- R152: a Nib with a token missing 100 µs after an abort is lost with cause 2. -/
theorem abortTokenTimeout_of_due (hb : s.nibs[nib]? = some b) (he : b.queue core eq = some e) (aborts : e.abort.isSome = true)
    (due : e.abortSince + 100000 ≤ s.now) : exec (.abortTokenTimeout nib) s = .next (s.endsQuiet (s.nibLost nib 2)) := by
  obtain ⟨qs, hqs, he⟩ := Option.bind_eq_some_iff.mp he
  have missing : (b.cores.any fun c => c.any fun e => e.abort.isSome && decide (e.abortSince + 100000 ≤ s.now)) = true :=
    List.any_eq_true.mpr ⟨qs, List.mem_of_getElem? hqs,
      List.any_eq_true.mpr ⟨e, List.mem_of_getElem? he, by simp [aborts, due]⟩⟩
  simp only [exec, execAbortTokenTimeout, hb, missing, if_true, done, State.endsQuiet]

end Sys2Proof.Machine

open Sys2Proof Sys2Proof.Machine

/-- Settles O52: issue by what the arbiter finds ready, tokens by their outcome, then the answers and aborts of the Nib's
down-stream. -/
theorem nibIssueAndTokens : Obligations.NibIssueAndTokens := by
  intro s t nib core eq tag epoch b e o p token values k pasid cause nibs r v
  refine ⟨Nib.readyHead_eq_some_iff, fun hb present on => ⟨?few, ?ready, ?issues⟩,
    fun hb present he => ⟨?stray, ?token⟩, ⟨rfl, rfl, rfl, rfl, rfl, rfl⟩, fun front => ⟨?gone, ?clean, ?residue⟩, fun front => ?abort, ?timeout⟩
  case few => exact Nat.le_trans (List.length_take_le _ _) (Nat.min_le_left _ _)
  case ready => exact fun c hc => Nib.readyHead_isSome_of_mem (List.mem_of_mem_take hc)
  case issues =>
    intro changed
    simp only [exec, execNibIssue, hb, present, on, not_true_eq_false, or_self, if_false]
    exact if_neg changed
  case stray => exact completionToken_stray hb present he
  case token =>
    rintro live rfl task
    have outcome := completionToken_of_live hb present he live task
    refine ⟨fun harmless => outcome.trans ?_, fun c fatal => outcome.trans ?_⟩
    · exact congrArg (s.tokenEnds nib core eq token o.packet _) harmless
    · exact congrArg (s.tokenEnds nib core eq token o.packet _) fatal
  case gone =>
    intro absent
    simp only [exec, execResidueReadAnswer, front, absent, done]
  case clean =>
    intro hk same
    simp only [exec, execResidueReadAnswer, front, hk, same, done]
  case residue =>
    intro hk differs
    simp only [exec, execResidueReadAnswer, front, hk, differs, done]
  case abort => simp only [exec, execAbortAtNib, front, done]
  case timeout => exact abortTokenTimeout_of_due

end

section
/-! Requests of engines and what answers them at the Nib (R276, R281 to R288, R330, R331, R349, R351, R512). -/

namespace Sys2Proof.Machine

open Sys2Proof

variable {s t : State} {nib core eq kind : Nat} {request : List Byte} {b : Nib} {o : OutMop} {q : EngineQueue}

/-! ## The fate of a request -/

/-- The rows of requests: a request that is answered at once (R276, R512). -/
theorem State.engineRow_of_answered {result : Nat} {stray : Bool} (hb : s.nibs[nib]? = some b)
    (fate : b.fate core eq kind request = .answered result stray) (take : Nib → OutMop → State) :
    s.engineRow nib core eq kind request take = .next (State.close s (s.refuseReq nib core eq request result stray)) := by
  simp only [State.engineRow, hb, fate, done]

/-- The rows of requests: a request that is taken for the packet it names (R281). -/
theorem State.engineRow_of_taken (hb : s.nibs[nib]? = some b) (fate : b.fate core eq kind request = .taken o)
    (take : Nib → OutMop → State) : s.engineRow nib core eq kind request take = .next (State.close s (take b o)) := by
  simp only [State.engineRow, hb, fate, done]

section
variable (hq : b.queue core eq = some q) (present : b.present = true)
  (room : (q.out.foldl (fun n o => n + o.reqs.length) 0) < 4) (ofKind : le request 0 1 = kind)
include hq present room ofKind

/-- R276, R281: a request whose MOP_SEQ names no live packet is a stray. -/
theorem Nib.fate_of_unknown (unknown : q.live.find? (fun o => o.mopSeq == le request 2 2) = none) :
    b.fate core eq kind request = .answered 5 true := by
  simp only [Nib.fate, hq, present, Nat.not_le.mpr room, ofKind, not_true_eq_false, ne_eq, false_and, or_self, if_false, unknown]

/-- R281, R512: a well-formed request of a live packet of a task is taken, unless its share is aborted. -/
theorem Nib.fate_of_clean (live : q.live.find? (fun o => o.mopSeq == le request 2 2) = some o) (task : o.packet.purl = false)
    (clean : reqClean request = true) (ok : kind = 2 → syncReqOk request = true) :
    b.fate core eq kind request = if b.abortedShare o.packet then .answered 6 false else .taken o := by
  have formed : ¬(¬reqClean request = true ∨ o.packet.purl = true ∨ kind = 2 ∧ ¬syncReqOk request = true) := by
    simpa [clean, task] using ok
  simp only [Nib.fate, hq, present, Nat.not_le.mpr room, ofKind, not_true_eq_false, ne_eq, false_and, or_self, if_false, live,
    if_neg formed]

end

/-! ## SYNC -/

/-- R349, R354: the arrival of a core that its barrier admits is sent and counted. -/
theorem engineSyncRequest_arrives {y : SkeinEntry} (hb : s.nibs[nib]? = some b)
    (fate : b.fate core eq 2 request = .taken o) (arrival : bits (le request 1 1) 2 0 = 6)
    (admitted : s.coreMayArrive b o.packet core (le request 0x20 4) = some y) :
    exec (.engineSyncRequest nib core eq request) s =
      .next (State.close s ((s.sendSync nib core eq o request).countCore nib core o.packet y)) := by
  simp only [exec, execEngineSyncRequest, State.engineRow_of_taken hb fate, arrival, if_true, admitted]

/-- R330: another operation that touches no word for the residue check anew is sent. -/
theorem engineSyncRequest_sends {k : NibTask} (hb : s.nibs[nib]? = some b) (fate : b.fate core eq 2 request = .taken o)
    (other : bits (le request 1 1) 2 0 ≠ 6) (hk : b.task o.packet.tag o.packet.epoch = some k)
    (untracked : s.tracks k (bits (le request 1 1) 2 0) (le request 0x20 4) (bit (le request 1 1) 3) = false) :
    exec (.engineSyncRequest nib core eq request) s = .next (State.close s (s.sendSync nib core eq o request)) := by
  simp only [exec, execEngineSyncRequest, State.engineRow_of_taken hb fate, if_neg other, hk, untracked, Bool.false_eq_true,
    if_false]

/-- R351, R382: the release of a barrier for which no engine of the Nib waits. -/
theorem barrierReleaseAtNib_of_front {nibs : List Nat} {part ident : Nat} {gen : W32} {code : W16}
    (front : s.nibFront nib = some (.release nibs part ident gen code, b, t)) (alone : b.barrierReqs ident = []) :
    exec (.barrierReleaseAtNib nib) s = .next (State.close s
      (((t.recordNib nib (nibSource nib) 0x09 (t.barrierPayload ident true)).modNib nib fun b =>
        { b with barrierCores := tdel b.barrierCores ident
                 purl := if ((tget s.parts part).bind Part.purl).isSome then b.purl else 0 }).reclaim part)) := by
  have parts : t.parts = s.parts := by
    obtain ⟨rest, rfl⟩ := State.nibFront_some front
    rfl
  simp only [exec, execBarrierReleaseAtNib, front, alone, List.foldl_nil, State.recordNib_parts, parts, done]

/-! ## ENQUEUE -/

section
variable {n core eq mopSeq reqTag result queue len pasid : Nat} {entry addr : W64} {oq : OpenReq} {mr : MemReq}

/-- R287: an accepted enqueue writes its ring entry. -/
theorem enqueueReplyAtNib_accepted
    (front : s.nibFront nib = some (.enqueueReply n core eq mopSeq reqTag 0 queue entry addr len pasid, b, t))
    (waits : b.openReq core eq mopSeq 3 reqTag = some (o, oq)) :
    exec (.enqueueReplyAtNib nib) s = .next (State.close s
      ((t.modNib nib fun b => { b with
        enqueues := b.enqueues ++ [.enqueueReply n core eq mopSeq reqTag 0 queue entry addr len pasid] }).writeEntry
          nib pasid o.packet.partition entry addr len)) := by
  simp only [exec, execEnqueueReplyAtNib, front, waits, if_true, done]

/-- R288: a refused enqueue is answered. -/
theorem enqueueReplyAtNib_refused
    (front : s.nibFront nib = some (.enqueueReply n core eq mopSeq reqTag result queue entry addr len pasid, b, t))
    (waits : b.openReq core eq mopSeq 3 reqTag = some (o, oq)) (refused : result ≠ 0) :
    exec (.enqueueReplyAtNib nib) s = .next (State.close s
      ((t.answerReq nib core eq mopSeq 3 reqTag result 0 0).checkShare nib o.packet.tag o.packet.epoch)) := by
  simp only [exec, execEnqueueReplyAtNib, front, waits, if_neg refused, done]

/-- R287, R288: the response to the write of the oldest ring entry. -/
theorem enqueueEntryWriteResponse_of_answered (answered : s.answered (.nibEntry nib) = some (mr, t)) (hb : s.nibs[nib]? = some b)
    (oldest : b.enqueues.head? = some (.enqueueReply n core eq mopSeq reqTag result queue entry addr len pasid)) (ok : Bool) :
    exec (.enqueueEntryWriteResponse nib ok) s =
      let u := t.modNib nib fun b => { b with enqueues := b.enqueues.drop 1 }
      if ok then
        done s ((u.sendUp nib (.entryWritten queue nib core eq mopSeq reqTag)).enqueueAnswered nib core eq mopSeq reqTag)
      else done s (u.pasidFault pasid Code.memoryError).quiet := by
  simp only [exec, execEnqueueEntryWriteResponse, answered, hb, Option.bind_some, oldest]

end

end Sys2Proof.Machine

open Sys2Proof Sys2Proof.Machine

/-- Settles O53: a request by its fate and its row, then the replies, releases and responses that come to the Nib. -/
theorem engineRequests : Obligations.EngineRequests := by
  intro s t nib n core eq request b o e y k r q nibs part ident mopSeq reqTag result queue len pasid gen code entry addr oq mr
    stray tag
  refine ⟨fun hb => ⟨fun fate => ?answered,
      fun hq present room ofKind => ⟨?stray, fun live task clean => ⟨?aborted, ?taken⟩⟩, fun fate => ⟨?cached, ?asked⟩, fun fate => ⟨?arrives, ?sends⟩, fun fate => ?enqueue⟩, fun front => ?reply,
    barrierReleaseAtNib_of_front, fun front waits => ⟨?accepted, ?refused⟩, fun answered hb oldest => ?response⟩
  case answered => exact State.engineRow_of_answered hb fate _
  case stray => exact Nib.fate_of_unknown hq present room ofKind
  case aborted =>
    intro aborted
    rw [Nib.fate_of_clean hq present room ofKind live task clean (fun no => nomatch no), if_pos aborted]
  case taken =>
    intro whole
    rw [Nib.fate_of_clean hq present room ofKind live task clean (fun no => nomatch no), whole]
    rfl
  case cached =>
    intro hit
    refine (State.engineRow_of_taken hb fate _).trans ?_
    simp only [hit]
    rfl
  case asked =>
    intro miss
    refine (State.engineRow_of_taken hb fate _).trans ?_
    simp only [miss]
    rfl
  case arrives => exact engineSyncRequest_arrives hb fate
  case sends => exact engineSyncRequest_sends hb fate
  case enqueue => exact State.engineRow_of_taken hb fate _
  case reply => simp only [exec, execSyncReplyAtNib, front, done]
  case accepted =>
    rintro rfl
    exact enqueueReplyAtNib_accepted front waits
  case refused => exact enqueueReplyAtNib_refused front waits
  case response =>
    exact ⟨enqueueEntryWriteResponse_of_answered answered hb oldest true,
      enqueueEntryWriteResponse_of_answered answered hb oldest false⟩

end

section
/-! Translations and their invalidation (R282 to R286, R506 to R508), and device-side enqueues at the Hub (R181, R287, R288). -/

namespace Sys2Proof.Machine

open Sys2Proof

variable {s t : State} {tag nib q slot : Nat} {r : XReq} {b : Nib} {x : Queue} {c : Ctx}

/-! ## Translations returned -/

/-- The translation that a completion carries for a request (R282, R506). -/
def XReq.translation (r : XReq) (addr : W64) (sizeBit readable writable : Bool) : Tlb :=
  let range := atsRange addr.toNat sizeBit
  ⟨r.pasid, r.page / range.2 * range.2, range.2, BitVec.ofNat 64 range.1, readable, writable, r.core⟩

/-- Whether an invalidation has met the range that a translation covers since it was asked for (R286). -/
def XReq.met (r : XReq) (e : Tlb) : Bool := r.dirty.any fun d => rangesMeet d.1 d.2 e.page e.size

/-- Whether a completion permits the access that a request asks for (R506). -/
def XReq.permits (r : XReq) (status : Nat) (readable writable : Bool) : Bool :=
  status == 0 && (if r.write then writable else readable)

/-- A permitted translation has entered its cache, and the engines that wait for it are answered (R282, R284). -/
def State.permitted (t : State) (r : XReq) (e : Tlb) : State :=
  match r.nib with
  | some n => r.asks.foldl (fun t a => t.answerXlat n (some e) a) (t.translated r e)
  | none => t.translated r e

theorem State.permitted_nib (hn : r.nib = some nib) (e : Tlb) :
    t.permitted r e = r.asks.foldl (fun t a => t.answerXlat nib (some e) a) (t.translated r e) := by
  simp only [State.permitted, hn]

theorem State.permitted_hub (hub : r.nib = none) (e : Tlb) : t.permitted r e = t.translated r e := by
  simp only [State.permitted, hub]

/-- R282, R286, R506: what a completion of an outstanding tag comes to. -/
theorem translationCompletion_of_tag {status : Nat} {addr : W64} {sizeBit readable writable : Bool}
    (asked : (s.xlat.reqs.find? fun r => r.tag == tag && decide (r.tag < 256)) = some r) :
    exec (.translationCompletion tag status addr sizeBit readable writable) s =
      let e := r.translation addr sizeBit readable writable
      if r.dead = true then done s (s.freeTag tag)
      else if r.met e = true then done s ((s.freeTag tag).resend r)
      else if r.permits status readable writable = true then done s ((s.freeTag tag).permitted r e)
      else done s ((s.freeTag tag).refuseXlat r) := by
  simp only [exec, execTranslationCompletion, asked]
  rfl

/-- R282: a permitted translation enters the cache of the Nib that asked. -/
theorem State.translated_nibs (hn : r.nib = some nib) (e : Tlb) :
    ((s.freeTag tag).translated r e).nibs = (s.modNib nib fun b => b.cacheIn e).nibs := by
  simp only [State.translated, hn]
  rfl

/-- R282: one that the Hub asked for enters the Hub's cache. -/
theorem State.mem_translated_cache (hub : r.nib = none) (e : Tlb) : e ∈ (s.translated r e).xlat.cache := by
  simp only [State.translated, hub]
  exact List.mem_append_right _ List.mem_cons_self

/-- R286: a denied translation for which no memory request waits answers its engines, and nothing more. -/
theorem State.refuseXlat_of_unheld (hn : r.nib = some nib)
    (unheld : ∀ m ∈ (r.asks.foldl (fun t a => t.answerXlat nib none a) s).mip, r.holds m = false) :
    s.refuseXlat r = r.asks.foldl (fun t a => t.answerXlat nib none a) s := by
  have none_held : (r.asks.foldl (fun t a => t.answerXlat nib none a) s).mip.filter r.holds = [] :=
    List.filter_eq_nil_iff.mpr fun m hm => by simp [unheld m hm]
  simp only [State.refuseXlat, hn, State.xlatDenied, none_held, List.isEmpty_nil, if_true]

/-- R506: with S the lowest 0 bit from bit 12 up gives the size. -/
theorem atsRange_sized : atsRange 0x1000 true = (0, 0x4000) ∧ atsRange 0x8000 true = (0x8000, 0x2000) := by decide

/-- R508: a request unanswered for 1 ms is denied, and its tag stays in use. -/
theorem translationTimeout_of_due
    (asked : (s.xlat.reqs.find? fun r => r.tag == tag && decide (r.tag < 256) && !r.dead) = some r)
    (due : r.since + 1000000 ≤ s.now) :
    exec (.translationTimeout tag) s = .next (State.close s (State.refuseXlat
      { s with xlat := { s.xlat with reqs := s.xlat.reqs.map fun x =>
        if x.tag = tag then { x with dead := true, asks := [] } else x } } r)) := by
  simp only [exec, execTranslationTimeout, asked, if_pos due, done]

/-! ## Invalidations -/

theorem State.foldl_sendNib_xlat (m : Nat → DownMsg) (l : List Nat) (s : State) :
    (l.foldl (fun t n => t.sendNib n (m n)) s).xlat = s.xlat := by
  induction l generalizing s with
  | nil => rfl
  | cons n l ih => rw [List.foldl_cons, ih, State.sendNib_xlat]

/-- R285: the invalidation joins those outstanding. -/
theorem State.startInv_invs (s : State) (itag : Nat) (cover : Option Nat) (page size : Nat) :
    ∃ nibs, (s.startInv itag cover page size).xlat.invs = s.xlat.invs ++ [⟨itag, cover, page, size, nibs⟩] := by
  unfold State.startInv
  simp only [State.foldl_sendNib_xlat]
  exact ⟨_, rfl⟩

/-- R285, R507: a request of a free tag starts its invalidation. -/
theorem invalidateRequest_of_free {itag pasid : Nat} {allPasids sizeBit : Bool} {addr : W64} (awake : s.awake = true)
    (primary : s.primary = true) (free : s.xlat.invs = []) (tagged : itag < 32) :
    exec (.invalidateRequest itag pasid allPasids addr sizeBit) s = .next (State.close s
      (s.startInv itag (if allPasids then none else some pasid) (atsRange addr.toNat sizeBit).1
        (atsRange addr.toNat sizeBit).2)) := by
  simp [exec, execInvalidateRequest, awake, primary, free, Nat.not_le.mpr tagged, done]

theorem nibInvalidation_of_front {n itag page size : Nat} {cover : Option Nat}
    (front : s.nibFront nib = some (.invalidate n itag cover page size, b, t)) :
    exec (.nibInvalidation nib) s = .next (State.close s ((t.modNib nib fun b =>
      { b with cache := b.cache.filter fun e => !invCovers cover page size e.pasid e.page e.size
               invalidations := b.invalidations ++ [(itag, cover, b.liveUids cover)] }).answerInvalidations nib)) := by
  simp only [exec, execNibInvalidation, front, done]

/-- Where no splitter has anything to send up, no answer to an invalidation is taken. -/
theorem State.takeInvalidated_of_quiet (quiet : ∀ x ∈ s.splitters, x.up = []) (itag : Nat) : s.takeInvalidated itag = s := by
  have silent (sp : Nat) : s.hubFront sp = none := by
    unfold State.hubFront
    cases hx : s.splitters[sp]? with
    | none => simp
    | some x => simp [quiet x (List.mem_of_getElem? hx)]
  unfold State.takeInvalidated
  induction List.range s.splitters.length with
  | nil => rfl
  | cons sp sps ih =>
    rw [List.foldl_cons, silent]
    exact ih

/-- R285: an invalidation that no Nib has still to answer ends with its completion. -/
theorem invalidateComplete_of_answered {i : Inv} (awake : s.awake = true) (primary : s.primary = true)
    (alone : s.xlat.invs = [i]) (answered : i.nibs = []) (tagged : i.itag < 32) (quiet : ∀ x ∈ s.splitters, x.up = []) :
    exec (.invalidateComplete i.itag) s =
      .next (State.close s (State.emit { s with xlat := { s.xlat with invs := [] } } (.xic i.itag))) := by
  have found : (s.xlat.invs.find? fun j => j.itag == i.itag) = some i := by simp [alone]
  have rest : (s.xlat.invs.filter fun j => j.itag != i.itag) = [] := by simp [alone]
  simp only [exec, execInvalidateComplete, found, awake, primary, not_true_eq_false, or_self, if_false,
    State.takeInvalidated_of_quiet quiet, answered, List.isEmpty_nil, if_true, rest, if_pos tagged, done]

/-! ## Device-side enqueues -/

/-- Two changes of an entry that agree on it come to the same. -/
theorem tmod_congr {α : Type} {l : Tbl α} {n : Nat} {f g : α → α} (h : ∀ a, tget l n = some a → f a = g a) :
    tmod l n f = tmod l n g := by
  induction l with
  | nil => rfl
  | cons e l ih =>
    obtain ⟨k, a⟩ := e
    by_cases same : k = n
    · simp only [tmod, if_pos same, h a (if_pos same)]
    · simp only [tmod, if_neg same, ih fun a ha => h a ((if_neg same).trans ha)]

/-- Two changes of a queue that agree on it come to the same. -/
theorem State.modQueue_congr {f g : Queue → Queue} (h : ∀ x, tget s.queues q = some x → f x = g x) :
    s.modQueue q f = s.modQueue q g :=
  congrArg (fun l => { s with queues := l }) (tmod_congr h)

/-- A message that the Hub takes leaves its splitter's up-stream, and nothing else changes. -/
theorem State.hubFront_some {sp : Nat} {m : UpMsg} (front : s.hubFront sp = some (m, t)) :
    ∃ rest, t = s.modSplitter sp fun x => { x with up := rest } := by
  unfold State.hubFront at front
  split at front
  · split at front
    · simp only [Option.some.injEq, Prod.mk.injEq] at front
      obtain ⟨-, rfl⟩ := front
      exact ⟨_, rfl⟩
    · cases front
  · cases front

section
variable {sp core eq mopSeq reqTag pasid len : Nat} {addr : W64}
  (front : s.hubFront sp = some (.enqueue nib core eq mopSeq reqTag pasid q addr len, t))
include front

/-- R287: an enqueue refused by its queue, its budget or its format. -/
theorem enqueueRequest_refused {result : Nat} (refused : t.enqueueCheck pasid q addr len = some result) :
    exec (.enqueueRequest sp) s = .next (State.close s
      (t.answerEnqueue q pasid ⟨nib, core, eq, mopSeq, reqTag, addr, len, t.now, none, false⟩ result 0)) := by
  simp only [exec, execEnqueueRequest, front, refused, done]

/-- R287: an enqueue that passes waits behind those that wait for a slot, else is granted one where there is one. -/
theorem enqueueRequest_reserved (passes : t.enqueueCheck pasid q addr len = none) (hx : tget t.queues q = some x) :
    exec (.enqueueRequest sp) s =
      let u := t.modQueue q fun x =>
        { x with resv := x.resv ++ [⟨nib, core, eq, mopSeq, reqTag, addr, len, t.now, none, false⟩] }
      .next (State.close s (if x.resv.any (fun r => r.index.isNone) then u else (u.grantSlot q).getD u)) := by
  simp only [exec, execEnqueueRequest, front, passes, hx, done]

end

section
variable {v : Reservation} {rest : List Reservation} (hx : tget s.queues q = some x)
  (owner : s.ctxOfQueue q = some (slot, c))
include hx owner

/-- R288: without a free slot none is granted. -/
theorem State.grantSlot_of_full (full : x.hasSlot = false) : s.grantSlot q = none := by
  simp only [State.grantSlot, hx, owner, full, Bool.false_eq_true, if_false]

variable (waits : takeFirst (fun r => r.index.isNone) x.resv = some (v, rest))
include waits

/-- R287: the oldest reservation that waits gets the next slot. -/
theorem State.grantSlot_of_room (room : x.hasSlot = true) : s.grantSlot q = some
    ((s.modQueue q fun x => { x with
      resvTail := x.resvTail + 1
      resv := modFirst (fun r => r.index.isNone) (fun r => { r with index := some x.resvTail }) x.resv }).answerEnqueue
        q c.pasid v 0 (x.entryAddr x.resvTail)) := by
  simp only [State.grantSlot, hx, owner, waits, room, if_true]
  refine congrArg (fun t : State => some (t.answerEnqueue q c.pasid v 0 (x.entryAddr x.resvTail)))
    (State.modQueue_congr fun y hy => ?_)
  obtain rfl : x = y := Option.some.inj (hx.symm.trans hy)
  rfl

/-- R288: an enqueue that has waited 100 µs for a slot is answered FULL. -/
theorem enqueueRefusedFull_of_due (due : v.since + 100000 ≤ s.now) : exec (.enqueueRefusedFull q) s = .next (State.close s
    ((s.modQueue q fun x => { x with resv := rest }).answerEnqueue q c.pasid v 3 0)) := by
  simp only [exec, execEnqueueRefusedFull, hx, owner, waits, if_pos due, done]

end

/-! ## The tail of a device queue -/

/-- R181: the tail passes written entries, and nothing else of the queue changes. -/
theorem Queue.advanceTail_eq (fuel : Nat) (x : Queue) :
    ∃ tail resv, Queue.advanceTail fuel x = { x with tail := tail, resv := resv } := by
  induction fuel generalizing x with
  | zero => exact ⟨x.tail, x.resv, rfl⟩
  | succ fuel ih =>
    unfold Queue.advanceTail
    split
    · next r rest _ =>
      split
      · obtain ⟨tail, resv, h⟩ := ih { x with tail := x.tail + 1, resv := rest }
        exact ⟨tail, resv, h⟩
      · exact ⟨x.tail, x.resv, rfl⟩
    · exact ⟨x.tail, x.resv, rfl⟩

theorem State.modQueue_queue (hx : tget s.queues q = some x) (f : Queue → Queue) :
    tget (s.modQueue q f).queues q = some (f x) := by
  rw [State.modQueue_queues, tget_tmod_self, hx, Option.map_some]

/-- A queue that keeps its handle keeps its context. -/
theorem State.ctxOfQueue_modQueue {f : Queue → Queue} (hx : tget s.queues q = some x) (keeps : (f x).handle = x.handle) :
    (s.modQueue q f).ctxOfQueue q = s.ctxOfQueue q := by
  simp only [State.ctxOfQueue, State.modQueue_queue hx f, hx, keeps]
  rfl

/-- A device queue with an entry reported written, its tail moved as far as that lets it (R181). -/
def Queue.wrote (nib core eq mopSeq reqTag : Nat) (x : Queue) : Queue :=
  Queue.advanceTail 65537
    { x with resv := modFirst (fun r => r.is nib core eq mopSeq reqTag) (fun r => { r with written := true }) x.resv }

theorem Queue.wrote_handle (nib core eq mopSeq reqTag : Nat) (x : Queue) :
    (x.wrote nib core eq mopSeq reqTag).handle = x.handle := by
  obtain ⟨tail, resv, h⟩ := Queue.advanceTail_eq 65537
    { x with resv := modFirst (fun r => r.is nib core eq mopSeq reqTag) (fun r => { r with written := true }) x.resv }
  rw [Queue.wrote, h]

section
variable {sp core eq mopSeq reqTag : Nat} (front : s.hubFront sp = some (.entryWritten q nib core eq mopSeq reqTag, t))
  (hx : tget t.queues q = some x) (owner : t.ctxOfQueue q = some (slot, c))
include front hx owner

/-- R181, R287: an entry is reported written; where the tail moves, its word is written and the queue fetches. -/
theorem enqueueEntryWritten_of_front :
    exec (.enqueueEntryWritten sp) s =
      let y := x.wrote nib core eq mopSeq reqTag
      let w := t.modQueue q (Queue.wrote nib core eq mopSeq reqTag)
      .next (State.close s (if x.tail = y.tail then w else
        let w := w.writeMem (some (.tailStore q)) c.pasid c.partition y.tailAddr (leBytes 8 y.tail.toNat) false
        (if y.resident then w else w.needRecord q y.tail).readAhead q)) := by
  obtain ⟨up, rfl⟩ := State.hubFront_some front
  have before : tget s.queues q = some x := hx
  have after := State.modQueue_queue hx (Queue.wrote nib core eq mopSeq reqTag)
  have context := (State.ctxOfQueue_modQueue hx (Queue.wrote_handle nib core eq mopSeq reqTag x)).trans owner
  unfold Queue.wrote at after context ⊢
  simp only [exec, execEnqueueEntryWritten, front, before, after, context, done]
  split <;> rfl

end

end Sys2Proof.Machine

open Sys2Proof Sys2Proof.Machine

/-- Settles O54: the Translation Agent's commands by what their tags name, then the enqueue commands of the Hub in the order
in which an enqueue meets them. -/
theorem translationsAndEnqueues : Obligations.TranslationsAndEnqueues := by
  intro s t tag status nib itag pasid page size q sp core eq mopSeq reqTag len addr sizeBit readable writable allPasids r b x y
    slot c v rest cover i n
  refine ⟨fun asked => ?completion, fun m hn => State.refuseXlat_of_unheld hn, ⟨fun a => rfl, atsRange_sized⟩,
    translationTimeout_of_due, fun awake primary free tagged => ⟨?request, ?started⟩, nibInvalidation_of_front, ?complete,
    fun front => ⟨fun result => enqueueRequest_refused front, fun passes hx => ⟨?behind, ?ahead⟩⟩, ?grant,
    fun hx owner waits => ⟨State.grantSlot_of_room hx owner waits, State.grantSlot_of_full hx owner,
      enqueueRefusedFull_of_due hx owner waits⟩, fun front hx owner wrote => ⟨?still, ?moved⟩⟩
  case completion =>
    intro range e met permitted
    have outcome := translationCompletion_of_tag (status := status) (addr := addr) (sizeBit := sizeBit) (readable := readable)
      (writable := writable) asked
    have alive (live : r.dead = false) := outcome.trans (if_neg (Bool.eq_false_iff.mp live))
    have unmet (live : r.dead = false) (clear : met = false) := (alive live).trans (if_neg (Bool.eq_false_iff.mp clear))
    refine ⟨fun dead => outcome.trans (if_pos dead), fun live hit => (alive live).trans (if_pos hit),
      fun live clear granted => ?permitted,
      fun live clear denied => (unmet live clear).trans (if_neg (Bool.eq_false_iff.mp denied))⟩
    have enters := (unmet live clear).trans (if_pos granted)
    refine ⟨fun m hn => ⟨?nib, State.translated_nibs hn e⟩, fun hub => ⟨?hub, State.mem_translated_cache hub e⟩⟩
    case nib =>
      rw [enters, State.permitted_nib hn]
      rfl
    case hub =>
      rw [enters, State.permitted_hub hub]
      rfl
  case request => exact invalidateRequest_of_free awake primary free tagged
  case started =>
    obtain ⟨nibs, h⟩ := s.startInv_invs itag cover page size
    rw [h, free]
    rfl
  case complete =>
    rintro awake primary alone rfl answered tagged quiet
    exact invalidateComplete_of_answered awake primary alone answered tagged quiet
  case behind =>
    intro behind
    exact (enqueueRequest_reserved front passes hx).trans (congrArg (done s) (if_pos behind))
  case ahead =>
    intro none_waits
    exact (enqueueRequest_reserved front passes hx).trans (congrArg (done s) (if_neg (Bool.eq_false_iff.mp none_waits)))
  case grant =>
    intro granted primary awake
    simp only [exec, execSlotReservationGrant, granted, primary, awake, and_self, if_true, done]
  case still =>
    subst wrote
    intro still
    refine ⟨t.modQueue q (Queue.wrote nib core eq mopSeq reqTag), ?_, State.modQueue_queue hx _, ?_⟩
    · rw [enqueueEntryWritten_of_front front hx owner]
      exact congrArg _ (congrArg _ (if_pos still.symm))
    · obtain ⟨up, rfl⟩ := State.hubFront_some front
      rfl
  case moved =>
    subst wrote
    intro moved resident
    refine ⟨t.modQueue q (Queue.wrote nib core eq mopSeq reqTag), State.modQueue_queue hx _, ?_, ?_⟩
    · obtain ⟨up, rfl⟩ := State.hubFront_some front
      rfl
    · rw [enqueueEntryWritten_of_front front hx owner]
      refine congrArg _ (congrArg _ ((if_neg (Ne.symm moved)).trans ?_))
      exact congrArg (fun w : State => w.readAhead q) (if_pos resident)

end

section
/-! Completion messages at the Hub (R314, R315), and the response to a write-back (R320, R321). -/

namespace Sys2Proof.Machine

open Sys2Proof

variable {s t : State} {sp nib i q slot : Nat} {m : DoneMsg} {k : Task} {p : Pos} {c : Ctx} {r : MemReq}

/-! ## A completion message -/

/-- R314: the Hub judges the completion message that a splitter's link delivers. -/
theorem taskDoneAtHub_of_front (front : s.hubFront sp = some (.done m, t)) :
    exec (.taskDoneAtHub sp) s = .next (s.endsQuiet (t.taskDone m)) := by
  simp only [exec, execTaskDoneAtHub, front, done, State.endsQuiet]

/-- R314: a message whose tag is not in flight is discarded whole. -/
theorem State.taskDone_of_unknown (unknown : tget t.tasks m.tag = none) :
    t.taskDone m = t.staleEpoch m.tag m.epoch m.position := by
  rw [State.taskDone, unknown]

/-- R314: a message of one port, its tag in flight, is what that port reports. -/
theorem State.taskDone_of_port (hk : tget t.tasks m.tag = some k) (port : m.arrived = [nib]) :
    t.taskDone m = t.judgePort m nib := by
  rw [State.taskDone, hk, port, List.foldl_cons, List.foldl_nil]

/-- R314: a port whose Nib holds no position of the task is discarded. -/
theorem State.judgePort_of_unplaced (hk : tget t.tasks m.tag = some k)
    (unplaced : k.positions.findIdx? (fun p => p.nib == nib) = none) :
    t.judgePort m nib = t.staleEpoch m.tag m.epoch m.position := by
  simp only [State.judgePort, hk, unplaced]

/-- R314: a port is discarded where its position is counted already or has another epoch, and is counted otherwise. -/
theorem State.judgePort_of_placed (hk : tget t.tasks m.tag = some k)
    (placed : k.positions.findIdx? (fun p => p.nib == nib) = some i) (hp : k.positions[i]? = some p) :
    t.judgePort m nib = if p.counted = true ∨ p.epoch ≠ m.epoch then t.staleEpoch m.tag m.epoch i
      else t.countPos m.tag i m.status m.nf := by
  simp only [State.judgePort, hk, placed, hp]

/-- R315: the position that completes the count ends the task, and any other changes the task alone. -/
theorem State.countPos_of_task {tag : Nat} (hk : tget t.tasks tag = some k) (status : W16) (nf : Option NonFinite) :
    t.countPos tag i status nf = if (k.count i status nf).positions.all Pos.counted = true
      then t.finishTask tag (k.count i status nf) else { t with tasks := tset t.tasks tag (k.count i status nf) } := by
  simp only [State.countPos, hk]

/-- R314: a discard is counted, and writes a trace record. -/
theorem State.staleEpoch_eq (s : State) (tag : Nat) (epoch : W32) (pos : Nat) : ∃ tr : Trace,
    s.staleEpoch tag epoch pos = { s with flt := { s.flt with stale := sat32 s.flt.stale 1 }, trace := tr } :=
  State.recordAs_eq _ _ _ _ _ _ _

/-! ## The response to a write-back -/

/-- The write-back that follows an answered one: none is for a context that R147 does not serve (R320, log 78). -/
def State.followWriteBack (t : State) (q : Nat) : State :=
  match t.ctxOfQueue q with
  | some (_, c) => if c.served then t.issueWriteBack q else t.modQueue q fun x => { x with wbPending := false }
  | none => t

theorem State.followWriteBack_of_served (owner : t.ctxOfQueue q = some (slot, c)) (served : c.served = true) :
    t.followWriteBack q = t.issueWriteBack q := by
  simp only [State.followWriteBack, owner, if_pos served]

theorem State.followWriteBack_of_unserved (owner : t.ctxOfQueue q = some (slot, c)) (unserved : c.served = false) :
    t.followWriteBack q = t.modQueue q fun x => { x with wbPending := false } := by
  simp only [State.followWriteBack, owner, if_neg (Bool.eq_false_iff.mp unserved)]

theorem State.followWriteBack_of_unowned (unowned : t.ctxOfQueue q = none) : t.followWriteBack q = t := by
  simp only [State.followWriteBack, unowned]

/-- What the answer to a write-back does to its queue, before another follows: IRQ_PENDING is set (R320), or the context of
the queue faults (R321). -/
def State.wroteBack (t : State) (q : Nat) : Bool → State
  | true => t.modQueue q fun x => { x with wbFlight := false, irqPending := true }
  | false => ((t.modQueue q fun x => { x with wbFlight := false }).queueCtxFault q Code.memoryError).quiet

/-- R320, R321: the response to a write-back in flight. -/
theorem writeBackResponse_of_answered (answered : s.answered (.writeBack q) = some (r, t)) (ok : Bool) :
    exec (.writeBackResponse q ok) s = .next (State.close s ((t.wroteBack q ok).followWriteBack q)) := by
  have effect : (let u := t.modQueue q fun x => { x with wbFlight := false, irqPending := x.irqPending || ok }
      if ok then u else (u.queueCtxFault q Code.memoryError).quiet) = t.wroteBack q ok := by
    cases ok <;> simp [State.wroteBack]
  simp only [exec, execWriteBackResponse, answered, effect, State.followWriteBack, done]
  cases (t.wroteBack q ok).ctxOfQueue q <;> rfl

end Sys2Proof.Machine

open Sys2Proof Sys2Proof.Machine

/-- Settles O48: a completion message comes to the one port it reports and that to its position's count; the answer to a
write-back is its effect on the queue, then the write-back that follows. -/
theorem tasksCompleteAndWriteBack : Obligations.TasksCompleteAndWriteBack := by
  intro s t sp nib i q m k p r
  refine ⟨fun front => ⟨fun unknown => ?unknown, fun hk port => ⟨fun unplaced => ?unplaced,
      fun placed hp => ⟨fun stale => ?stale, fun uncounted epoch => ?counts⟩⟩⟩,
    fun hk => ⟨fun waiting => ?waits, fun full => ?completes, rfl, fun j other => getElem?_lmod_of_ne _ _ other⟩,
    ?discard, fun answered => ?written⟩
  case unknown => rw [taskDoneAtHub_of_front front, State.taskDone_of_unknown unknown]
  case unplaced =>
    rw [taskDoneAtHub_of_front front, State.taskDone_of_port hk port, State.judgePort_of_unplaced hk unplaced]
  case stale =>
    rw [taskDoneAtHub_of_front front, State.taskDone_of_port hk port, State.judgePort_of_placed hk placed hp, if_pos stale]
  case counts =>
    have live : ¬(p.counted = true ∨ p.epoch ≠ m.epoch) := by simp [uncounted, epoch]
    rw [taskDoneAtHub_of_front front, State.taskDone_of_port hk port, State.judgePort_of_placed hk placed hp, if_neg live]
  case waits => rw [State.countPos_of_task hk, if_neg (Bool.eq_false_iff.mp waiting)]
  case completes => rw [State.countPos_of_task hk, if_pos full]
  case discard =>
    obtain ⟨tr, h⟩ := s.staleEpoch_eq m.tag m.epoch i
    rw [h]
    exact ⟨rfl, rfl, rfl, rfl⟩
  case written =>
    have response {ok : Bool} {u : State} (follows : (t.wroteBack q ok).followWriteBack q = u) :
        exec (.writeBackResponse q ok) s = .next (State.close s u) :=
      follows ▸ writeBackResponse_of_answered answered ok
    exact ⟨⟨fun slot c owner served => response (State.followWriteBack_of_served owner served),
        fun slot c owner unserved => response (State.followWriteBack_of_unserved owner unserved),
        fun unowned => response (State.followWriteBack_of_unowned unowned)⟩,
      fun slot c owner served => response (State.followWriteBack_of_served owner served),
      fun slot c owner unserved => response (State.followWriteBack_of_unserved owner unserved)⟩

end

section
/-! Memory-word operations, watch slots and waits at the Sync Unit (R326 to R338). -/

namespace Sys2Proof.Machine

open Sys2Proof

variable {s t : State} {i slot sp : Nat} {r : MemReq} {x : Watch}

/-! ## Operations and conditions -/

/-- R326: an ADD's result is the exact signed sum, which has a word exactly where it lies within 0 to 2^64 − 1. -/
theorem syncAdd_eq_some_iff {word addend sum : W64} :
    syncAdd word addend = some sum ↔ (sum.toNat : Int) = (word.toNat : Int) + addend.toInt := by
  have bound := sum.isLt
  simp only [syncAdd]
  constructor
  · intro h
    split at h
    · next range =>
      obtain rfl := Option.some.inj h
      rw [BitVec.toNat_ofInt]
      omega
    · cases h
  · intro sums
    rw [if_pos (by omega), ← sums, BitVec.ofInt_natCast, BitVec.ofNat_toNat, BitVec.setWidth_eq]

/-! ## Memory words -/

/-- R328: the response to the request of an operation in flight is judged by the operation's phase. -/
theorem memorySyncResponse_of_answered {o : MemOp} (answered : s.answered (.syncOp i) = some (r, t))
    (op : (s.sync.memOps.find? fun o => o.ident == i) = some o) (answer : Option W64) :
    exec (.memorySyncResponse i answer) s = .next (s.ends (t.memOpResponse o answer)) := by
  simp only [exec, execMemorySyncResponse, answered, op, done, State.ends]

section
variable {o : MemOp} {v sum old new : W64}

/-- R328: a SET has been done; the value before it is the free one of log 19. -/
theorem State.memOpResponse_of_setting (phase : o.phase = .setting) : t.memOpResponse o (some v) =
    (((t.endMemOp o).syncRecord (.mem o.pasid o.addr) 0 o.handle o.party).evalWord (.mem o.pasid o.addr) o.value).answerSync
      o.party Code.ok (Config.wordBeforeSet o.ident) := by
  simp only [State.memOpResponse, phase]

/-- R328: an ADD's read leads to the compare-and-swap of its sum. -/
theorem State.memOpResponse_of_sum (phase : o.phase = .reading) (sums : syncAdd v o.value = some sum) :
    t.memOpResponse o (some v) = t.swapMemOp o v sum := by
  simp only [State.memOpResponse, phase, sums]

/-- R326: an ADD whose sum no word holds fails. -/
theorem State.memOpResponse_of_underflow (phase : o.phase = .reading) (outside : syncAdd v o.value = none) :
    t.memOpResponse o (some v) =
      (((t.endMemOp o).debugRecord (.mem o.pasid o.addr) 1 o.handle o.party).syncFault Code.syncUnderflow
        (syncObject (.mem o.pasid o.addr)) (syncWaiter o.handle o.party)).answerSync o.party Code.syncUnderflow v := by
  simp only [State.memOpResponse, phase, outside]

/-- R328: a compare-and-swap that found the word as it was read has done the ADD; another one reads anew. -/
theorem State.memOpResponse_of_swapping (phase : o.phase = .swapping old new) : t.memOpResponse o (some v) =
    if v = old then
      (((t.endMemOp o).syncRecord (.mem o.pasid o.addr) 1 o.handle o.party).evalWord (.mem o.pasid o.addr) new).answerSync
        o.party Code.ok old
    else t.startMemOp o := by
  simp only [State.memOpResponse, phase]

end

/-! ## Watch slots -/

/-- A pair listed in a table whose keys differ is what its key reads. -/
theorem tget_of_mem {α : Type} {l : Tbl α} {n : Nat} {a : α} (keys : (l.map Prod.fst).Nodup) (mem : (n, a) ∈ l) :
    tget l n = some a := by
  induction l with
  | nil => cases mem
  | cons e l ih =>
    obtain ⟨k, b⟩ := e
    obtain ⟨fresh, keys⟩ := List.nodup_cons.mp keys
    rcases List.mem_cons.mp mem with same | mem
    · obtain ⟨rfl, rfl⟩ := Prod.mk.inj same
      exact if_pos rfl
    · have other : k ≠ n := fun same => fresh (List.mem_map.mpr ⟨_, mem, same.symm⟩)
      exact (if_neg other).trans (ih keys mem)

/-- A choice comes to one of its two values. -/
theorem eq_or_eq_of_ite_eq {α : Type} {c : Prop} [Decidable c] {a b z : α} (h : (if c then a else b) = z) : a = z ∨ b = z := by
  split at h
  · exact .inl h
  · exact .inr h

/-- R334: a slot that is not being polled, and whose period since its last poll has passed. -/
def Watch.awaitsPoll (x : Watch) (now : Nat) : Prop :=
  x.polling = false ∧ ∀ p, x.lastPoll = some p → p + 1000 * x.periodUs ≤ now

/-- R334: the slot that is due is one of those that await their poll. -/
theorem SyncUnit.due_some {y : SyncUnit} {now : Nat} (due : y.due now = some i) :
    ∃ x, (i, x) ∈ y.watches ∧ x.awaitsPoll now := by
  obtain ⟨best, fold, rfl⟩ := Option.map_eq_some_iff.mp due
  refine List.foldlRecOn (motive := fun b => ∀ p, b = some p → ∃ x, (p.1, x) ∈ y.watches ∧ x.awaitsPoll now) _ _
    (by simp) (fun b found e ready p chosen => ?_) best fold
  obtain ⟨mem, idle⟩ := List.mem_filter.mp ready
  simp only [Bool.and_eq_true, Bool.not_eq_true', decide_eq_true_eq] at idle
  obtain ⟨idle, passed⟩ := idle
  have awaits : e.2.awaitsPoll now := ⟨idle, fun q last => by simpa only [last] using passed⟩
  cases b with
  | none =>
    obtain rfl := Option.some.inj chosen
    exact ⟨e.2, mem, awaits⟩
  | some b =>
    rcases eq_or_eq_of_ite_eq chosen with sooner | kept
    · obtain rfl := Option.some.inj sooner
      exact ⟨e.2, mem, awaits⟩
    · exact found p kept

/-- R334: the slot that is due is polled. -/
theorem watchPoll_of_due (due : s.sync.due s.now = some i) (hx : tget s.sync.watches i = some x) :
    exec .watchPoll s = .next (State.close s (State.readMem
      { s with sync := { s.sync with watches := tset s.sync.watches i { x with polling := true } } }
      (.watchPoll i) x.pasid x.partition x.addr 8 false)) := by
  simp only [exec, execWatchPoll, due, hx, done]

/-- A response that is taken leaves the list of requests, and nothing else changes. -/
theorem State.answered_some {w : MemWait} (answered : s.answered w = some (r, t)) :
    ∃ mip, t = { s with mip := mip } := by
  obtain ⟨⟨req, rest⟩, -, taken⟩ := Option.map_eq_some_iff.mp answered
  obtain ⟨-, rfl⟩ := Prod.mk.inj taken
  exact ⟨rest, rfl⟩

/-- A watch slot whose poll has returned. -/
def State.polled (t : State) (slot : Nat) (x : Watch) : State :=
  { t with sync := { t.sync with watches := tset t.sync.watches slot { x with polling := false, lastPoll := some t.now } } }

section
variable (answered : s.answered (.watchPoll slot) = some (r, t)) (hx : tget t.sync.watches slot = some x)
include answered hx

/-- R334: what a poll returns for a slot that holds another word by now says nothing of it. -/
theorem watchPollReturn_of_other (other : x.pasid ≠ r.pasid ∨ x.addr ≠ r.addr) (v : W64) :
    exec (.watchPollReturn slot (some v)) s = .next (s.ends t) := by
  have same : ¬(x.pasid = r.pasid ∧ x.addr = r.addr) := fun ⟨pasid, addr⟩ => other.elim (· pasid) (· addr)
  simp only [exec, execWatchPollReturn, answered, hx, if_neg same, Option.isNone_some, Bool.false_eq_true,
    if_false, done, State.ends]

variable (pasid : x.pasid = r.pasid) (addr : x.addr = r.addr)
include pasid addr

/-- R334: the polled value is evaluated against the slot's waits. -/
theorem watchPollReturn_value (v : W64) : exec (.watchPollReturn slot (some v)) s =
    .next (s.ends ((t.polled slot x).evalWord (.mem x.pasid x.addr) v)) := by
  simp only [exec, execWatchPollReturn, answered, hx, if_pos (And.intro pasid addr), Option.isNone_some, Bool.false_eq_true,
    if_false, done, State.ends, State.polled]

/-- R150, R331: an error response fails the slot's waits and the contexts of its PASID. -/
theorem watchPollReturn_error : exec (.watchPollReturn slot none) s =
    .next (s.ends (((t.polled slot x).failWatch x.pasid x.addr).pasidFault x.pasid Code.memoryError)) := by
  simp only [exec, execWatchPollReturn, answered, hx, if_pos (And.intro pasid addr), Option.isNone_none, if_true, done,
    State.ends, State.polled]
  rw [pasid]

end

/-! ## Waits -/

/-- The state without a wait that ends, and without its arrival where that is still to be taken in (R336, R347). -/
def State.withoutWait (s : State) (w : SyncWait) (waitId : Nat) : State :=
  { s with sync := SyncUnit.prune { s.sync with
      waits := s.sync.waits.filter fun v => v.ident != waitId
      late := s.sync.late.filter fun a => !(a.party == some w.party && w.word == .barrier a.barrier) } }

theorem State.withoutWait_waits (s : State) (w : SyncWait) {waitId : Nat} :
    ∀ z ∈ (s.withoutWait w waitId).sync.waits, z.ident ≠ waitId := by
  intro z hz
  simpa using (List.mem_filter.mp hz).2

/-- R336: a wait at its timeout. -/
theorem syncWaitExpiry_of_due {w : SyncWait} {waitId : Nat} (hw : (s.sync.waits.find? fun w => w.ident == waitId) = some w)
    (timed : 0 < w.timeoutUs) (due : w.since + 1000 * w.timeoutUs ≤ s.now) :
    exec (.syncWaitExpiry waitId) s = .next (s.endsQuiet (((s.withoutWait w waitId).syncFault Code.syncTimeout (s.waitObject w)
      (syncWaiter w.handle w.party)).answerSync w.party Code.syncTimeout 0)) := by
  simp only [exec, execSyncWaitExpiry, hw, if_pos (And.intro timed due), done, State.endsQuiet, State.withoutWait]

/-- R332: the oldest wait without an entry that finds room takes one. -/
theorem syncWaitLateRegister_of_room {w : SyncWait} (late : s.sync.oldestLate = some w) :
    exec .syncWaitLateRegister s = .next (s.ends (s.registerWait w.ident)) := by
  simp only [exec, execSyncWaitLateRegister, late, done, State.ends]

/-! ## Requests of engines -/

/-- R330, R331: an engine's request for a task in flight acts, unless it would wait for an aborted task. -/
theorem syncRequest_of_task {q : SyncReq} {k : Task} (front : s.hubFront sp = some (.sync q, t))
    (hk : tget t.tasks q.tag = some k) : exec (.syncRequestAtSyncUnit sp) s =
      .next (s.endsQuiet (if 2 ≤ q.op ∧ t.aborted k = true then t else t.engineSync q k)) := by
  simp only [exec, execSyncRequestAtSyncUnit, front, hk, done, State.endsQuiet]

/-- R331: a request of no task in flight is discarded. -/
theorem syncRequest_of_no_task {q : SyncReq} (front : s.hubFront sp = some (.sync q, t)) (unknown : tget t.tasks q.tag = none) :
    exec (.syncRequestAtSyncUnit sp) s = .next (State.close s t) := by
  simp only [exec, execSyncRequestAtSyncUnit, front, unknown, done]

/-- R338: a residue request is answered with the words that it names. -/
theorem syncRequest_of_residue {nib tag : Nat} {epoch : W32} {words : List Nat}
    (front : s.hubFront sp = some (.residue nib tag epoch words, t)) : exec (.syncRequestAtSyncUnit sp) s =
      .next (State.close s (t.sendNib nib (.residue nib tag epoch (words.map t.word)))) := by
  simp only [exec, execSyncRequestAtSyncUnit, front, done]

end Sys2Proof.Machine

open Sys2Proof Sys2Proof.Machine

/-- Settles O55: an operation by its phase, the poll of the slot that is due and its return, the waits, the requests of
engines by their tasks, then the arithmetic of ADD and of the conditions. -/
theorem syncUnitCommands : Obligations.SyncUnitCommands := by
  intro s t i slot waitId sp v old new word value mask o r w x q k nib tag epoch words
  refine ⟨fun answered op => ⟨⟨_, memorySyncResponse_of_answered answered op none⟩, fun phase => ?set, fun phase => ?read,
      fun phase => ?swap⟩,
    watchPoll_of_due, fun due hx keys => ?due, fun answered hx => ?polled, syncWaitLateRegister_of_room,
    fun hw timed due => ⟨s.withoutWait w waitId, s.withoutWait_waits w, rfl, rfl, syncWaitExpiry_of_due hw timed due⟩,
    fun front => ⟨fun hk acts => ?acts, fun hk waits aborted => ?aborted, syncRequest_of_no_task front⟩,
    fun front => ?residue, fun _ => syncAdd_eq_some_iff, decide_eq_true_iff, beq_iff_eq, beq_iff_eq⟩
  case set => exact ⟨_, by rw [memorySyncResponse_of_answered answered op, State.memOpResponse_of_setting phase]⟩
  case read =>
    constructor
    · intro sum sums
      rw [memorySyncResponse_of_answered answered op, State.memOpResponse_of_sum phase sums]
    · intro outside
      rw [memorySyncResponse_of_answered answered op, State.memOpResponse_of_underflow phase outside]
  case swap =>
    rw [memorySyncResponse_of_answered answered op, State.memOpResponse_of_swapping phase]
    exact ⟨fun held => by rw [if_pos held], fun failed => by rw [if_neg failed]⟩
  case due =>
    obtain ⟨z, mem, ready⟩ := SyncUnit.due_some due
    obtain rfl := Option.some.inj ((tget_of_mem keys mem).symm.trans hx)
    exact ready
  case polled =>
    obtain ⟨mip, rfl⟩ := State.answered_some answered
    exact ⟨fun other => watchPollReturn_of_other answered hx other v,
      fun pasid addr => ⟨watchPollReturn_value answered hx pasid addr v, watchPollReturn_error answered hx pasid addr⟩⟩
  case acts =>
    have taken : ¬(2 ≤ q.op ∧ t.aborted k = true) := by
      rintro ⟨waits, aborted⟩
      rcases acts with acts | alive
      · omega
      · simp [alive] at aborted
    rw [syncRequest_of_task front hk, if_neg taken]
  case aborted => rw [syncRequest_of_task front hk, if_pos ⟨waits, aborted⟩]
  case residue =>
    obtain ⟨rest, rfl⟩ := State.hubFront_some front
    exact syncRequest_of_residue front

end

section
/-! What ends with a queue's command leaves of the Sync Unit: its waits may go, its barrier instances and generations stay
(R192, R316, R347). -/

namespace Sys2Proof.Machine

open Sys2Proof

variable (s : State)

/-- A fold keeps what each of its steps keeps. -/
theorem foldl_keeps {σ α β : Type} {op : σ → α → σ} (f : σ → β) (keeps : ∀ s a, f (op s a) = f s) (l : List α) (s : σ) :
    f (l.foldl op s) = f s :=
  List.foldlRecOn (motive := fun t => f t = f s) l op rfl fun t kept a _ => (keeps t a).trans kept

/-! ## Operations that leave the Sync Unit as it is -/

@[simp] theorem State.modSub_sync (q : Nat) (n : W64) (f : Sub → Sub) : (s.modSub q n f).sync = s.sync := rfl

@[simp] theorem State.unpark_sync (q : Nat) : (s.unpark q).sync = s.sync := rfl

@[simp] theorem State.record_sync (unit typ payload : Nat) : (s.record unit typ payload).sync = s.sync :=
  s.recordAs_sync unit typ s.aoNow payload false (!s.awake)

@[simp] theorem State.writeMem_sync (w : Option MemWait) (pasid : Nat) (part : Option Nat) (addr : W64) (data : List Byte)
    (atomic : Bool) : (s.writeMem w pasid part addr data atomic).sync = s.sync := s.emit_sync _

@[simp] theorem State.issueWriteBack_sync (q : Nat) : (s.issueWriteBack q).sync = s.sync := by
  unfold State.issueWriteBack
  split
  · rfl
  · split
    · split
      · split
        · rw [State.modQueue_sync, State.writeMem_sync]
        · rfl
      · rfl
    · rfl

@[simp] theorem State.scheduleWriteBack_sync (q : Nat) : (s.scheduleWriteBack q).sync = s.sync := by
  unfold State.scheduleWriteBack
  split
  · split
    · rw [State.issueWriteBack_sync, State.modQueue_sync]
    · rfl
  · rfl

@[simp] theorem State.retire_sync (q : Nat) (n : W64) (status : W16) : (s.retire q n status).sync = s.sync := by
  unfold State.retire
  split
  · rfl
  · split
    · rfl
    · dsimp only
      split
      · split
        · rw [State.scheduleWriteBack_sync, State.modQueue_sync, State.modSub_sync, State.record_sync]
        · rw [State.modSub_sync, State.record_sync]
      · rw [State.modSub_sync, State.record_sync]

@[simp] theorem State.maybeRetire_sync (q : Nat) (n : W64) : (s.maybeRetire q n).sync = s.sync := by
  unfold State.maybeRetire
  split
  · rfl
  · split
    · split
      · exact State.retire_sync ..
      · split
        · exact State.retire_sync ..
        · rfl
    · rfl

@[simp] theorem State.completeCmd_sync (q : Nat) (n : W64) (off : Nat) : (s.completeCmd q n off).sync = s.sync := by
  rw [State.completeCmd, State.maybeRetire_sync, State.modSub_sync]

@[simp] theorem State.faultQueue_sync (q : Nat) (f : W64) (code : W16) : (s.faultQueue q f code).sync = s.sync := by
  unfold State.faultQueue
  split
  · rfl
  · dsimp only
    split
    · split
      · rw [State.scheduleWriteBack_sync, State.modQueue_sync]
      · rfl
    · rfl

@[simp] theorem State.setEvent_sync (slot ev : Nat) (f : EventState → EventState) :
    (s.setEvent slot ev f).sync = s.sync := by
  unfold State.setEvent
  split
  · rfl
  · split <;> rfl

@[simp] theorem State.recordEvent_sync (slot ev : Nat) (code : W16) : (s.recordEvent slot ev code).sync = s.sync :=
  s.setEvent_sync slot ev _

@[simp] theorem State.recordEvents_sync (slot : Nat) (evs : List Nat) (code : W16) :
    (s.recordEvents slot evs code).sync = s.sync :=
  foldl_keeps State.sync (fun s e => s.recordEvent_sync slot e code) evs s

@[simp] theorem State.errorEvents_sync (slot : Nat) (evs : List Nat) (code : W16) :
    (s.errorEvents slot evs code).sync = s.sync :=
  foldl_keeps State.sync (fun s e => s.setEvent_sync slot e _) evs s

@[simp] theorem State.cbFetch_sync (q : Nat) : (s.cbFetch q).sync = s.sync := by
  unfold State.cbFetch
  split
  · split
    · rfl
    · split <;> rfl
  · rfl

/-! ## Operations that leave its barriers as they are -/

/-- The running instances and the generations of the barriers (R347). -/
def SyncUnit.instances (y : SyncUnit) : List BarrierRun × Tbl W32 := (y.barriers, y.gens)

theorem State.failSub_instances (q : Nat) (n : W64) (code : W16) (killed : Bool) (extra : List Nat) (unit : Nat) :
    (s.failSub q n code killed extra unit).sync.instances = s.sync.instances := by
  have dropped (t : State) : (t.dropSyncWaits q n).sync.instances = t.sync.instances := rfl
  unfold State.failSub
  split
  · split
    · rfl
    · cases killed <;>
        simp only [State.cbFetch_sync, State.maybeRetire_sync, State.errorEvents_sync, State.recordEvents_sync,
          State.faultQueue_sync, dropped, State.modQueue_sync, State.modSub_sync, State.record_sync, if_true,
          Bool.false_eq_true, if_false]
  · rfl

theorem State.failCmd_instances (q : Nat) (n : W64) (off : Nat) (code : W16) (unit : Nat) :
    (s.failCmd q n off code unit).sync.instances = s.sync.instances := by
  unfold State.failCmd
  split
  · next c slot ctx _ _ =>
    dsimp only
    rw [State.maybeRetire_sync, State.failSub_instances]
    have blocked (t : State) : (if c.op.blocks then t.unpark q else t).sync = t.sync := by split <;> rfl
    split
    · rw [blocked, State.modSub_sync]
    · split
      · rw [State.recordEvent_sync, blocked, State.modSub_sync]
      · rw [blocked, State.modSub_sync]
  · rfl

/-- A queue that learns the end of its wait leaves the barriers as they are. -/
theorem State.answerSync_queue_instances (q : Nat) (n : W64) (off : Nat) (code : W16) (value : W64) :
    (s.answerSync (.queue q n off) code value).sync.instances = s.sync.instances := by
  unfold State.answerSync
  dsimp only
  rw [State.unpark_sync]
  split
  · rw [State.completeCmd_sync]
  · exact s.failCmd_instances q n off code unitSync

end Sys2Proof.Machine
end

section
/-! Barrier arrivals, polls of the relay, the instance timer and the release (R343 to R353). -/

namespace Sys2Proof.Machine

open Sys2Proof

variable {s t : State} {sp bar part : Nat} {nibs : List Nat} {e : SkeinEntry} {r : BarrierRun}

/-! ## Arrivals -/

section
variable (front : s.hubFront sp = some (.barrier nibs bar part, t))
include front

/-- R349: an arrival at a barrier that no table holds is discarded. -/
theorem barrierArrivalHub_unknown (unknown : t.skeinEntry bar = none) :
    exec (.barrierArrivalHub sp) s = .next (State.close s t) := by
  simp only [exec, execBarrierArrivalHub, front, unknown, done]

/-- R347, R349: the Nibs are counted, or wait for an instance. -/
theorem barrierArrivalHub_known (known : t.skeinEntry bar = some e) : exec (.barrierArrivalHub sp) s =
    .next (s.endsQuiet (t.orLate ⟨bar, nibs, none⟩ (t.arriveNibs bar nibs))) := by
  simp only [exec, execBarrierArrivalHub, front, known, done, State.endsQuiet]

end

/-- R347: no seventeenth instance starts. -/
theorem State.arriveNibs_of_full (idle : t.barrierRun bar = none) (full : 16 ≤ t.sync.barriers.length) (nibs : List Nat) :
    t.arriveNibs bar nibs = none := by
  simp only [State.arriveNibs, State.joinRun, idle, if_neg (Nat.not_lt.mpr full), Option.map_none]

/-! ## Polls -/

/-- R348: a barrier that runs no instance is polled for a child's first arrival (log 26). -/
theorem barrierPoll_idle (idle : s.barrierRun bar = none) (known : s.skeinEntry bar = some e) (children : 0 < e.children)
    (primary : s.primary = true) :
    exec (.barrierPoll bar) s = .next (State.close s (s.pollChildren e (List.range e.children))) := by
  simp only [exec, execBarrierPoll, idle, known, if_pos (And.intro children primary), done]

section
variable (running : s.barrierRun bar = some r) (due : ∀ p, r.lastPoll = some p → p + 200 ≤ s.now)
include running due

/-- R348: a running instance whose poll is due reads what it waits for. -/
theorem barrierPoll_due (reads : r.upWait = true ∨ 0 < r.entry.children) : exec (.barrierPoll bar) s =
    let u := s.putRun { r with lastPoll := some s.now }
    .next (State.close s (
      if r.upWait then
        if s.waitsFor (.barrierPoll bar none) then u
        else u.readMem (.barrierPoll bar none) r.entry.pasid (some r.entry.partition) r.entry.releaseAddr 8 false
      else u.pollChildren r.entry (List.range r.entry.children))) := by
  simp only [exec, execBarrierPoll, running]
  rw [if_pos]
  · split
    · split <;> rfl
    · rfl
  · refine ⟨?_, reads⟩
    cases last : r.lastPoll with
    | none => rfl
    | some p => exact decide_eq_true (due p last)

end

/-! ## What a poll returns -/

section
variable {word : Option Nat} {k : Nat} {req : MemReq}

/-- R150, R340: an error response has its record (log 134), and fails the contexts of the PASID that was read for. -/
theorem barrierPollReturn_error (answered : s.answered (.barrierPoll bar word) = some (req, t)) :
    exec (.barrierPollReturn bar word none) s = .next (s.endsQuiet
      ((t.syncFault Code.memoryError (syncObject (.mem req.pasid req.addr)) 0).pasidFault req.pasid Code.memoryError)) := by
  simp only [exec, execBarrierPollReturn, answered, done, State.endsQuiet]

/-- R348: a child's slot read for a running instance. -/
theorem barrierPollReturn_child (answered : s.answered (.barrierPoll bar (some k)) = some (req, t))
    (running : t.barrierRun bar = some r) (v : W64) :
    exec (.barrierPollReturn bar (some k) (some v)) s = .next (s.endsQuiet (t.childSlot r k v.toNat)) := by
  simp only [exec, execBarrierPollReturn, answered, running, done, State.endsQuiet]

/-- R348: the release word read for a running instance. -/
theorem barrierPollReturn_release (answered : s.answered (.barrierPoll bar none) = some (req, t))
    (running : t.barrierRun bar = some r) (v : W64) :
    exec (.barrierPollReturn bar none (some v)) s = .next (s.endsQuiet (t.releaseRead r v.toNat)) := by
  simp only [exec, execBarrierPollReturn, answered, running, done, State.endsQuiet]

/-- R348: the release word of an instance that has ended meanwhile. -/
theorem barrierPollReturn_ended (answered : s.answered (.barrierPoll bar none) = some (req, t))
    (ended : t.barrierRun bar = none) (v : W64) :
    exec (.barrierPollReturn bar none (some v)) s = .next (State.close s t) := by
  simp only [exec, execBarrierPollReturn, answered, ended, done]

end

/-- R345, R348: a slot of another generation, or one that is refused (log 133), says nothing. -/
theorem State.childSlot_of_ignored {v : Nat} (ignored : v % 2 ^ 32 ≠ r.gen.toNat ∨ slotClean v = false) (k : Nat) :
    t.childSlot r k v = t := by
  refine if_pos ?_
  rcases ignored with other | unclean
  · exact .inl other
  · exact .inr (.inr (by simp [unclean]))

section
variable {v : Nat}

/-- R345, R348: a release word of another generation, one that no instance waits for, or one that is refused (log 133) says
nothing. -/
theorem State.releaseRead_of_ignored
    (ignored : v % 2 ^ 32 ≠ r.gen.toNat ∨ r.upWait = false ∨ releaseClean v = false) : t.releaseRead r v = t := by
  refine if_pos ?_
  simpa only [Bool.not_eq_true] using ignored

/-- R348, R353: the release word of an instance's generation releases it, with its failure where it says so. -/
theorem State.releaseRead_of_waited (own : v % 2 ^ 32 = r.gen.toNat) (waits : r.upWait = true)
    (clean : releaseClean v = true) : t.releaseRead r v =
      t.releaseRun r (if bit v 32 then some (bits v 34 33, bits v 54 35) else none) := by
  rw [State.releaseRead, if_neg (by rintro (other | other | other) <;> contradiction)]
  split <;> rfl

end

/-! ## The instance timer -/

/-- R353: the participant that an instance is given up for. -/
def State.missingAtTimeout (s : State) (r : BarrierRun) : Nat × Nat :=
  if r.upWait then (3, r.entry.parent.getD 0xFFFF) else s.missingOf r

section
variable (running : s.barrierRun bar = some r) (due : r.since + 1000 * r.entry.timeoutUs ≤ s.now)
include running due

/-- R353: the root's instance at its entry's timeout is released with its failure. -/
theorem barrierInstanceTimeout_root (root : r.entry.parent = none) : exec (.barrierInstanceTimeout bar) s =
    .next (s.endsQuiet (s.releaseRun r (some (s.missingAtTimeout r)))) := by
  simp only [exec, execBarrierInstanceTimeout, running, if_pos due, SkeinEntry.root, root, Option.isNone_none, if_true, done,
    State.endsQuiet, State.missingAtTimeout]

/-- R353: the parent of another is told first. -/
theorem barrierInstanceTimeout_parent (parent : r.entry.parent ≠ none) : exec (.barrierInstanceTimeout bar) s =
    .next (s.endsQuiet ((s.relay r.entry r.entry.upAddr (slotFail r.gen (s.missingAtTimeout r))).releaseRun r
      (some (s.missingAtTimeout r)))) := by
  simp only [exec, execBarrierInstanceTimeout, running, if_pos due, SkeinEntry.root, Option.isNone_eq_false_iff.mpr
    (Option.isSome_iff_ne_none.mpr parent), Bool.false_eq_true, if_false, done, State.endsQuiet, State.missingAtTimeout]

end

/-! ## The release -/

theorem State.releaseWaits_instances (s : State) (b : Nat) (code : W16) :
    (s.releaseWaits b code).sync.instances = s.sync.instances := by
  refine foldl_keeps (fun t : State => t.sync.instances) (fun t w => ?_) _ _
  split
  · next party =>
    rw [party]
    exact t.answerSync_queue_instances _ _ _ code 0
  · rfl

theorem State.multicastRelease_sync (s : State) (e : SkeinEntry) (gen : W32) (code : W16) :
    (s.multicastRelease e gen code).sync = s.sync :=
  foldl_keeps State.sync (fun t _ => t.emit_sync _) _ s

theorem State.barrierRecord_sync (s : State) (b device : Nat) (release : Bool) (mask : Nat) :
    (s.barrierRecord b device release mask).sync = s.sync := s.record_sync unitSync 0x09 _

/-- R346, R351: a release ends the instance, and moves the generation on unless it has been set anew by a seal. -/
theorem State.releaseRun_instances (s : State) (r : BarrierRun) (fail : Option (Nat × Nat)) : ∃ u : SyncUnit,
    (s.releaseRun r fail).sync.instances = (u.barriers.filter fun q => q.entry.barrier != r.entry.barrier,
      if r.resealed then u.gens else tset u.gens r.entry.barrier (r.gen + 1)) := by
  simp only [State.releaseRun, State.modPart_sync, State.endPurl, State.barrierRecord_sync, State.multicastRelease_sync,
    State.releaseWaits_instances]
  exact ⟨_, rfl⟩

end Sys2Proof.Machine

open Sys2Proof Sys2Proof.Machine

/-- Settles O56: arrivals, the polls and what they return, the instance timer, then what a release leaves of the instance and
its generation. -/
theorem barrierInstances : Obligations.BarrierInstances := by
  intro s t sp bar k part nibs e r req v word fail
  refine ⟨fun front => ⟨barrierArrivalHub_unknown front, barrierArrivalHub_known front,
      fun idle full => State.arriveNibs_of_full idle full nibs⟩,
    barrierPoll_idle, fun running due => ⟨fun waits free => ?release, fun gathers children => ?slots⟩,
    fun answered => ⟨barrierPollReturn_error answered, fun running child => ⟨?child, fun ignored =>
      State.childSlot_of_ignored ignored k⟩, fun running isRelease => ?word, fun ended isRelease => ?ended⟩,
    fun running due => ⟨barrierInstanceTimeout_root running due, barrierInstanceTimeout_parent running due⟩, ?released⟩
  case release =>
    rw [barrierPoll_due running due (.inl waits)]
    simp only [waits, free, if_true, Bool.false_eq_true, if_false]
  case slots =>
    rw [barrierPoll_due running due (.inr children)]
    simp only [gathers, Bool.false_eq_true, if_false]
  case child =>
    subst child
    exact barrierPollReturn_child answered running v
  case word =>
    subst isRelease
    rw [barrierPollReturn_release answered running]
    refine ⟨fun own waits clean passed => ?_, fun own waits clean failed => ?_, fun ignored => ?_⟩
    · rw [State.releaseRead_of_waited own waits clean, passed]
      rfl
    · rw [State.releaseRead_of_waited own waits clean, if_pos failed]
    · rw [State.releaseRead_of_ignored ignored]
  case ended =>
    subst isRelease
    exact barrierPollReturn_ended answered ended v
  case released =>
    obtain ⟨u, instances⟩ := s.releaseRun_instances r fail
    obtain ⟨barriers, gens⟩ := Prod.mk.inj instances
    constructor
    · rw [State.barrierRun, barriers]
      exact List.find?_eq_none.mpr fun q mem => by simpa using (List.mem_filter.mp mem).2
    · intro unsealed
      rw [gens, unsealed]
      exact tget_tset_self _ _ _

end

section
/-! Feed's rail groups: a change of one group, and a period's sweep over all 16 (R369, R391 to R393). -/

namespace Sys2Proof.Machine

open Sys2Proof

variable {s : State} {g : Nat} {r : Rail} {l : FeedLimits}

/-! ## One rail group -/

/-- A change of a position is what it makes of the element there. -/
theorem lmod_congr_at {α : Type} {l : List α} {i : Nat} {a : α} {f h : α → α} (found : l[i]? = some a) (same : f a = h a) :
    lmod l i f = lmod l i h :=
  lmod_congr fun b hb => by rwa [Option.some.inj (hb.symm.trans found)]

/-- A change of a group is what it makes of the group's present values. -/
theorem State.modRail_congr {f h : Rail → Rail} (hr : s.feed.rails[g]? = some r) (same : f r = h r) :
    s.modRail g f = s.modRail g h :=
  congrArg (fun rails => { s with feed := { s.feed with rails := rails } }) (lmod_congr_at hr same)

/-- A change of a group that does nothing to it changes nothing. -/
theorem State.modRail_eq_self {f : Rail → Rail} (hr : s.feed.rails[g]? = some r) (same : f r = r) : s.modRail g f = s := by
  have unchanged : lmod s.feed.rails g id = s.feed.rails := List.modify_id g _
  rw [State.modRail_congr (h := id) hr same, State.modRail, unchanged]

/-! ## A sweep over the rail groups -/

/-- A sweep whose step changes its own group alone, by what the sweep keeps, changes each group that it has reached. -/
theorem State.sweep_rails {β : Type} {op : State → Nat → State} (k : State → β) {f : β → Rail → Rail}
    (keeps : ∀ s g, k (op s g) = k s) (step : ∀ s g, (op s g).feed.rails = lmod s.feed.rails g (f (k s))) (n g : Nat) :
    ((List.range n).foldl op s).feed.rails[g]? =
      if g < n then s.feed.rails[g]?.map (f (k s)) else s.feed.rails[g]? := by
  induction n with
  | zero => rfl
  | succ n ih =>
    rw [List.range_succ, List.foldl_append, List.foldl_cons, List.foldl_nil, step, foldl_keeps k keeps]
    by_cases here : g = n
    · subst here
      rw [getElem?_lmod_self, ih, if_neg (Nat.lt_irrefl g), if_pos (Nat.lt_succ_self g)]
    · have reached : g < n ↔ g < n + 1 := by omega
      rw [getElem?_lmod_of_ne _ _ here, ih]
      simp only [reached]

/-- The same for a group of the 16. -/
theorem State.sweep_rail {β : Type} {op : State → Nat → State} (k : State → β) {f : β → Rail → Rail}
    (keeps : ∀ s g, k (op s g) = k s) (step : ∀ s g, (op s g).feed.rails = lmod s.feed.rails g (f (k s))) (hg : g < 16)
    (hr : s.feed.rails[g]? = some r) : ((List.range 16).foldl op s).feed.rails[g]? = some (f (k s) r) := by
  rw [State.sweep_rails k keeps step, if_pos hg, hr, Option.map_some]

/-- A step that leaves a missing group alone, and replaces a group that is there, is a change of its group. -/
theorem lmod_of_replaced {α : Type} {rails out : List α} {g : Nat} {f : α → α} (missing : rails[g]? = none → out = rails)
    (replaced : ∀ r, rails[g]? = some r → out = lmod rails g fun _ => f r) : out = lmod rails g f := by
  cases hr : rails[g]? with
  | none => rw [missing hr, lmod, List.modify_eq_self (List.getElem?_eq_none_iff.mp hr)]
  | some r => exact (replaced r hr).trans (lmod_congr_at hr rfl)

@[simp] theorem State.blotFeed_feed (s : State) (code : W16) (bitNo g value : Nat) :
    (s.blotFeed code bitNo g value).feed = s.feed := s.blot_feed _ _ _ _

@[simp] theorem State.blotFeed_parts (s : State) (code : W16) (bitNo g value : Nat) :
    (s.blotFeed code bitNo g value).parts = s.parts := s.blot_parts _ _ _ _

/-- A Blotter record leaves the Nibs as they are: it goes to the writer, or to the mirror's held effects. -/
@[simp] theorem State.blotFeed_nibs (s : State) (code : W16) (bitNo g value : Nat) :
    (s.blotFeed code bitNo g value).nibs = s.nibs := by
  unfold State.blotFeed State.blot State.emit
  dsimp only
  split
  · split <;> rfl
  · rfl

/-! ## Calibration -/

/-- A rail group's correction at a calibration, with its record where the clamp has bound (R370). -/
def State.calibrateRail (s : State) (g : Nat) : State :=
  match s.feed.rails[g]? with
  | none => s
  | some r =>
    let t := s.modRail g fun _ => r.calibrate.1
    match r.calibrate.2 with
    | some ratio => State.blotFeed { t with feed := { t.feed with calClamped := true } } 0 11 g ratio
    | none => t

theorem State.calibrateRail_rails (s : State) (g : Nat) :
    (s.calibrateRail g).feed.rails = lmod s.feed.rails g fun r => r.calibrate.1 := by
  refine lmod_of_replaced (fun missing => ?_) fun r hr => ?_
  · simp only [State.calibrateRail, missing]
  · simp only [State.calibrateRail, hr]
    split <;> simp

theorem State.calibrateRail_parts (s : State) (g : Nat) : (s.calibrateRail g).parts = s.parts := by
  unfold State.calibrateRail
  split
  · rfl
  · dsimp only
    split <;> simp

theorem State.calibrateRail_nibs (s : State) (g : Nat) : (s.calibrateRail g).nibs = s.nibs := by
  unfold State.calibrateRail
  split
  · rfl
  · dsimp only
    split <;> simp

/-- R369: a calibration that is due sweeps the rail groups. -/
theorem calibrationTick_of_due (due : s.due 2 10000000 = true) : exec .calibrationTick s =
    .next (State.close s ((List.range 16).foldl State.calibrateRail (s.serve 2 10000000))) := if_pos due

/-- R370: a group with all of its samples is corrected by the ratio of measured to estimated, within the clamp. -/
theorem Rail.calibrate_of_full (full : r.powerCount = 100) (metered : 0 < r.rawWindow) :
    r.calibrate.1.corr = min (max ((4096 * (r.powerSum * 100000) * 2 + r.rawWindow) / (2 * r.rawWindow)) 3605) 4587 ∧
      r.calibrate.1.powerSum = 0 ∧ r.calibrate.1.rawWindow = 0 := by
  rw [Rail.calibrate, if_pos ⟨full, metered⟩]
  exact ⟨rfl, rfl, rfl⟩

/-- R370: a group that lacks a sample keeps its correction. -/
theorem Rail.calibrate_of_partial (lacking : r.powerCount ≠ 100) : r.calibrate.1.corr = r.corr := by
  rw [Rail.calibrate, if_neg fun full => lacking full.1]

/-! ## Sense periods -/

/-- A rail group's ceilings at a sense period, with the record of its missing samples (R391, R392). -/
def State.senseRail (l : FeedLimits) (s : State) (g : Nat) : State :=
  match s.feed.rails[g]? with
  | none => s
  | some r =>
    let t := s.modRail g fun _ => (r.sensed l s.feed.flow).1
    if (r.sensed l s.feed.flow).2 then
      State.blotFeed { t with feed := { t.feed with senseMissed := true } } 0 12 g 0
    else t

theorem State.senseRail_rails (l : FeedLimits) (s : State) (g : Nat) :
    (s.senseRail l g).feed.rails = lmod s.feed.rails g fun r => (r.sensed l s.feed.flow).1 := by
  refine lmod_of_replaced (fun missing => ?_) fun r hr => ?_
  · simp only [State.senseRail, missing]
  · simp only [State.senseRail, hr]
    split <;> simp

theorem State.senseRail_flow (l : FeedLimits) (s : State) (g : Nat) : (s.senseRail l g).feed.flow = s.feed.flow := by
  unfold State.senseRail
  split
  · rfl
  · dsimp only
    split <;> simp

section
variable (due : s.due 3 100000 = true)
include due

/-- R391, R392: a sense period that is due sweeps the rail groups, which may then step. -/
theorem senseTick_of_due (sealed : s.live.limits = some l) : exec .senseTick s =
    .next (State.close s ((List.range 16).foldl (State.senseRail l) (s.serve 3 100000)).stepRails) := by
  refine (if_pos due).trans ?_
  rw [sealed]
  rfl

/-- R391: before the first seal the period alone is served. -/
theorem senseTick_of_unsealed (unsealed : s.live.limits = none) :
    exec .senseTick s = .next (State.close s (s.serve 3 100000)) := by
  refine (if_pos due).trans ?_
  rw [unsealed]
  rfl

end

/-- R391: the thermal ceiling moves by the sample's place against the limit and the hysteresis below it. -/
theorem Rail.sensed_thermalCeil {c : Int} (flow : Option Nat) (sample : r.temp = some c) :
    (r.sensed l flow).1.thermalCeil = if l.thermalLimit ≤ c then r.thermalCeil - 1
      else if c < l.thermalLimit - l.thermalHyst then min 15 (r.thermalCeil + 1) else r.thermalCeil := by
  simp only [Rail.sensed, sample, decide_eq_true_eq]

/-- R392: the coolant's flow sets the flow ceiling. -/
theorem Rail.sensed_flowCeil (f : Nat) :
    (r.sensed l (some f)).1.flowCeil = if f < l.flowMin then l.flowCapLevel else 15 := by
  simp only [Rail.sensed, decide_eq_true_eq]

/-! ## Trim checks -/

/-- A rail group after a trim check, with trim enabled or not (R393). -/
def Rail.trimChecked (enabled : Bool) (r : Rail) : Rail :=
  { r with
    marginLow := false, drooped := false
    trimWanted := if (r.marginLow || r.drooped) && enabled && decide (r.trimWanted < 12) then r.trimWanted + 1
      else r.trimWanted }

/-- A rail group whose notes of a low margin and of a droop are taken away. -/
def Rail.unnoted (r : Rail) : Rail := { r with marginLow := false, drooped := false }

/-- A rail group's trim check, with the record of a trim that is exhausted (R393). -/
def State.trimRail (s : State) (g : Nat) : State :=
  match s.feed.rails[g]? with
  | none => s
  | some r =>
    let t := s.modRail g Rail.unnoted
    if (r.marginLow || r.drooped) && s.feed.ctrl.getLsbD 3 then
      if r.trimWanted < 12 then t.modRail g fun r => { r with trimWanted := r.trimWanted + 1 }
      else State.blotFeed { t with feed := { t.feed with trimExhausted := true } } 0 10 g 0
    else t

theorem State.trimRail_rails (s : State) (g : Nat) :
    (s.trimRail g).feed.rails = lmod s.feed.rails g (Rail.trimChecked (s.feed.ctrl.getLsbD 3)) := by
  refine lmod_of_replaced (fun missing => ?_) fun r hr => ?_
  · simp only [State.trimRail, missing]
  · have checked {h : Rail → Rail} (same : h r.unnoted = r.trimChecked (s.feed.ctrl.getLsbD 3)) :
        lmod s.feed.rails g (h ∘ Rail.unnoted) = lmod s.feed.rails g fun _ => r.trimChecked (s.feed.ctrl.getLsbD 3) :=
      lmod_congr_at hr same
    simp only [State.trimRail, hr]
    split
    · next asks =>
      split
      · next below =>
        refine (List.modify_modify_eq ..).trans (checked ?_)
        simp only [Rail.trimChecked, Rail.unnoted, asks, below, decide_true, Bool.and_self, if_true]
      · next exhausted =>
        rw [State.blotFeed_feed]
        refine checked (h := id) ?_
        simp only [Rail.trimChecked, Rail.unnoted, exhausted, decide_false, Bool.and_false, Bool.false_eq_true, if_false, id]
    · next quiet =>
      refine checked (h := id) ?_
      simp only [Rail.trimChecked, Rail.unnoted, quiet, Bool.false_and, Bool.false_eq_true, if_false, id]

theorem State.trimRail_ctrl (s : State) (g : Nat) : (s.trimRail g).feed.ctrl = s.feed.ctrl := by
  unfold State.trimRail
  split
  · rfl
  · dsimp only
    split
    · split <;> simp
    · rfl

/-- R393: a trim check that is due sweeps the rail groups, which may then step. -/
theorem trimCheck_of_due (due : s.due 4 100000000 = true) : exec .trimCheck s =
    .next (State.close s ((List.range 16).foldl State.trimRail (s.serve 4 100000000)).stepRails) := if_pos due

end Sys2Proof.Machine
end

section
/-! The close of an interval, ramp windows, samples and phase hints (R366 to R368, R371, R376, R383, R395, R518). -/

namespace Sys2Proof.Machine

open Sys2Proof

variable {s : State} {g : Nat} {r : Rail} {l : FeedLimits}

/-! ## The close of an interval -/

/-- R366: a step of a period is due once Ductus time has crossed another multiple of it. -/
theorem State.due_iff (s : State) (i period : Nat) : s.due i period = true ↔ s.feed.served.getD i 0 < s.now / period :=
  decide_eq_true_iff

section
variable (due : s.due 0 1024 = true)
include due

/-- R366, R367: the primary closes an interval that is due with the reports of the energy metered, and with no other. -/
theorem feedIntervalClose_primary (primary : s.primary = true) (reports : List Nat) : exec (.feedIntervalClose reports) s =
    if reports = s.nibReports then .next (State.close s (((s.serve 0 1024).closeInterval s.reportDue).decideAll false))
    else .next s := by
  simp only [exec, execFeedIntervalClose, due, primary, Bool.not_true, Bool.false_eq_true, if_true, if_false, done, skip]

/-- R395: another Hub only empties the meters. -/
theorem feedIntervalClose_other (other : s.primary = false) (reports : List Nat) :
    exec (.feedIntervalClose reports) s = .next (State.close s (s.serve 0 1024).clearMeters) := by
  simp only [exec, execFeedIntervalClose, due, other, Bool.not_false, if_true, done]

end

/-! ## What keeps the package's window -/

/-- A choice keeps what both of its values keep. -/
theorem ite_keeps {σ β : Type} {c : Prop} [Decidable c] {a b : σ} {k : β} (f : σ → β) (ha : f a = k) (hb : f b = k) :
    f (if c then a else b) = k := by
  split
  · exact ha
  · exact hb

/-- The package's window (R371). -/
def State.window (s : State) : List Nat := s.feed.window

theorem State.modRail_window (s : State) (g : Nat) (f : Rail → Rail) : (s.modRail g f).window = s.window := rfl

theorem State.modPart_window (s : State) (p : Nat) (f : Part → Part) : (s.modPart p f).window = s.window := rfl

theorem State.blotFeed_window (s : State) (code : W16) (bitNo g value : Nat) :
    (s.blotFeed code bitNo g value).window = s.window := congrArg Feed.window (s.blotFeed_feed code bitNo g value)

theorem State.requestStep_window (s : State) (g level trim : Nat) : (s.requestStep g level trim).window = s.window := by
  unfold State.requestStep
  split
  · rfl
  · rw [State.modRail_window]
    exact congrArg Feed.window (s.recordAs_feed ..)

theorem State.stepRail_window (s : State) (g : Nat) : (s.stepRail g).window = s.window := by
  have asks (level trim : Nat) := s.requestStep_window g level trim
  unfold State.stepRail
  split
  · rfl
  · exact ite_keeps State.window rfl <| ite_keeps State.window (ite_keeps State.window rfl (asks _ _)) <|
      ite_keeps State.window (asks _ _) <| ite_keeps State.window (asks _ _) <| ite_keeps State.window (asks _ _) rfl

theorem State.stepRails_window (s : State) : s.stepRails.window = s.window :=
  foldl_keeps State.window State.stepRail_window _ _

theorem State.noteStep_window (s : State) (x : Part) : (s.noteStep x).window = s.window :=
  foldl_keeps State.window (fun t g => t.modRail_window g _) _ _

theorem State.updateTarget_window (l : FeedLimits) (s : State) (p : Nat) : (s.updateTarget l p).window = s.window := by
  unfold State.updateTarget
  split
  · rfl
  · dsimp only
    rw [State.modPart_window]
    exact ite_keeps State.window rfl (s.noteStep_window _)

theorem State.sharePool_window (s : State) : s.sharePool.window = s.window := by
  unfold State.sharePool
  split <;> rfl

theorem State.shapePurl_window (l : FeedLimits) (s : State) (p : Nat) : (s.shapePurl l p).window = s.window := by
  unfold State.shapePurl
  split
  · split
    · exact foldl_keeps State.window (fun t n => congrArg Feed.window (t.modNib_feed n _)) _ _
    · rfl
  · rfl

theorem State.checkCap_window (s : State) (l : FeedLimits) : (s.checkCap l).window = s.window :=
  ite_keeps State.window (State.blotFeed_window _ _ _ _ _) rfl

/-- R367, R371: the interval closed is the window's newest entry, with the base power. -/
theorem State.closeInterval_window (sealed : s.live.limits = some l) :
    (s.closeInterval false).feed.window = ((s.metered + l.baseW * wattPj) :: s.feed.window).take l.window := by
  have closed : (s.closeInterval false).window = ((s.metered + l.baseW * wattPj) :: s.feed.window).take l.window := by
    simp only [State.closeInterval, sealed, Bool.false_eq_true, if_false]
    rw [State.stepRails_window, State.checkCap_window, foldl_keeps State.window (State.shapePurl_window l),
      State.sharePool_window]
    exact foldl_keeps State.window (State.updateTarget_window l) _ _
  exact closed

/-! ## Ramp windows -/

/-- The charge of every rail group at the start of a ramp window (R376). -/
def State.chargeWindow (s : State) (l : FeedLimits) : State :=
  { s.serve 1 2048 with feed := { (s.serve 1 2048).feed with rails := s.feed.rails.map fun r => r.newWindow l.rampBudget } }

section
variable (due : s.due 1 2048 = true)
include due

/-- R376: a ramp window that is due charges the groups, then decides the withheld launches at its start. -/
theorem rampWindowStart_of_due (sealed : s.live.limits = some l) :
    exec .rampWindowStart s = .next (State.close s ((s.chargeWindow l).decideAll true)) := by
  simp only [exec, execRampWindowStart, due, sealed, if_true, done]
  rfl

/-- R376: before the first seal the window alone is served. -/
theorem rampWindowStart_of_unsealed (unsealed : s.live.limits = none) :
    exec .rampWindowStart s = .next (State.close s (s.serve 1 2048)) := by
  simp only [exec, execRampWindowStart, due, unsealed, if_true, done]

end

/-! ## Samples -/

/-- R518: the first power sample of a group in a period counts. -/
theorem senseSample_power_first (value : W32) (hr : s.feed.rails[g]? = some r) (first : r.powerMw = none) :
    exec (.senseSample 0 g value) s = .next (State.close s (s.modRail g fun r =>
      { r with powerMw := some value.toNat, powerSum := r.powerSum + value.toNat, powerCount := r.powerCount + 1 })) := by
  refine congrArg (done s) (State.modRail_congr hr ?_)
  simp only [first, Option.isSome_none, Bool.false_eq_true, if_false]

/-- R518: a further power sample of the period changes nothing. -/
theorem senseSample_power_again (value : W32) (hr : s.feed.rails[g]? = some r) (again : r.powerMw.isSome = true) :
    exec (.senseSample 0 g value) s = .next (State.close s s) :=
  congrArg (done s) (State.modRail_eq_self hr (if_pos again))

/-- R393, R518: a margin sample is noted where it is below the sealed limit. -/
theorem senseSample_margin (value : W32) (sealed : s.live.limits = some l) :
    exec (.senseSample 2 g value) s = .next (State.close s (s.modRail g fun r =>
      { r with marginLow := r.marginLow || decide (value.toNat % 65536 < l.marginLow) })) := by
  simp only [exec, execSenseSample, sealed, done]

/-! ## Phase hints -/

/-- R383: a hint whose ramp begins raises the target by a step, or leaves it where a cap or a recent step forbids one. -/
theorem hintRampStart_of_due {p : Nat} {x : Part} {h : Hint} (sealed : s.live.limits = some l) (hx : tget s.parts p = some x)
    (hinted : x.hint = some h) (waiting : h.ramping = false)
    (due : h.t0 + 1000 * h.leadUs ≤ s.now + 1000 * ((h.level - x.target) * l.stepMinUs)) :
    exec (.hintRampStart p) s = .next (State.close s (
      if decide (x.target < h.level) && !(x.over l s.feed.hostLimit.toNat) && s.mayCapStep l x then
        ((s.noteStep x).modPart p fun y => { y with target := x.target + 1, hint := some { h with ramping := true } }).stepRails
      else (s.modPart p fun y => { y with target := x.target, hint := some { h with ramping := true } }).stepRails)) := by
  simp only [exec, execHintRampStart, sealed, hx, hinted, Option.bind_some, Option.map_some, waiting, due, Bool.not_false,
    decide_true, Bool.and_self, if_true, done]
  cases free : decide (x.target < h.level) && !(x.over l s.feed.hostLimit.toNat) && s.mayCapStep l x with
  | true => simp only [if_true, if_neg (Nat.succ_ne_self x.target)]
  | false => simp only [Bool.false_eq_true, if_false, if_true]

end Sys2Proof.Machine

open Sys2Proof Sys2Proof.Machine

/-- Settles O57: each command that is due does what its rule says, a sweep of the rail groups by what it makes of one group. -/
theorem feedTimers : Obligations.FeedTimers := by
  intro s l reports group p value r x h
  refine ⟨s.due_iff, fun due => ⟨fun primary => ?closes, fun primary other => ?refuses, fun other =>
      feedIntervalClose_other due other reports⟩, rfl, State.closeInterval_window, rampWindowStart_of_due,
    rampWindowStart_of_unsealed, ⟨fun owes => if_pos owes, fun paid => if_neg (Nat.not_lt.mpr (Nat.le_of_eq paid))⟩,
    fun due => ?calibrates, Rail.calibrate_of_full, Rail.calibrate_of_partial,
    fun hr => ⟨senseSample_power_first value hr, senseSample_power_again value hr, rfl, senseSample_margin value, rfl, rfl⟩,
    fun due sealed => ?senses, senseTick_of_unsealed, fun flow c sample => ?thermal, Rail.sensed_flowCeil,
    fun due => ?trims, fun sealed hx hinted waiting due => ⟨fun free => ?ramps, fun held => ?holds⟩⟩
  case closes => rw [feedIntervalClose_primary due primary, if_pos rfl]
  case refuses => rw [feedIntervalClose_primary due primary, if_neg other]
  case calibrates =>
    refine ⟨_, calibrationTick_of_due due, fun g hg r hr => ?_, foldl_keeps State.parts State.calibrateRail_parts _ _,
      foldl_keeps State.nibs State.calibrateRail_nibs _ _⟩
    exact State.sweep_rail (s := s.serve 2 10000000) (f := fun _ r => r.calibrate.1) (fun _ => ())
      (fun _ _ => rfl) State.calibrateRail_rails hg hr
  case senses =>
    refine ⟨_, senseTick_of_due due sealed, fun g hg r hr => ?_⟩
    exact State.sweep_rail (s := s.serve 3 100000) (f := fun flow r => (r.sensed l flow).1)
      (fun t => t.feed.flow) (State.senseRail_flow l) (State.senseRail_rails l) hg hr
  case thermal =>
    rw [Rail.sensed_thermalCeil flow sample]
    exact ⟨fun hot => if_pos hot, fun below cool => by rw [if_neg (Int.not_le.mpr below), if_pos cool],
      fun below near => by rw [if_neg (Int.not_le.mpr below), if_neg near]⟩
  case trims =>
    refine ⟨_, trimCheck_of_due due, fun g hg r hr => ?_⟩
    exact State.sweep_rail (s := s.serve 4 100000000) (fun t => t.feed.ctrl.getLsbD 3)
      (fun t g => by rw [State.trimRail_ctrl]) State.trimRail_rails hg hr
  case ramps => rw [hintRampStart_of_due sealed hx hinted waiting due, if_pos free]
  case holds => rw [hintRampStart_of_due sealed hx hinted waiting due, if_neg (Bool.eq_false_iff.mp held)]

end

section
/-! Power steps, wakes of Nibs and cores, Nibs in OFF, and the Hub's power states (R364, R378, R395, R461, R462, R516, R517). -/

namespace Sys2Proof.Machine

open Sys2Proof

variable {s : State} {g level trim nib : Nat} {r : Rail} {b : Nib} {l : FeedLimits}

/-! ## Power steps -/

section
variable (hr : s.feed.rails[g]? = some r)
include hr

/-- R517: the acknowledgement of a request puts its values in effect, and the group's next step goes. -/
theorem powerStepAck_of_requested (requested : r.request.isSome = true) : exec (.powerStepAck g level trim) s =
    .next (State.close s ((s.modRail g fun r => { r with level := level, trim := trim, request := none }).stepRail g)) := by
  simp only [exec, execPowerStepAck, hr, requested, if_true, done]

/-- R395, R517: values that nobody asked for are another Hub's steps, and a primary ignores them. -/
theorem powerStepAck_of_unrequested (unrequested : r.request = none) : exec (.powerStepAck g level trim) s =
    if s.primary then .next s
    else .next (State.close s (s.modRail g fun r => { r with level := level, trim := trim })) := by
  simp only [exec, execPowerStepAck, hr, unrequested, Option.isSome_none, Bool.false_eq_true, if_false, done, skip]

/-- R517: a request unanswered for 100 µs is driven again. -/
theorem powerStepRetry_of_unanswered {t0 : Nat} (requested : r.request = some (level, trim, t0)) (late : t0 + 100000 ≤ s.now) :
    exec (.powerStepRetry g) s = .next (State.close s (s.requestStep g level trim)) := by
  simp only [exec, execPowerStepRetry, hr, requested, if_pos late, done]

end

/-- R42, R516: a Nib at a new level reloads its increment. -/
theorem nclkChange_of_sealed (hb : s.nibs[nib]? = some b) (sealed : s.live.limits = some l) :
    exec (.nclkChange nib level) s = .next (State.close s
      (s.modNib nib fun b => { b with level := level, increment := l.nclkMhz.getD level 0 })) := by
  simp only [exec, execNclkChange, hb, sealed, done]

/-! ## Wakes -/

/-- R378: the oldest entry of a group is released once the stagger after the one before has passed. -/
theorem wakeRelease_of_due {w : WakeEntry} {rest : List WakeEntry} (sealed : s.live.limits = some l)
    (hr : s.feed.rails[g]? = some r) (oldest : takeFirst (fun w => s.railOf w.nib == g) s.feed.wakes = some (w, rest))
    (staggered : ∀ p, r.lastRelease = some p → p + l.staggerNs ≤ s.now) : exec (.wakeRelease g) s =
      .next (State.close s ((State.modRail { s with feed := { s.feed with wakes := rest } } g fun r =>
        { r with lastRelease := some s.now }).modNib w.nib fun b => { b with waking := true })) := by
  simp only [exec, execWakeRelease, sealed, hr, oldest, done]
  refine if_pos ?_
  cases last : r.lastRelease with
  | none => rfl
  | some p => exact decide_eq_true (staggered p last)

/-- R42, R378: a released Nib whose round fits is in IDLE at its group's level, its count stepped to its parent's (log 122). -/
theorem nibWakeDone_of_round {probes : List Probe} (hb : s.nibs[nib]? = some b) (present : b.present = true)
    (waking : b.waking = true) (fits : s.roundFits (.nib nib) probes = true) (sealed : s.live.limits = some l)
    (hr : s.feed.rails[s.railOf nib]? = some r) : exec (.nibWakeDone nib probes) s = .next (State.close s
      ((s.modNib nib fun b => { b with
        power := .idle, waking := false, idleSince := s.now, offset := some (s.parentNow (.nib nib) - s.now)
        alignedAt := some s.now, slew := 0, unaligned := false, cores := b.closedCores, openCores := 0
        level := r.level, increment := l.nclkMhz.getD r.level 0 }).decideAll false)) := by
  simp only [exec, execNibWakeDone, hb, present, waking, fits, sealed, hr, and_self, if_true, done]

/-- R274, R378: the queues of a Nib that wakes are closed and empty. -/
theorem Nib.closedCores_closed {c : List EngineQueue} {e : EngineQueue} (hc : c ∈ b.closedCores) (he : e ∈ c) :
    e.opened = false ∧ e.buf = [] ∧ e.out = [] := by
  obtain ⟨port, -, rfl⟩ := List.mem_map.mp hc
  obtain ⟨p, -, rfl⟩ := List.mem_map.mp he
  exact ⟨rfl, rfl, rfl⟩

/-- R378: a core may open first, or its time after the core before. -/
theorem State.mayOpen_of_due (due : b.openCores = 0 ∨ s.live.limits = some l ∧ b.openedAt + l.eqOpenNs ≤ s.now) :
    s.mayOpen b = true := by
  rcases due with first | ⟨sealed, later⟩
  · simp [State.mayOpen, first]
  · simp [State.mayOpen, sealed, later]

/-- R378: the queues of the next core open. -/
theorem eqOpen_of_due (hb : s.nibs[nib]? = some b) (present : b.present = true) (awake : b.power ≠ .off)
    (closed : b.openCores < b.ports.length) (may : s.mayOpen b = true) : exec (.eqOpen nib) s =
      .next (State.close s (s.modNib nib fun y => { y with
        openCores := y.openCores + 1, openedAt := s.now
        cores := lmod b.cores b.openCores fun c => c.map fun e => { e with opened := true } })) := by
  simp only [exec, execEqOpen, hb, if_pos (show _ ∧ _ ∧ _ ∧ _ from ⟨present, awake, closed, may⟩), done]

/-- R462: a Nib idle for its time goes OFF, and keeps its configuration, its meters, and what it has sent. -/
theorem nibIdleToOff_of_due (hb : s.nibs[nib]? = some b) (present : b.present = true) (idle : b.power = .idle)
    (taskless : b.tasks = []) (heard : b.down = []) (limited : 0 < s.cfg.nibOffUs.toNat)
    (due : b.idleSince + 1000 * s.cfg.nibOffUs.toNat ≤ s.now) : exec (.nibIdleToOff nib) s =
      .next (State.close s (s.modNib nib fun b => { Nib.reset with
        link := b.link, via := b.via, die := b.die, ports := b.ports, firstReport := b.firstReport, level := b.level
        increment := b.increment, lastBusy := b.lastBusy, meter := b.meter, purlMeter := b.purlMeter, up := b.up
        traceBuf := b.traceBuf, traceLoss := b.traceLoss })) := by
  simp only [exec, execNibIdleToOff, hb, if_pos (show _ ∧ _ ∧ _ ∧ _ ∧ _ ∧ _ from
    ⟨present, idle, taskless, heard, limited, due⟩), done]

/-! ## The Hub -/

/-- R461: an idle ACTIVE Hub dozes after its time, or at once after a brief wake. -/
theorem hubDozeEntry_of_idle (active : s.power.hub = .active) (limited : s.cfg.dozeUs ≠ 0) (idle : s.hubIdle = true)
    (due : s.power.brief = true ∨ s.power.since + 1000 * s.cfg.dozeUs.toNat ≤ s.now) : exec .hubDozeEntry s =
      .next (State.close s { s with power := { s.power with hub := .doze, since := s.now, brief := false } }) :=
  if_pos ⟨active, fun zero => limited (BitVec.eq_of_toNat_eq zero), idle, due⟩

/-- R461: a time of 0 keeps the Hub ACTIVE. -/
theorem hubDozeEntry_of_unlimited (unlimited : s.cfg.dozeUs = 0) : exec .hubDozeEntry s = .next s :=
  if_neg fun ⟨_, limited, _⟩ => limited (congrArg BitVec.toNat unlimited)

/-- R461: a Hub in DOZE sleeps after its time, with every Nib OFF and no watch slot in use. -/
theorem hubSleepEntry_of_due (dozing : s.power.hub = .doze) (limited : s.cfg.sleepUs ≠ 0)
    (off : ∀ b ∈ s.nibs, b.present = true → b.power = .off) (unwatched : s.sync.watches = [])
    (due : s.power.since + 1000 * s.cfg.sleepUs.toNat ≤ s.now) : exec .hubSleepEntry s =
      .next (State.close s { s with power := { s.power with hub := .sleep, since := s.now } }) := by
  have allOff : (s.nibs.all fun b => !b.present || b.power == .off) = true := by
    refine List.all_eq_true.mpr fun b mem => ?_
    cases present : b.present with
    | false => rfl
    | true => simp [off b mem present]
  exact if_pos ⟨dozing, fun zero => limited (BitVec.eq_of_toNat_eq zero), allOff, List.isEmpty_iff.mpr unwatched, due⟩

/-- R461: a doorbell, a held access, a watch slot's poll or an alignment round wakes the Hub. -/
theorem State.wakeCause_iff : s.wakeCause = true ↔
    s.bells.catcher ≠ [] ∨ s.htp.held ≠ [] ∨ (s.sync.due s.aoNow).isSome = true ∨ s.roundDue = true := by
  simp [State.wakeCause, or_assoc]

/-- R71, R461: the Hub that wakes is ACTIVE, its held accesses taken out to be served. -/
def State.woken (s : State) : State :=
  { s with
    power := { s.power with hub := .active, since := s.now, brief := s.bells.catcher.isEmpty && s.htp.held.isEmpty }
    htp := { s.htp with held := [] } }

/-- R71, R461: a cause wakes the Hub, which serves the accesses it held in order. -/
theorem hubWake_of_cause (asleep : s.awake = false) (cause : s.wakeCause = true) :
    exec .hubWake s = .next (s.endsQuiet (s.htp.held.foldl State.hostAccess s.woken)) :=
  if_pos ⟨Bool.eq_false_iff.mp asleep, cause⟩

end Sys2Proof.Machine

open Sys2Proof Sys2Proof.Machine

/-- Settles O58: each command's conditions are met, so it comes to the branch that its rule names. -/
theorem powerStates : Obligations.PowerStates := by
  intro s l group level trim nib probes r b w rest t0
  refine ⟨fun hr => ⟨powerStepAck_of_requested hr, fun unrequested other => ?learns, fun unrequested primary => ?ignores,
      powerStepRetry_of_unanswered hr⟩, nclkChange_of_sealed, wakeRelease_of_due,
    fun hb present waking fits sealed hr => ⟨nibWakeDone_of_round hb present waking fits sealed hr, fun c hc e he =>
      Nib.closedCores_closed hc he⟩,
    fun hb present awake closed due => eqOpen_of_due hb present awake closed (State.mayOpen_of_due due),
    fun hb present idle taskless heard limited due =>
      ⟨nibIdleToOff_of_due hb present idle taskless heard limited due, rfl, rfl, rfl, rfl⟩,
    hubDozeEntry_of_idle, hubDozeEntry_of_unlimited, hubSleepEntry_of_due,
    fun asleep cause => hubWake_of_cause asleep (State.wakeCause_iff.mpr cause)⟩
  case learns => rw [powerStepAck_of_unrequested hr unrequested, if_neg (Bool.eq_false_iff.mp other)]
  case ignores => rw [powerStepAck_of_unrequested hr unrequested, if_pos primary]

end

section
/-! The Interrupt Gatherer's eligibility, outputs and reset (R406, R415). -/

namespace Sys2Proof.Machine

open Sys2Proof

/-- What a key reads as is listed under it. -/
theorem mem_of_tget {α : Type} {l : Tbl α} {n : Nat} {a : α} (h : tget l n = some a) : (n, a) ∈ l := by
  induction l with
  | nil => cases h
  | cons e l ih =>
    obtain ⟨k, b⟩ := e
    rw [tget] at h
    split at h
    · next same =>
      subst same
      cases h
      exact List.mem_cons_self
    · exact List.mem_cons_of_mem _ (ih h)

/-- R406: the three conditions of eligibility. -/
theorem Iga.eligible_iff {g : Iga} {n t : Nat} : g.eligible n t = true ↔
    g.stateOf n = .pending ∧ (g.cfgOf n).targets.getLsbD t = true ∧ tgetD g.thresholds t 0 < (g.cfgOf n).priority := by
  simp [Iga.eligible, Iga.admits]

/-- R406: a PRIORITY of 0 is never delivered. -/
theorem Iga.not_eligible_of_priority_zero {g : Iga} {n : Nat} (t : Nat) (zero : (g.cfgOf n).priority = 0) :
    g.eligible n t = false := by
  refine Bool.eq_false_iff.mpr fun h => ?_
  obtain ⟨-, -, above⟩ := Iga.eligible_iff.mp h
  omega

/-- A source that is not IDLE is listed. -/
theorem Iga.mem_states_of_stateOf {g : Iga} {n : Nat} (h : g.stateOf n ≠ .idle) : (n, g.stateOf n) ∈ g.states := by
  refine mem_of_tget ?_
  cases listed : tget g.states n with
  | none => exact absurd (by simp [Iga.stateOf, tgetD, listed]) h
  | some st => simp [Iga.stateOf, tgetD, listed]

theorem Iga.mem_states_of_eligible {g : Iga} {n t : Nat} (h : g.eligible n t = true) : (n, g.stateOf n) ∈ g.states := by
  obtain ⟨pending, -, -⟩ := Iga.eligible_iff.mp h
  exact Iga.mem_states_of_stateOf (by simp [pending])

/-- R406: an output is high exactly while a source is eligible for its target. -/
theorem Iga.out_iff {g : Iga} {t : Nat} : g.out t = true ↔ ∃ m, g.eligible m t = true := by
  refine List.any_eq_true.trans ⟨?_, ?_⟩
  · rintro ⟨e, -, h⟩
    exact ⟨e.1, h⟩
  · rintro ⟨m, h⟩
    exact ⟨_, Iga.mem_states_of_eligible h, h⟩

/-- R415: no output is high before a priority is programmed. -/
theorem Iga.out_of_priorities_zero {g : Iga} (t : Nat) (zero : ∀ n, (g.cfgOf n).priority = 0) : g.out t = false := by
  refine Bool.eq_false_iff.mpr fun high => ?_
  obtain ⟨m, h⟩ := Iga.out_iff.mp high
  exact Bool.eq_false_iff.mp (Iga.not_eligible_of_priority_zero t (zero m)) h

end Sys2Proof.Machine

open Sys2Proof Sys2Proof.Machine

/-- Settles O7: the reset values are those of R416, and without a priority no source is eligible. -/
theorem gathererAtReset : Obligations.GathererAtReset := by
  refine ⟨fun b => ?_, fun g t => Iga.out_of_priorities_zero t⟩
  have unset : ∀ n, ((State.resetOf b).iga.cfgOf n).priority = 0 := fun _ => rfl
  exact ⟨fun n => ⟨rfl, unset n, rfl⟩, rfl, rfl, rfl, rfl, rfl, rfl, rfl, fun t => Iga.out_of_priorities_zero t unset⟩

/-- Settles O8: the rule of eligibility, and an output is high for a listed source, as every eligible one is. -/
theorem eligibilityRule : Obligations.EligibilityRule := fun _ _ t =>
  ⟨Iga.eligible_iff, Iga.not_eligible_of_priority_zero t, Iga.out_iff⟩

end

section
/-! Claims, completes and software sources of the Interrupt Gatherer (R402, R405, R407, R408, R410, R416). -/

namespace Sys2Proof.Machine

open Sys2Proof

/-! ## The source that a claim returns -/

/-- The sources that a claim of a target chooses from, in the order of the Gatherer's list. -/
def Iga.candidates (g : Iga) (t : Nat) : List Nat := (g.states.map Prod.fst).filter (g.eligible · t)

theorem Iga.mem_candidates {g : Iga} {k t : Nat} : k ∈ g.candidates t ↔ g.eligible k t = true :=
  List.mem_filter.trans
    ⟨And.right, fun h => ⟨List.mem_map.mpr ⟨_, Iga.mem_states_of_eligible h, rfl⟩, h⟩⟩

/-- The better of the source found so far and the next of the list: a later one must have a higher PRIORITY. -/
def Iga.pick (g : Iga) : Option Nat → Nat → Option Nat
  | none, n => some n
  | some m, n => some (if (g.cfgOf m).priority < (g.cfgOf n).priority then n else m)

/-- A claim's source is picked from the candidates one by one. -/
theorem Iga.best_eq_foldl_pick (g : Iga) (t : Nat) : g.best t = (g.candidates t).foldl g.pick none := by
  rw [Iga.candidates, List.filter_map, List.foldl_map]
  refine congrArg (fun op => List.foldl op none _) ?_
  funext b e
  cases b with
  | none => rfl
  | some m => exact (apply_ite some _ _ _).symm

/-- `m` is the source of a list that R407 returns: of the highest PRIORITY, and the lowest number among equals where the list
ascends. -/
structure Iga.Picks (g : Iga) (l : List Nat) (m : Nat) : Prop where
  mem : m ∈ l
  highest : ∀ k ∈ l, (g.cfgOf k).priority ≤ (g.cfgOf m).priority
  lowest : l.Pairwise (· < ·) → ∀ k ∈ l, (g.cfgOf k).priority = (g.cfgOf m).priority → m ≤ k

/-- One more source, at the end of the list. -/
theorem Iga.Picks.concat {g : Iga} {l : List Nat} {m : Nat} (h : g.Picks l m) (n : Nat) :
    g.Picks (l ++ [n]) (if (g.cfgOf m).priority < (g.cfgOf n).priority then n else m) := by
  obtain ⟨mem, highest, lowest⟩ := h
  split
  · next higher =>
    refine ⟨by simp, fun k hk => ?_, fun _ k hk equal => ?_⟩
    all_goals rcases List.mem_append.mp hk with hk | hk
    · exact Nat.le_of_lt (Nat.lt_of_le_of_lt (highest k hk) higher)
    · exact Nat.le_of_eq (by rw [List.mem_singleton.mp hk])
    · have := highest k hk
      omega
    · exact Nat.le_of_eq (List.mem_singleton.mp hk).symm
  · next notHigher =>
    refine ⟨List.mem_append_left _ mem, fun k hk => ?_, fun ascends k hk equal => ?_⟩
    all_goals rcases List.mem_append.mp hk with hk | hk
    · exact highest k hk
    · rw [List.mem_singleton.mp hk]
      exact Nat.le_of_not_lt notHigher
    · exact lowest (List.pairwise_append.mp ascends).1 k hk equal
    · obtain ⟨-, -, before⟩ := List.pairwise_append.mp ascends
      exact Nat.le_of_lt (before m mem k hk)

theorem Iga.Picks.foldl_pick {g : Iga} (rest : List Nat) {l : List Nat} {m : Nat} (h : g.Picks l m) :
    ∃ r, rest.foldl g.pick (some m) = some r ∧ g.Picks (l ++ rest) r := by
  induction rest generalizing l m with
  | nil => exact ⟨m, rfl, by rwa [List.append_nil]⟩
  | cons n rest ih =>
    obtain ⟨r, fold, picks⟩ := ih (h.concat n)
    exact ⟨r, fold, by rwa [List.append_assoc] at picks⟩

/-- R407: a claim of a target finds a source where there is a candidate, and the one it finds is R407's. -/
theorem Iga.best_cases (g : Iga) (t : Nat) :
    (g.best t = none ∧ g.candidates t = []) ∨ ∃ m, g.best t = some m ∧ g.Picks (g.candidates t) m := by
  rw [Iga.best_eq_foldl_pick]
  cases g.candidates t with
  | nil => exact .inl ⟨rfl, rfl⟩
  | cons n rest =>
    have first : g.Picks [n] n :=
      ⟨List.mem_singleton.mpr rfl, fun k hk => Nat.le_of_eq (by rw [List.mem_singleton.mp hk]),
        fun _ k hk _ => Nat.le_of_eq (List.mem_singleton.mp hk).symm⟩
    exact .inr (first.foldl_pick rest)

theorem Iga.not_eligible_of_best_none {g : Iga} {t : Nat} (h : g.best t = none) (k : Nat) : g.eligible k t = false := by
  rcases g.best_cases t with ⟨-, empty⟩ | ⟨m, found, -⟩
  · refine Bool.eq_false_iff.mpr fun hk => ?_
    have listed := Iga.mem_candidates.mpr hk
    rw [empty] at listed
    cases listed
  · rw [h] at found
    cases found

theorem Iga.picks_of_best {g : Iga} {t m : Nat} (h : g.best t = some m) : g.Picks (g.candidates t) m := by
  rcases g.best_cases t with ⟨nothing, -⟩ | ⟨n, found, picks⟩
  · rw [h] at nothing
    cases nothing
  · rw [h] at found
    cases found
    exact picks

/-! ## Its registers at the port -/

variable {s : State} {agent off : Nat}

/-- The block has no register of 64 bits, and none ends where it begins. -/
theorem reg64_eq_none_of_iga (s : State) (lower : 0x1FFFC ≤ off) (upper : off < 0x30000) : s.reg64 off = none := by
  simp (disch := omega) only [State.reg64, if_neg, ite_self]

/-- The registers of the targets are assigned (R416). -/
theorem assignedWord_of_target (lower : 0x24000 ≤ off) (upper : off < 0x24200) : assignedWord off = true := by
  have block : off / 0x10000 = 2 := by omega
  have inside : 0x4000 ≤ off % 0x10000 ∧ off % 0x10000 < 0x4200 := by omega
  simp [assignedWord, block, inside]

/-- A 32-bit read of an assigned register of width 32 is answered its value, and has its effect (R15, R67, R498). -/
theorem hostAccess_read4 (hs : s.serves) (h64 : s.reg64 off = none) (h64' : s.reg64 (off - 4) = none)
    (aligned : off % 4 = 0) (assigned : assignedWord off = true) (block : off < 0xA0000)
    (outside : off < 0x11000 ∨ 0x12000 ≤ off) : s.hostAccess (read4 agent off) =
      (s.readEffect agent off).respond (read4 agent off) false (inLanes off (leBytes 4 (s.reg32 agent off))) := by
  have assignedHere : assignedByte off = true := by
    rwa [assignedByte, if_pos block, show off / 4 * 4 = off by omega]
  have someAssigned : ¬((List.range 4).all fun i => !assignedByte (off + i)) = true := by
    simp [List.range_succ, assignedHere]
  have notData : ¬(0x11000 ≤ off ∧ off < 0x12000) := by omega
  have accepts : accepted off 4 = true := by
    simp [accepted, aligned, show off < 0x100000 by omega]
  have registers : off < 0x100000 := by omega
  rw [hostAccess_of_serves hs]
  obtain ⟨-, -, -, primary⟩ := hs
  simp only [State.serveAccess, read4, accessBytes, if_neg someAssigned, accepts, primary, not_true_eq_false, if_false,
    Bool.false_eq_true, State.serveRead, if_neg notData, if_pos registers, State.readRegs, if_true, State.read32, h64, h64',
    assignedHere]

/-- A write command of a register of the block comes to the block's own write (R416). -/
theorem hostDone_write4_iga {o : Nat} (hs : s.serves) (v : W32) (aligned : o % 4 = 0)
    (assigned : assignedWord (0x20000 + o) = true) (inside : o < 0x10000) :
    hostDone s (write4 agent (0x20000 + o) v) = .next (s.ends (s.writeIga o v.toNat)) := by
  obtain ⟨refOk, notTest, awake, primary⟩ := hs
  have port := hostAccess_write4 s agent (0x20000 + o) v refOk notTest awake primary
    (reg64_eq_none_of_iga s (by omega) (by omega)) (reg64_eq_none_of_iga s (by omega) (by omega)) (by omega) assigned
    (by omega) (.inr (by omega))
  have block : (0x20000 + o) / 0x10000 = 2 := by omega
  have offset : (0x20000 + o) % 0x10000 = o := by omega
  simp only [hostDone, port, State.write32, block, offset]
  rfl

/-! ## Claims -/

/-- A record leaves the Gatherer as it is. -/
@[simp] theorem State.record_iga (s : State) (unit typ payload : Nat) : (s.record unit typ payload).iga = s.iga :=
  s.recordAs_iga unit typ s.aoNow payload false (!s.awake)

/-- A record leaves the queues as they are. -/
@[simp] theorem State.record_queues (s : State) (unit typ payload : Nat) : (s.record unit typ payload).queues = s.queues :=
  s.recordAs_queues unit typ s.aoNow payload false (!s.awake)

/-- R410: the Gatherer with a target's WITHDRAWN flag cleared. -/
def Iga.unflag (g : Iga) (t : Nat) : Iga := { g with withdrawn := g.withdrawn.filter (· != t) }

/-- R405, R407, R322: a claim that finds a source. -/
theorem State.claim_of_best {t m : Nat} (h : s.iga.best t = some m) : s.claim t =
    (m, { s.record unitIga 0x0D (m + 2 ^ 10 * t) with
      iga := (s.iga.unflag t).setState m (.inService t)
      queues := tmap s.queues fun _ x => if x.irqSource = m then { x with irqPending := false } else x }) := by
  simp only [State.claim, Iga.claimValue, h, State.clearBound, State.record_iga, State.record_queues]
  rfl

/-- R407, R410: a claim that finds none. -/
theorem State.claim_of_none {t : Nat} (h : s.iga.best t = none) : s.claim t =
    let v := if s.iga.compat = true ∧ s.iga.withdrawn.contains t = true then 0x3FE else 0x3FF
    (v, { s.record unitIga 0x0D (v + 2 ^ 10 * t) with iga := s.iga.unflag t }) := by
  simp only [State.claim, Iga.claimValue, h, State.record_iga]
  rfl

/-- A claim answers the value that the target's claim register shows. -/
theorem State.claim_fst (s : State) (t : Nat) : (s.claim t).1 = s.iga.claimValue t := by
  unfold State.claim
  split <;> rfl

/-- R407: the register of a target's claims reads as its claim answers. -/
theorem State.reg32_claim (s : State) {t : Nat} (ht : t < 32) : s.reg32 agent (0x24004 + 0x10 * t) = (s.claim t).1 := by
  have block : (0x24004 + 0x10 * t) / 0x10000 = 2 := by omega
  have offset : (0x24004 + 0x10 * t) % 0x10000 = 0x4004 + 0x10 * t := by omega
  have target : (0x4004 + 0x10 * t - 0x4000) / 0x10 = t := by omega
  have which : (0x4004 + 0x10 * t) % 0x10 = 4 := by omega
  rw [State.claim_fst]
  simp (disch := omega) only [State.reg32, block, offset, State.readIga, if_neg, if_pos, if_true, which, target]

/-- R407: a read of it claims. -/
theorem State.readEffect_claim (lower : 0x24004 ≤ off) (upper : off < 0x24200) (which : off % 0x10 = 4) :
    s.readEffect agent off = (s.claim ((off - 0x24000) / 0x10)).2 := by
  unfold State.readEffect
  split
  case h_18 => exact if_pos ⟨lower, upper, which⟩
  all_goals omega

/-- R407: the command of a claim read. -/
theorem igaClaim_of_serves (hs : s.serves) {t : Nat} (ht : t < 32) : exec (.igaClaim agent t) s =
    .next (s.ends ((s.claim t).2.respond (read4 agent (0x24004 + 0x10 * t)) false
      (inLanes (0x24004 + 0x10 * t) (leBytes 4 (s.claim t).1)))) := by
  have assigned := assignedWord_of_target (off := 0x24004 + 0x10 * t) (by omega) (by omega)
  have address : 0x24004 + t % 32 * 0x10 = 0x24004 + 0x10 * t := by omega
  have target : (0x24004 + 0x10 * t - 0x24000) / 0x10 = t := by omega
  have port := hostAccess_read4 (agent := agent) hs (reg64_eq_none_of_iga s (by omega) (by omega))
    (reg64_eq_none_of_iga s (by omega) (by omega)) (by omega) assigned (by omega) (.inr (by omega))
  rw [State.readEffect_claim (by omega) (by omega) (by omega), target, State.reg32_claim s ht] at port
  simp only [exec, execIgaClaim, address, hostDone, port]
  rfl

/-! ## Completes and software sources -/

section
variable {g : Iga} {n t : Nat} (source : n < 0x3FE)
include source

/-- R405, R408: a complete of a source in service of the target. -/
theorem Iga.complete_of_owner (h : g.stateOf n = .inService t) :
    g.complete n t = g.setState n (if g.levels.contains n then .pending else .idle) := by
  rw [Iga.complete, if_neg (by omega), h]
  exact if_pos rfl

/-- R408: a complete of a source in service of another target is a stray. -/
theorem Iga.complete_of_other {o : Nat} (h : g.stateOf n = .inService o) (other : o ≠ t) :
    g.complete n t = g.strayed n t true := by
  rw [Iga.complete, if_neg (by omega), h]
  exact if_neg other

/-- R408: a complete of a source not in service is a stray. -/
theorem Iga.complete_of_unclaimed (h : g.stateOf n = .idle ∨ g.stateOf n = .pending) :
    g.complete n t = g.strayed n t false := by
  rw [Iga.complete, if_neg (by omega)]
  rcases h with h | h <;> rw [h]

end

/-- R408: a complete that names no source is ignored. -/
theorem Iga.complete_of_no_source {g : Iga} {n t : Nat} (h : n = 0x3FE ∨ n = 0x3FF) : g.complete n t = g := if_pos h

/-- R408: the command of a complete. -/
theorem igaComplete_of_serves (hs : s.serves) {t : Nat} (ht : t < 32) (v : W32) : exec (.igaComplete agent t v) s =
    .next (s.ends { s with iga := s.iga.complete (bits v.toNat 9 0) t }) := by
  have assigned := assignedWord_of_target (off := 0x20000 + (0x4008 + 0x10 * t)) (by omega) (by omega)
  have address : 0x24008 + t % 32 * 0x10 = 0x20000 + (0x4008 + 0x10 * t) := by omega
  have target : (0x4008 + 0x10 * t - 0x4000) / 0x10 = t := by omega
  have which : (0x4008 + 0x10 * t) % 0x10 = 8 := by omega
  simp only [exec, execIgaComplete, address, hostDone_write4_iga hs v (by omega) assigned (by omega)]
  simp (disch := omega) only [State.writeIga, if_neg, if_pos, if_true, which, target]

/-- R402: a write of IGA_SW_SET raises the software sources of its 1 bits. -/
theorem igaSwSet_of_serves (hs : s.serves) (v : W32) : exec (.igaSwSet agent v) s =
    .next (s.ends { s with iga := { s.iga with sw := s.iga.sw ||| v.setWidth 16 } }) :=
  hostDone_write4_iga (o := 0x10) hs v rfl rfl (by decide)

/-- R402: a write of IGA_SW_CLR lowers the software sources of its 1 bits. -/
theorem igaSwClr_of_serves (hs : s.serves) (v : W32) : exec (.igaSwClr agent v) s =
    .next (s.ends { s with iga := { s.iga with sw := s.iga.sw &&& ~~~(v.setWidth 16) } }) :=
  hostDone_write4_iga (o := 0x14) hs v rfl rfl (by decide)

end Sys2Proof.Machine

open Sys2Proof Sys2Proof.Machine

/-- Settles O32: a claim read acts as its register does, which chooses by `Iga.best`, and each write comes to the block's own. -/
theorem interruptClaims : Obligations.InterruptClaims := by
  intro s agent t v hs ht g claimed flag rec_ n stray
  refine ⟨fun m best => ⟨Iga.mem_candidates.mp (Iga.picks_of_best best).mem,
      fun k hk => (Iga.picks_of_best best).highest k (Iga.mem_candidates.mpr hk),
      fun ascends k hk => (Iga.picks_of_best best).lowest (ascends.filter _) k (Iga.mem_candidates.mpr hk), ?found⟩,
    fun nothing => ⟨Iga.not_eligible_of_best_none nothing, fun withdrawn => ?withdrawn, fun kept => ?spurious⟩,
    fun source => ⟨fun owned => ?owned, fun o owned other => ?other, fun unclaimed => ?unclaimed⟩, fun reserved => ?ignored,
    igaSwSet_of_serves hs v, igaSwClr_of_serves hs v⟩
  case found =>
    rw [igaClaim_of_serves hs ht, State.claim_of_best best]
    rfl
  case withdrawn =>
    rw [igaClaim_of_serves hs ht, State.claim_of_none nothing, if_pos withdrawn]
    simp only [flag, rec_, State.record_iga]
    rfl
  case spurious =>
    rw [igaClaim_of_serves hs ht, State.claim_of_none nothing, if_neg kept]
    simp only [flag, rec_, State.record_iga]
    rfl
  case owned => rw [igaComplete_of_serves hs ht, Iga.complete_of_owner source owned]
  case other =>
    rw [igaComplete_of_serves hs ht, Iga.complete_of_other source owned other]
    rfl
  case unclaimed =>
    rw [igaComplete_of_serves hs ht, Iga.complete_of_unclaimed source unclaimed]
    rfl
  case ignored =>
    have below : n < 0x400 := Nat.mod_lt _ (by decide)
    rw [igaComplete_of_serves hs ht, Iga.complete_of_no_source (by omega)]

end

section
/-! What an effect, a record and a device fault leave of the mirror controller and the Fault Manager (R467, R468, R470, R478). -/

namespace Sys2Proof.Machine

open Sys2Proof

variable (s : State)

/-- An effect that leaves keeps the Hub's role: a message down Yarn changes the mirror log alone. -/
theorem State.release_role (e : Effect) : (s.release e).mir.role = s.mir.role := by
  cases e with
  | down sp m =>
    simp only [State.release, State.sendDown]
    split
    all_goals
      obtain ⟨spl, nibs, tr, h⟩ := State.passDown_eq (State.modSplitter _ sp _) sp
      rw [h]
      rfl
  | mem r => rfl
  | respond n command st bytes =>
    obtain ⟨tr, mbx, h⟩ := s.postResponse_eq n command st bytes
    simp only [State.release, h]
  | blot r => rfl
  | stamp unit typ payload => exact congrArg Mir.role (s.recordAs_mir unit typ _ payload false _)
  | xic itag => rfl
  | levels high => rfl

theorem State.release_ctxs (e : Effect) : (s.release e).ctxs = s.ctxs := by
  obtain ⟨_, _, _, _, _, _, _, _, _, h⟩ := s.release_eq e
  rw [h]

theorem State.emit_role (e : Effect) : (s.emit e).mir.role = s.mir.role :=
  ite_keeps (fun t : State => t.mir.role) rfl (s.release_role e)

theorem State.blot_role (code : W16) (kind unit object : Nat) : (s.blot code kind unit object).mir.role = s.mir.role :=
  ite_keeps (fun t : State => t.mir.role) (State.emit_role _ _) rfl

theorem State.blot_primary (code : W16) (kind unit object : Nat) : (s.blot code kind unit object).primary = s.primary := by
  simp only [State.primary, State.blot_role]

/-- R468: only a primary writes the Blotter; another Hub's record is counted and leaves. -/
theorem State.blot_mir_of_other (other : s.primary = false) (code : W16) (kind unit object : Nat) :
    (s.blot code kind unit object).mir = s.mir := by
  have unwritten : ({ s with flt := { s.flt with seq := s.flt.seq + 1 } } : State).primary = false := other
  simp only [State.blot, unwritten, Bool.false_eq_true, if_false]

theorem Flt.hold_device (f : Flt) (r : BlotRec) : (f.hold r).device = f.device := ite_keeps Flt.device rfl rfl

/-- A Blotter record is held beside FLT_DEVICE, which it leaves. -/
theorem State.blot_device (code : W16) (kind unit object : Nat) :
    (s.blot code kind unit object).flt.device = s.flt.device := by
  have emitted (t : State) (r : BlotRec) : (t.emit (.blot r)).flt.device = t.flt.device :=
    ite_keeps (fun t : State => t.flt.device) rfl (Flt.hold_device _ _)
  exact ite_keeps (fun t : State => t.flt.device) (emitted _ _) rfl

end Sys2Proof.Machine

end

section
/-! The mirrored pair: records and their acknowledgements, claims and takeovers, copies and sweeps (R475 to R485, R520). -/

namespace Sys2Proof.Machine

open Sys2Proof

variable {s : State} {sp : Nat} {record : MirrorRecord}

/-! ## Acknowledgements and heartbeats of a mirrored primary -/

/-- R475: the state of a primary that goes on alone: what it held has left, and every record counts as acknowledged. -/
def State.wentAlone (s : State) : State :=
  let t := (s.setRole .primaryAlone).releaseHeld
  { t with mir := { t.mir with partnerOk := false, acked := t.mir.sent } }

theorem State.releaseHeld_role (s : State) : s.releaseHeld.mir.role = s.mir.role :=
  foldl_keeps (fun t : State => t.mir.role) (fun t _ => t.release_role _) _ _

theorem State.releaseHeld_ctxs (s : State) : s.releaseHeld.ctxs = s.ctxs :=
  foldl_keeps State.ctxs (fun t _ => t.release_ctxs _) _ _

section
variable (mirrored : s.mir.role = .primaryMirrored)
include mirrored

/-- R478: an acknowledgement releases, in order, what waited for its record. -/
theorem mirrorAckReceived_of_unacked (unacked : s.mir.acked < s.mir.sent) : exec .mirrorAckReceived s =
    .next (s.endsQuiet ((s.mir.held.filter fun h => decide (h.after ≤ s.mir.acked + 1)).foldl
      (fun t h => t.release h.what) { s with mir := { s.mir with
        acked := s.mir.acked + 1, partnerOk := true, linkUp := true, waitSince := s.now
        held := s.mir.held.filter fun h => decide (s.mir.acked + 1 < h.after) } })) :=
  if_pos ⟨mirrored, unacked⟩

/-- R475: a record unacknowledged for 50 µs ends the mirroring. -/
theorem mirrorAckTimeout_of_due (unacked : s.mir.acked < s.mir.sent) (due : s.mir.waitSince + 50000 ≤ s.now) :
    exec .mirrorAckTimeout s = .next (s.endsQuiet (s.wentAlone.faultDevice 3 Code.mirrorLost unitFm 0)) :=
  if_pos ⟨mirrored, unacked, due⟩

/-- R480, R520: a heartbeat goes every 5 µs while the Mirror Port is up. -/
theorem primaryHeartbeat_of_due (up : s.mir.linkUp = true) (due : s.mir.lastBeat + 5000 ≤ s.now) :
    exec .primaryHeartbeat s =
      .next (State.close s { s with mir := { s.mir with lastBeat := s.now, failoverReq := false } }) :=
  if_pos ⟨mirrored, up, due⟩

end

/-! ## Records received (R476, R481) -/

theorem State.foldl_partnerSent_eq (l : List DownSent) (s : State) : ∃ spl nibs tr seqs, l.foldl State.partnerSent s =
    { s with splitters := spl, nibs := nibs, trace := tr, mir := { s.mir with downSeq := seqs } } := by
  induction l generalizing s with
  | nil => exact ⟨s.splitters, s.nibs, s.trace, s.mir.downSeq, rfl⟩
  | cons d rest ih =>
    obtain ⟨spl, nibs, tr, seqs, h⟩ := ih (s.partnerSent d)
    rw [List.foldl_cons, h]
    simp only [State.partnerSent]
    split
    · obtain ⟨spl', nibs', tr', h'⟩ := State.passDown_eq (State.modSplitter _ d.splitter _) d.splitter
      rw [h']
      exact ⟨spl, nibs, tr, seqs, rfl⟩
    · exact ⟨spl, nibs, tr, seqs, rfl⟩

theorem State.foldl_partnerConfirmed_eq (l : List (Nat × Nat)) (s : State) :
    ∃ spl, l.foldl State.partnerConfirmed s = { s with splitters := spl } := by
  induction l generalizing s with
  | nil => exact ⟨s.splitters, rfl⟩
  | cons c rest ih =>
    obtain ⟨spl, h⟩ := ih (s.partnerConfirmed c)
    exact ⟨spl, h⟩

theorem State.takeDoorbell_eq (s : State) (d : HeldDoorbell) : ∃ bells, s.takeDoorbell d = { s with bells := bells } := by
  unfold State.takeDoorbell State.catchDoorbell
  split
  · split
    · exact ⟨_, rfl⟩
    · dsimp only
      split
      · exact ⟨_, rfl⟩
      · exact ⟨_, rfl⟩
  · exact ⟨_, rfl⟩

theorem State.catchHeld_eq (fuel : Nat) (s : State) : ∃ bells, State.catchHeld fuel s = { s with bells := bells } := by
  induction fuel generalizing s with
  | zero => exact ⟨s.bells, rfl⟩
  | succ fuel ih =>
    unfold State.catchHeld
    split
    · exact ⟨s.bells, rfl⟩
    · split
      · obtain ⟨bells, h⟩ := ih _
        obtain ⟨bells', h'⟩ := State.takeDoorbell_eq _ _
        exact ⟨bells, by rw [h, h']⟩
      · exact ⟨s.bells, rfl⟩

/-- The mirrored state of a record in place, with the images of the primary that a follower takes. -/
def State.mirroring (s : State) (m : Mirrored) : State := (s.applyMirrored m).applyImages m.firmware.images

/-- The catcher without the doorbells that the primary took. -/
def Bells.dropTaken (b : Bells) (took : List (Nat × Nat × W32)) : Bells :=
  { b with catcher := b.catcher.filter fun d =>
      !took.any fun k => k.1 == d.page && k.2.1 == d.index && k.2.2 == d.tail }

/-- A record applied, but for the doorbells that its room in the catcher lets in. -/
def State.taking (s : State) (record : MirrorRecord) : State :=
  let t := record.confirmed.foldl State.partnerConfirmed
    (record.after.downLog.foldl State.partnerSent (s.mirroring record.after))
  { t with
    bells := t.bells.dropTaken record.took
    mir := { t.mir with partnerOk := true, linkUp := true, lastBeat := t.now } }

/-- A record applied. -/
def State.took (s : State) (record : MirrorRecord) : State :=
  State.catchHeld (s.taking record).bells.held.length (s.taking record)

/-- R475, R476: a Hub that copies or follows applies the records of its primary. -/
theorem mirrorRecordReceived_of_mirror (mirrors : s.mir.role = .syncing ∨ s.mir.role = .following) :
    exec (.mirrorRecordReceived record) s = .next (State.close s (s.took record)) := if_pos mirrors

/-- R475, R486: a follower takes its primary's images and exchange with the mirrored state; a Hub that copies keeps its own. -/
theorem State.mirroring_eq (s : State) (m : Mirrored) : ∃ image staged exchange version last cpb iga,
    s.mirroring m = { s.applyMirrored m with
      mgmt := { (s.applyMirrored m).mgmt with
        image := image, staged := staged, exchange := exchange, fwVersion := version, lastExchange := last }
      cpb := cpb, iga := iga } ∧
    (s.mir.role = .following → image = m.firmware.images.image ∧ exchange = m.firmware.images.exchange ∧
      version = m.firmware.images.version) ∧
    (s.mir.role ≠ .following → version = s.mgmt.fwVersion) := by
  by_cases follows : s.mir.role = .following
  · exact ⟨_, _, _, _, _, _, _, if_pos follows, fun _ => ⟨rfl, rfl, rfl⟩, absurd follows⟩
  · exact ⟨s.mgmt.image, s.mgmt.staged, s.mgmt.exchange, s.mgmt.fwVersion, s.mgmt.lastExchange, s.cpb, (s.applyMirrored m).iga,
      if_neg follows, fun h => absurd h follows, fun _ => rfl⟩

theorem State.taking_eq (s : State) (record : MirrorRecord) : ∃ spl nibs tr seqs, s.taking record =
    { s.mirroring record.after with
      splitters := spl, nibs := nibs, trace := tr
      bells := (s.mirroring record.after).bells.dropTaken record.took
      mir := { (s.mirroring record.after).mir with
        downSeq := seqs, partnerOk := true, linkUp := true, lastBeat := (s.mirroring record.after).now } } := by
  obtain ⟨spl, nibs, tr, seqs, sent⟩ := State.foldl_partnerSent_eq record.after.downLog (s.mirroring record.after)
  obtain ⟨spl', confirmed⟩ := State.foldl_partnerConfirmed_eq record.confirmed
    (record.after.downLog.foldl State.partnerSent (s.mirroring record.after))
  exact ⟨spl', nibs, tr, seqs, by rw [State.taking, confirmed, sent]; rfl⟩

/-- What a record leaves of its receiver: its bells, its links and its messages follow from the mirrored state. -/
theorem State.took_eq (s : State) (record : MirrorRecord) : ∃ spl nibs tr seqs bells, s.took record =
    { s.mirroring record.after with
      splitters := spl, nibs := nibs, trace := tr, bells := bells
      mir := { (s.mirroring record.after).mir with
        downSeq := seqs, partnerOk := true, linkUp := true, lastBeat := (s.mirroring record.after).now } } := by
  obtain ⟨spl, nibs, tr, seqs, taking⟩ := s.taking_eq record
  obtain ⟨bells, caught⟩ := State.catchHeld_eq (s.taking record).bells.held.length (s.taking record)
  exact ⟨spl, nibs, tr, seqs, bells, by rw [State.took, caught, taking]⟩

theorem State.mirroring_bells (s : State) (m : Mirrored) : (s.mirroring m).bells = { s.bells with binds := m.binds } :=
  ite_keeps State.bells rfl rfl

theorem Bells.mem_dropTaken {b : Bells} {took : List (Nat × Nat × W32)} {d : Doorbell} (h : d ∈ (b.dropTaken took).catcher) :
    d ∈ b.catcher ∧ (d.page, d.index, d.tail) ∉ took := by
  obtain ⟨caught, kept⟩ := List.mem_filter.mp h
  refine ⟨caught, fun taken => ?_⟩
  rw [Bool.not_eq_true', List.any_eq_false] at kept
  simpa using kept _ taken

/-- R481: with no doorbell held on the channel the catcher keeps what the primary has not taken, and nothing else. -/
theorem State.took_catcher (free : s.bells.held = []) {d : Doorbell} (h : d ∈ (s.took record).bells.catcher) :
    d ∈ s.bells.catcher ∧ (d.page, d.index, d.tail) ∉ record.took := by
  obtain ⟨spl, nibs, tr, seqs, taking⟩ := s.taking_eq record
  have bells : (s.taking record).bells = Bells.dropTaken { s.bells with binds := record.after.binds } record.took := by
    rw [taking, ← State.mirroring_bells]
  have none_held : (s.taking record).bells.held = [] := by rw [bells]; exact free
  rw [State.took, none_held, List.length_nil, State.catchHeld, bells] at h
  exact Bells.mem_dropTaken h

/-! ## Keepalives (R479) -/

/-- What a splitter has heard of its primary. -/
def State.heardAt (sp : Nat) (s : State) : Option Nat := (s.splitters[sp]?).map Splitter.heard

theorem State.modSplitter_heardAt {f : Splitter → Splitter} (keeps : ∀ x, (f x).heard = x.heard) (s : State) (i : Nat) :
    (s.modSplitter i f).heardAt sp = s.heardAt sp := by
  by_cases here : sp = i
  · subst here
    simp only [State.heardAt, State.modSplitter_splitters, getElem?_lmod_self, Option.map_map]
    exact congrArg (Option.map · _) (funext keeps)
  · simp only [State.heardAt, State.modSplitter_splitters, getElem?_lmod_of_ne _ _ here]

theorem State.splitterUp_heardAt (s : State) (i : Nat) (m : UpMsg) : (s.splitterUp i m).heardAt sp = s.heardAt sp := by
  refine State.modSplitter_heardAt (fun x => ?_) s i
  split <;> rfl

theorem State.passUpN_heardAt (fuel : Nat) (s : State) (n : Nat) : (State.passUpN fuel s n).heardAt sp = s.heardAt sp := by
  induction fuel generalizing s with
  | zero => rfl
  | succ fuel ih =>
    unfold State.passUpN
    split
    · split
      · split
        · rfl
        · rw [ih, State.splitterUp_heardAt]
          rfl
      · rfl
    · rfl

theorem State.passUp_heardAt (s : State) (n : Nat) : (s.passUp n).heardAt sp = s.heardAt sp := by
  unfold State.passUp
  split
  · exact State.passUpN_heardAt _ s n
  · rfl

/-- R479: a splitter whose link is up and that has heard nothing for 2 µs hears of its primary. -/
theorem primaryConfirm_of_due {x : Splitter} (mirrored : s.build.mirrored = true) (primary : s.primary = true)
    (awake : s.awake = true) (hx : s.splitters[sp]? = some x) (up : x.link = .up) (due : x.heard + 2000 ≤ s.now) :
    ∃ t : State, exec .primaryConfirm s = .next (State.close s t) ∧ t.heardAt sp = some s.now := by
  have asked : (s.splitters.any fun x => x.link == .up && decide (x.heard + 2000 ≤ s.now)) = true :=
    List.any_eq_true.mpr ⟨x, List.mem_of_getElem? hx, by simp [up, due]⟩
  have runs : exec .primaryConfirm s = _ := if_pos ⟨mirrored, primary, awake, asked⟩
  rw [runs]
  split
  · refine ⟨_, rfl, ?_⟩
    simp [State.heardAt, hx, up]
  · refine ⟨_, rfl, ?_⟩
    rw [foldl_keeps (State.heardAt sp) State.passUp_heardAt]
    simp [State.heardAt, hx, Splitter.confirm, up]

/-- R520: the Mirror Port has fallen. -/
theorem mirrorLinkDown_of_mirrored (mirrored : s.build.mirrored = true) : exec .mirrorLinkDown s =
    .next (State.close s { s with mir := { s.mir with linkUp := false, partnerOk := false } }) := if_pos mirrored

/-! ## Claims and takeovers (R475, R479, R482, R484) -/

section
variable (follows : s.mir.role = .following)
include follows

/-- R480: a primary silent for 50 µs is claimed from. -/
theorem heartbeatTimeout_of_due (due : s.mir.lastBeat + 50000 ≤ s.now) :
    exec .heartbeatTimeout s = .next (State.close s (s.claimSplitters 1 s.mir.lastBeat)) := if_pos ⟨follows, due⟩

/-- R485: a primary that asks for it is claimed from, with its cause. -/
theorem failoverReqReceived_of_cause {cause : Nat} (detected : Nat) (least : 2 ≤ cause) (most : cause ≤ 4) :
    exec (.failoverReqReceived cause detected) s = .next (State.close s (s.claimSplitters cause detected)) :=
  if_pos ⟨follows, least, most⟩

end

section
variable (claims : s.mir.role = .claiming)
include claims

/-- R479: a splitter whose primary has released it, or has been silent for 20 µs, grants. -/
theorem splitterTakeoverRequest_grants {released : Bool} {silentNs : Nat} (asked : s.mir.asked.contains sp = true)
    (free : released = true ∨ 20000 ≤ silentNs) : exec (.splitterTakeoverRequest sp silentNs released) s =
      .next (State.close s (State.modSplitter { s with mir := { s.mir with
        asked := s.mir.asked.filter (· != sp), granted := sp :: s.mir.granted } } sp fun x =>
          { x with primaryPeer := false, released := false })) :=
  (if_pos ⟨claims, asked⟩).trans (if_pos free)

/-- R479: any other splitter refuses. -/
theorem splitterTakeoverRequest_refuses {released : Bool} {silentNs : Nat} (asked : s.mir.asked.contains sp = true)
    (kept : released = false) (heard : silentNs < 20000) : exec (.splitterTakeoverRequest sp silentNs released) s =
      .next (State.close s { s with mir := { s.mir with
        asked := s.mir.asked.filter (· != sp), refused := sp :: s.mir.refused } }) := by
  have held : ¬(released = true ∨ 20000 ≤ silentNs) := by simp [kept, heard]
  exact (if_pos ⟨claims, asked⟩).trans (if_neg held)

/-- R484: a splitter that has answered nothing for 10 µs is lost, here one on which no Nib hangs. -/
theorem splitterGrantTimeout_of_alone (asked : s.mir.asked.contains sp = true) (due : s.mir.claimedAt + 10000 ≤ s.now)
    (alone : ∀ b ∈ s.nibs, b.via ≠ sp) : exec (.splitterGrantTimeout sp) s = .next (State.close s
      (State.modSplitter { s with mir := { s.mir with asked := s.mir.asked.filter (· != sp) } } sp fun x =>
        { x with link := .absent, down := [], up := [] })) := by
  have lost : exec (.splitterGrantTimeout sp) s = .next (State.close s ((s.nibsVia sp).foldl (fun t n => t.nibLost n 1)
      (State.modSplitter { s with mir := { s.mir with asked := s.mir.asked.filter (· != sp) } } sp fun x =>
        { x with link := .absent, down := [], up := [] }))) := if_pos ⟨claims, asked, due⟩
  rw [lost, State.nibsVia_eq_nil alone, List.foldl_nil]

/-- R475: a refusal detaches the claimer. -/
theorem takeoverRefused_of_refused (refused : s.mir.refused.contains sp = true) : exec (.takeoverRefused sp) s =
    .next (State.close s ((s.mirrorRecord .claiming .detached).setRole .detached)) := if_pos ⟨claims, refused⟩

/-- R482: with every grant in and no refusal the Hub takes over. -/
theorem takeover_of_granted (answered : s.mir.asked = []) (granted : s.mir.refused = []) :
    let t := (State.takenOver { s with mir := { s.mir with
      role := .primaryAlone, failovers := sat32 s.mir.failovers 1, lastFailover := BitVec.ofNat 64 s.now
      interruptNs := BitVec.ofNat 32 (min (s.now - s.mir.lastBeat) 0xFFFFFFFF), failoverSource := true
      granted := [], held := [], acked := s.mir.sent } }).mirrorRecord .claiming .primaryAlone
    exec .takeover s = .next (s.endsQuiet (if s.mir.cause = 4 then t.recovered 4 0 Code.ok else t)) :=
  if_pos ⟨claims, answered, granted⟩

end

/-- R475: a Hub that has yielded learns that its partner has taken over. -/
theorem partnerTakeoverSeen_of_yielded (yielded : s.mir.role = .yielded) : exec .partnerTakeoverSeen s =
    .next (State.close s { s with
      splitters := s.splitters.map fun x => { x with primaryPeer := true, released := false }
      mir := { s.mir with role := .detached, failoverReq := false } }) := if_pos yielded

/-! ## Copies (R475) -/

section
variable {digest : BitVec 384} {version : W16} (running : s.cpb.state = .running)
include running

section
variable (differs : ¬(digest = s.cpb.patchDigest ∧ version = s.mgmt.fwVersion)) (sweepPassed : Bool)
include differs

/-- R475: a Hub that copies flags images that are not its own. -/
theorem bulkCopyDone_syncing_of_differs (syncs : s.mir.role = .syncing) :
    exec (.bulkCopyDone digest version sweepPassed) s =
      .next (State.close s (State.mirrorRecord { s with mir := { s.mir with mismatch := true } } .syncing .syncing)) := by
  have differ : ¬(digest == s.cpb.patchDigest && version == s.mgmt.fwVersion) = true := by simpa using differs
  exact (if_neg (not_not_intro running)).trans ((if_pos syncs).trans (if_pos differ))

/-- R468: the primary writes the record of a partner whose images differ. -/
theorem bulkCopyDone_alone_of_differs (alone : s.mir.role = .primaryAlone) (mirrored : s.build.mirrored = true) :
    exec (.bulkCopyDone digest version sweepPassed) s = .next (State.close s (s.followerRecord .syncing .syncing)) := by
  have differ : ¬(digest == s.cpb.patchDigest && version == s.mgmt.fwVersion) = true := by simpa using differs
  have other : s.mir.role ≠ .syncing := by rw [alone]; decide
  exact (if_neg (not_not_intro running)).trans ((if_neg other).trans ((if_pos ⟨alone, mirrored⟩).trans (if_pos differ)))

end

section
variable (same : digest = s.cpb.patchDigest ∧ version = s.mgmt.fwVersion)
include same

/-- R475: a Hub that has copied what equals its partner's follows. -/
theorem bulkCopyDone_syncing_of_same (syncs : s.mir.role = .syncing) : exec (.bulkCopyDone digest version true) s =
    let t := s.mirrorRecord .syncing .following
    .next (State.close s { t with mir := { t.mir with
      role := .following, mismatch := false, linkUp := true, partnerOk := true, lastBeat := s.now } }) := by
  have equal : (digest == s.cpb.patchDigest && version == s.mgmt.fwVersion) = true := by simpa using same
  exact (if_neg (not_not_intro running)).trans ((if_pos syncs).trans ((if_neg (not_not_intro equal)).trans (if_pos rfl)))

/-- R475: the primary of a partner that follows is mirrored, with every record so far counted as acknowledged (log 58). -/
theorem bulkCopyDone_alone_of_same (alone : s.mir.role = .primaryAlone) (mirrored : s.build.mirrored = true) :
    exec (.bulkCopyDone digest version true) s =
      let t := s.followerRecord .syncing .following
      .next (State.close s { t with mir := { t.mir with
        role := .primaryMirrored, linkUp := true, partnerOk := true, acked := t.mir.sent, lastBeat := t.now } }) := by
  have equal : (digest == s.cpb.patchDigest && version == s.mgmt.fwVersion) = true := by simpa using same
  have other : s.mir.role ≠ .syncing := by rw [alone]; decide
  exact (if_neg (not_not_intro running)).trans ((if_neg other).trans ((if_pos ⟨alone, mirrored⟩).trans
    ((if_neg (not_not_intro equal)).trans (if_pos rfl))))

end

end

/-! ## Sweeps (R477) -/

/-- The records of a sweep: one for what differs and goes no further than a copy, one for each other region that differs. -/
def State.sweepRecords (t : State) (benign bad : List RegionDigest) : State :=
  bad.foldl (fun t r => t.blot 0 0x0B unitFm (r.region % 65536)) (match benign with
    | r :: _ => t.blot Code.benignDivergence 0x0B unitFm (r.region % 65536 + 2 ^ 16)
    | [] => t)

theorem State.foldl_blot_mir {α : Type} {code : W16} {kind unit : Nat} (object : α → Nat) (l : List α) (t : State)
    (other : t.primary = false) : (l.foldl (fun t a => t.blot code kind unit (object a)) t).mir = t.mir := by
  induction l generalizing t with
  | nil => rfl
  | cons a rest ih =>
    rw [List.foldl_cons, ih _ ((t.blot_primary _ _ _ _).trans other), State.blot_mir_of_other t other]

/-- A Hub that is not primary sends the records of its sweep and keeps its part in the pair. -/
theorem State.sweepRecords_mir {t : State} (other : t.primary = false) (benign bad : List RegionDigest) :
    (t.sweepRecords benign bad).mir = t.mir := by
  cases benign with
  | nil => exact State.foldl_blot_mir _ bad t other
  | cons r rest =>
    exact (State.foldl_blot_mir _ bad _ ((t.blot_primary _ _ _ _).trans other)).trans (t.blot_mir_of_other other _ _ _ _)

/-- What a sweep leaves of the mirror controller: its time, the regions copied anew and the count of benign ones. -/
def State.swept (s : State) (regions : List RegionDigest) : State :=
  let benign := regions.filter RegionDigest.benign
  let bad := regions.filter fun r => !r.liveEqual
  { s with mir := { s.mir with
      lastSweep := s.now
      recopied := sortNats ((benign ++ bad.filter RegionDigest.eccError).map RegionDigest.region)
      benign := sat32 s.mir.benign benign.length } }

/-- R477: a follower's sweep, 10 ms after the last; only a primary yields to one. -/
theorem divergenceSweep_of_following (follows : s.mir.role = .following) (due : s.mir.lastSweep + 10000000 ≤ s.now)
    (regions : List RegionDigest) : ∃ t : State,
      exec (.divergenceSweep regions) s = .next (State.close s t) ∧ t.mir = (s.swept regions).mir := by
  have other : (s.swept regions).primary = false := by
    simp [State.primary, State.swept, follows]
  have mir := State.sweepRecords_mir other (regions.filter RegionDigest.benign) (regions.filter fun r => !r.liveEqual)
  have stays : ¬(((s.swept regions).sweepRecords (regions.filter RegionDigest.benign)
      (regions.filter fun r => !r.liveEqual)).mir.role = .primaryMirrored ∧
      ((regions.filter fun r => !r.liveEqual).any fun r => !r.eccError) = true) := by
    rintro ⟨mirrored, -⟩
    rw [mir, State.swept, follows] at mirrored
    exact nomatch mirrored
  exact ⟨_, (if_pos ⟨.inr follows, due⟩).trans (congrArg (done s) (if_neg stays)), mir⟩

end Sys2Proof.Machine

open Sys2Proof Sys2Proof.Machine

/-- Settles O59: a record's effects by what each of its parts can change, every other command by the branch that its
conditions choose. -/
theorem mirrorAndTakeover : Obligations.MirrorAndTakeover := by
  intro s e record cause detected sp silentNs released sweepPassed x digest version regions
  refine ⟨fun mirrored => ⟨if_pos mirrored, fun unacked => ⟨mirrorAckReceived_of_unacked mirrored unacked, fun due =>
      ⟨s.wentAlone, (s.setRole _).releaseHeld_role, rfl, rfl, (s.setRole _).releaseHeld_ctxs,
        mirrorAckTimeout_of_due mirrored unacked due⟩⟩, primaryHeartbeat_of_due mirrored⟩,
    fun other => s.emit_release other, fun r m itag => ⟨rfl, rfl, rfl⟩, fun mirrors => ?record,
    fun mirrored primary awake hx up due => ?confirm, mirrorLinkDown_of_mirrored,
    fun follows => ⟨heartbeatTimeout_of_due follows, failoverReqReceived_of_cause follows detected, rfl, rfl, rfl⟩,
    fun claims => ⟨fun asked => ⟨splitterTakeoverRequest_grants claims asked, splitterTakeoverRequest_refuses claims asked,
      splitterGrantTimeout_of_alone claims asked⟩, takeoverRefused_of_refused claims, takeover_of_granted claims⟩,
    partnerTakeoverSeen_of_yielded, fun running => ?copy, fun follows due => ?sweep⟩
  case record =>
    refine ⟨s.took record, mirrorRecordReceived_of_mirror mirrors, ?_⟩
    obtain ⟨spl, nibs, tr, seqs, bells, took⟩ := s.took_eq record
    obtain ⟨image, staged, exchange, version, last, cpb, iga, mirroring, follows, copies⟩ := s.mirroring_eq record.after
    have catcher := fun free d => State.took_catcher (s := s) (record := record) free (d := d)
    rw [mirroring] at took
    rw [took] at catcher ⊢
    exact ⟨rfl, rfl, rfl, rfl, rfl, rfl, rfl, rfl, rfl, rfl, follows, fun syncs => copies (by rw [syncs]; decide), catcher⟩
  case confirm =>
    obtain ⟨t, runs, heard⟩ := primaryConfirm_of_due mirrored primary awake hx up due
    exact ⟨t, runs, Option.map_eq_some_iff.mp heard⟩
  case copy =>
    exact ⟨fun syncs differs => bulkCopyDone_syncing_of_differs running differs sweepPassed syncs,
      fun syncs same => ⟨_, bulkCopyDone_syncing_of_same running same syncs, rfl, rfl, rfl⟩,
      fun alone mirrored => ⟨fun differs => bulkCopyDone_alone_of_differs running differs sweepPassed alone mirrored,
        fun same => bulkCopyDone_alone_of_same running same alone mirrored⟩⟩
  case sweep =>
    obtain ⟨t, runs, mir⟩ := divergenceSweep_of_following follows due regions
    exact ⟨t, runs, congrArg Mir.lastSweep mir, congrArg Mir.benign mir, (congrArg Mir.role mir).trans follows⟩

end

section
/-! Device faults, the watchdog and the coolant halt, microcode faults and events, and the recoveries (R394, R422 to R427,
R470 to R473). -/

namespace Sys2Proof.Machine

open Sys2Proof

variable {s : State} {id q nib d sel slot : Nat} {m : Dme} {a : McodeAddr} {p : Prog} {x : Queue} {c : Ctx} {b : Nib}

/-! ## Device faults (R470) -/

/-- R470: a device fault sets its bit of FLT_DEVICE, whether or not the primary yields for it. -/
theorem State.faultDevice_device (s : State) (bitNo : Nat) (code : W16) (unit detail : Nat) :
    (s.faultDevice bitNo code unit detail).flt.device = s.flt.device ||| BitVec.ofNat 32 (2 ^ bitNo) :=
  ite_keeps (fun t : State => t.flt.device) (State.blot_device _ _ _ _ _) (State.blot_device _ _ _ _ _)

theorem State.faultDevice_cpb (s : State) (bitNo : Nat) (code : W16) (unit detail : Nat) :
    (s.faultDevice bitNo code unit detail).cpb = s.cpb :=
  ite_keeps State.cpb (State.blot_cpb _ _ _ _ _) (State.blot_cpb _ _ _ _ _)

/-- A device fault stops no microengine and starts none: where the primary yields, each latches FREEZE. -/
theorem State.faultDevice_stopped (s : State) (bitNo : Nat) (code : W16) (unit detail : Nat) :
    ((s.faultDevice bitNo code unit detail).dmes[d]?).map Dme.stopped = (s.dmes[d]?).map Dme.stopped := by
  refine ite_keeps (fun t : State => (t.dmes[d]?).map Dme.stopped) ?yields ?stays
  case yields =>
    simp only [State.yieldTo, State.blot_dmes, List.getElem?_map, Option.map_map]
    rfl
  case stays => rw [State.blot_dmes]

theorem deviceFault_sram (detail : Nat) : exec (.deviceFault 2 detail) s =
    .next (State.close s (s.faultDevice 2 Code.sramUncorrectable unitFm detail)) := rfl

theorem deviceFault_inkwell (detail : Nat) : exec (.deviceFault 4 detail) s =
    .next (State.close s (s.faultDevice 4 Code.inkwellEcc unitMc detail)) := rfl

/-- R470: the watchdog completes the mailboxes, stops admin fetch and ends what firmware had in progress. -/
theorem mcWatchdog_of_running (running : s.cpb.state = .running) : exec .mcWatchdog s =
    .next (State.close s (State.faultDevice { s with
      mbx := { s.mbx with boxes := s.mbx.boxes.map Mailbox.watchdog }
      mgmt := { s.mgmt with adminStopped := true, progs := [] } } 1 Code.mcWatchdog unitMc 0)) :=
  if_neg (not_not_intro running)

theorem Mailbox.watchdog_of_busy {z : Mailbox} (busy : z.busy = true) (unmarked : z.forced = false) :
    z.watchdog = { z with state := .done, result := Code.mcWatchdog, respLen := 0 } :=
  (if_pos busy).trans (if_neg (Bool.eq_false_iff.mp unmarked))

/-! ## The coolant halt (R394) -/

/-- The block as the halt finds it, before a primary's aborts go out. -/
def State.coolantHalted (s : State) : State :=
  ((({ s with
    power := { s.power with hub := .active, since := s.now, brief := false }
    feed := { s.feed with halt := true }
    cfg := { s.cfg with state := .halted, check := none } } : State).withholdAll (some reasonCoolant)).latchAll fun m =>
      { m with freeze := true }).blotFeed Code.coolantFault 8 0 0

theorem State.coolantHalted_primary (s : State) : s.coolantHalted.primary = s.primary := State.blot_primary _ _ _ _ _

section
variable (flows : s.feed.halt = false)
include flows

theorem coolantFault_of_unhalted : exec .coolantFault s = .next (State.close s
    (if s.coolantHalted.primary = true then (s.coolantHalted.abortAll Code.coolantFault).quiet else s.coolantHalted)) :=
  if_neg (Bool.eq_false_iff.mp flows)

/-- R394: a primary aborts every macro-op as it halts. -/
theorem coolantFault_primary (primary : s.primary = true) : exec .coolantFault s =
    .next (s.endsQuiet (s.coolantHalted.abortAll Code.coolantFault)) := by
  rw [coolantFault_of_unhalted flows, if_pos (s.coolantHalted_primary.trans primary), State.endsQuiet]

/-- R394: a Hub that is not primary drives no Nib. -/
theorem coolantFault_other (other : s.primary = false) : exec .coolantFault s = .next (State.close s s.coolantHalted) := by
  rw [coolantFault_of_unhalted flows, if_neg (Bool.eq_false_iff.mp (s.coolantHalted_primary.trans other))]

end

/-! ## Microcode (R422 to R427) -/

/-- R423: the microengine of a microcode fault stands still. -/
theorem State.stopDme_stopped (s : State) (cause : McodeCause) {n : Dme} (hn : (s.stopDme d cause a).dmes[d]? = some n) :
    n.stopped = true := by
  have stops : ((s.stopDme d cause a).dmes[d]?).map Dme.stopped = (s.dmes[d]?).map fun _ => true := by
    refine (State.faultDevice_stopped _ _ _ _ _).trans ?_
    rw [State.modDme_dmes, getElem?_lmod_self, Option.map_map]
    rfl
  rw [hn] at stops
  obtain ⟨m, -, stopped⟩ := Option.map_eq_some_iff.mp stops.symm
  exact stopped.symm

/-- R441: CPB_MCODE_FAULT keeps the first fault. -/
theorem State.stopDme_mcodeFault (s : State) (cause : McodeCause) (faulted : s.cpb.mcodeFault.getLsbD 31 = true) :
    (s.stopDme d cause a).cpb.mcodeFault = s.cpb.mcodeFault := by
  simp only [State.stopDme, State.faultDevice_cpb, State.modDme_cpb, faulted, if_true]

theorem State.dmeAlive_of_running (awake : s.awake = true) (clocked : s.power.hclk = true) (hm : s.dmes[d]? = some m)
    (runs : m.stopped = false) : s.dmeAlive d = true := by
  simp [State.dmeAlive, awake, clocked, hm, runs]

theorem microcodeFault_of_alive (alive : s.dmeAlive d = true) (cause : McodeCause) (space address : Nat) :
    exec (.microcodeFault d cause space address) s =
      .next (State.close s (s.stopDme d cause ⟨space % 2, address % 2 ^ 15⟩)) := if_pos alive

section
variable (hm : s.dmes[d]? = some m) (alive : s.dmeAlive d = true) {upset : BitVec 192}
include hm alive

/-- R423: a word with more than one wrong bit stops the microengine. -/
theorem dmeEventService_uncorrectable (wrong : 2 ≤ bitsSet upset) : exec (.dmeEventService d upset sel) s =
    .next (State.close s (s.stopDme d .ecc m.next)) := by
  simp only [exec, execDmeEventService, hm, alive, if_true, if_pos wrong, done]

section
variable (readable : bitsSet upset < 2)
include readable

/-- R423: a word that forms no next address stops the microengine. -/
theorem dmeEventService_faults {k : McodeCause} (forms : m.form (s.cpb.content m.next) sel = .error k) :
    exec (.dmeEventService d upset sel) s = .next (State.close s ((s.countEcc upset).stopDme d k m.next)) := by
  simp only [exec, execDmeEventService, hm, alive, if_true, if_neg (Nat.not_le.mpr readable), forms, done]

/-- R422: any other word is executed. -/
theorem dmeEventService_executes {stack : List McodeAddr} (forms : m.form (s.cpb.content m.next) sel = .ok (a, stack)) :
    exec (.dmeEventService d upset sel) s =
      .next (State.close s ((s.countEcc upset).dmeWord d m (s.cpb.content m.next) m.next a stack)) := by
  simp only [exec, execDmeEventService, hm, alive, if_true, if_neg (Nat.not_le.mpr readable), forms, done]

end

end

theorem State.modDme_dme (hm : s.dmes[d]? = some m) (f : Dme → Dme) : (s.modDme d f).dmes[d]? = some (f m) := by
  rw [State.modDme_dmes, getElem?_lmod_self, hm, Option.map_some]

section
variable {w : Nat} {here : McodeAddr} {stack : List McodeAddr} (safe : wordSafe w = true)
include safe

/-- R424 to R426: at a SAFE word a latched FREEZE is served first, and the event vector entered at its first word. -/
theorem State.dmeWord_freeze (frozen : m.freeze = true) (free : m.inHandler = false ∨ wordResumes w = true) :
    s.dmeWord d m w here a stack = s.modDme d fun _ =>
      { m with stack := stack, freeze := false, resume := a, inHandler := true, sinceSafe := 0
               next := s.cpb.fetchFrom ⟨0, 0⟩ } := by
  have outside : (m.inHandler && !wordResumes w) = false := by rcases free with h | h <;> simp [h]
  simp [State.dmeWord, Dme.latched, Dme.serve, safe, frozen, outside]

/-- R424: at a SAFE word with no event latched the count of words since the last one starts anew. -/
theorem State.dmeWord_unlatched (quiet : m.latched = false) : s.dmeWord d m w here a stack = s.modDme d fun _ =>
    { m with stack := stack, inHandler := m.inHandler && !wordResumes w, next := s.cpb.fetchFrom a, sinceSafe := 0 } :=
  (if_pos safe).trans (if_neg (Bool.eq_false_iff.mp quiet))

end

/-! ## Recoveries (R138, R471 to R473) -/

section
variable (may : s.mayCommit id 0x0901 s.recoverChecks p)
include may

/-- A RECOVER that may commit acts through the row of its ACTION. -/
theorem recoverRow_of_mayCommit {action : Nat} {commit : Prog → Commit} (acts : recoverAction p = action) :
    s.recoverRow id action commit = s.henpen id 0x0901 s.recoverChecks commit := by
  obtain ⟨found, -⟩ := may
  exact if_pos (by rw [found]; exact acts)

theorem recoverQueueReset_of_active (acts : p.arg 0x20 = 1) (target : p.arg 0x24 = q) (hx : tget s.queues q = some x)
    (owner : s.ctxOf x.handle = some (slot, c)) (active : c.state = .active) : exec (.recoverQueueReset id) s =
      .next (s.endsQuiet ((s.modQueue q fun x => { x with resetting := true }).answer p Code.pending 0 [])) := by
  refine (recoverRow_of_mayCommit may (by simp [recoverAction, acts])).trans (henpen_pending may ?_)
  simp only [target, hx, State.busyOr, owner, active, if_true]

/-- R473: the Nib is lost with cause 5, and its training may end 10 µs later. -/
def State.reinitNib (s : State) (n : Nat) : State :=
  let t := (s.nibLost n 5).modNib n fun b => { b with trainFrom := s.now + 10000 }
  { t with mgmt := { t.mgmt with recoveries := t.mgmt.recoveries ++ [(2, n)] } }

theorem recoverNibReinit_of_action (acts : p.arg 0x20 = 2) : exec (.recoverNibReinit id) s =
    .next (s.endsQuiet ((s.reinitNib (p.arg 0x24)).answer p Code.pending 0 [])) :=
  (recoverRow_of_mayCommit may (by simp [recoverAction, acts])).trans (henpen_pending may rfl)

theorem recoverWarmReset_of_action (acts : p.arg 0x20 = 3) : exec (.recoverWarmReset id) s =
    .next (s.answersOk { s with mgmt := { s.mgmt with warmReset := true } } p []) :=
  (recoverRow_of_mayCommit may (by simp [recoverAction, acts])).trans (henpen_ok may rfl)

section
variable (acts : p.arg 0x20 = 4)
include acts

theorem recoverFailover_of_other (other : s.mir.role ≠ .primaryMirrored) : exec (.recoverFailover id) s =
    .next (s.ends (s.answer p Code.notReady 0 [])) :=
  (recoverRow_of_mayCommit may (by simp [recoverAction, acts])).trans (henpen_fail may (if_neg other))

theorem recoverFailover_of_mirrored (mirrored : s.mir.role = .primaryMirrored) : exec (.recoverFailover id) s =
    .next (State.close s (s.handOver p)) := by
  refine (recoverRow_of_mayCommit may (by simp [recoverAction, acts])).trans ?_
  rw [henpen_mayCommit may, if_pos mirrored]

end

end

/-- R472: the reset of a queue ends once everything fetched from a FAULTED one has retired. -/
theorem queueResetDone_of_drained (firmware : s.firmware = true) (hx : tget s.queues q = some x) (resets : x.resetting = true)
    (owner : s.ctxOf x.handle = some (slot, c)) (active : c.state = .active)
    (drained : x.faulted = false ∨ ∀ u ∈ x.subs, u.retired.isSome = true) :
    exec (.queueResetDone q) s = .next (s.ends ((if x.faulted = true
      then (s.modQueue q fun x => { x with resetting := false }).resetQueue q x
      else s.modQueue q fun x => { x with resetting := false }).recovered 1 q Code.ok)) := by
  have may_end : s.firmware = true ∧ x.resetting = true ∧
      (¬x.faulted = true ∨ (x.subs.all fun u => u.retired.isSome) = true) :=
    ⟨firmware, resets, drained.imp Bool.eq_false_iff.mp List.all_eq_true.mpr⟩
  simp only [exec, execQueueResetDone, hx, if_pos may_end, owner, active, ne_eq, not_true_eq_false, if_false, done, State.ends]

/-- R472: a queue that is not enabled reads no tail after its reset. -/
theorem State.resetQueue_of_disabled (t : State) (disabled : x.enabled = false) :
    t.resetQueue q x = t.modQueue q fun x => { x with faulted := false, error := none } :=
  if_pos (Bool.eq_false_iff.mp disabled)

/-! ## The end of a NIB_REINIT (R473) -/

/-- The recovery of a Nib is over. -/
def State.nibRecovered (s : State) (nib : Nat) : State :=
  { s with mgmt := { s.mgmt with recoveries := s.mgmt.recoveries.erase (2, nib) } }

/-- R444: the link of a Nib comes up within its 3 attempts of 200 µs. -/
theorem Nib.retrainEnds_trained_iff {now : Nat} :
    b.retrainEnds true now = true ↔ b.trainFrom ≤ now ∧ now ≤ b.trainFrom + 600000 := by
  simp [Nib.retrainEnds]

/-- R445: training fails once they have passed. -/
theorem Nib.retrainEnds_failed_iff {now : Nat} : b.retrainEnds false now = true ↔ b.trainFrom + 600000 ≤ now := by
  simp [Nib.retrainEnds]

section
variable {die : Nat} {cores : List (List EqPort)} {trained : Bool} (hb : s.nibs[nib]? = some b)
include hb

/-- R473: a Nib whose training ends with the report of its start-up returns, free and in OFF; any other stays lost. -/
theorem nibReinitDone_of_ends (firmware : s.firmware = true) (recovers : s.mgmt.recoveries.contains (2, nib) = true)
    (ends_now : b.retrainEnds trained s.now = true) :
    exec (.nibReinitDone nib trained die cores) s = if trained = true ∧ b.firstReport = some (die, portsOf cores) then
      .next (State.close s (((s.nibRecovered nib).modNib nib fun b => { Nib.reset with
        link := .up, via := s.home nib b.via, die := die, ports := portsOf cores, firstReport := b.firstReport
        testMode := b.testMode }).recovered 2 nib Code.ok))
    else .next (State.close s ((s.nibRecovered nib).recovered 2 nib Code.nibLost)) := by
  simp only [exec, execNibReinitDone, hb, if_pos (show _ ∧ _ ∧ _ from ⟨firmware, recovers, ends_now⟩)]
  rfl

/-- R473: the link of a Nib still in reset cannot come up. -/
theorem nibReinitDone_of_early (early : s.now < b.trainFrom) : exec (.nibReinitDone nib true die cores) s = .next s := by
  have trains : ¬(s.firmware = true ∧ s.mgmt.recoveries.contains (2, nib) = true ∧ b.retrainEnds true s.now = true) :=
    fun ⟨_, _, ends_now⟩ => Nat.not_le.mpr early (Nib.retrainEnds_trained_iff.mp ends_now).1
  simp only [exec, execNibReinitDone, hb, if_neg trains, skip]

end

end Sys2Proof.Machine

open Sys2Proof Sys2Proof.Machine

/-- Settles O60: each fault and recovery comes to the branch that its conditions choose; what a fault leaves of FLT_DEVICE, of
CPB_MCODE_FAULT and of the microengines is what its record and a hand-over cannot change. -/
theorem faultsAndRecovery : Obligations.FaultsAndRecovery := by
  intro s detail id q nib die d sel space address cores cause upset p x slot c b m a stack
  refine ⟨⟨deviceFault_sram detail, deviceFault_inkwell detail⟩,
    fun bitNo code unit => s.faultDevice_device bitNo code unit detail,
    fun running => ⟨mcWatchdog_of_running running, fun z _ => Mailbox.watchdog_of_busy⟩,
    fun flows => ⟨coolantFault_primary flows, coolantFault_other flows⟩,
    fun awake clocked hm runs => ?microcode, fun may => ⟨recoverQueueReset_of_active may, recoverNibReinit_of_action may,
      recoverWarmReset_of_action may, recoverFailover_of_other may,
      fun acts mirrored => ⟨recoverFailover_of_mirrored may acts mirrored, rfl, rfl, rfl⟩⟩,
    fun firmware hx resets owner active => ⟨fun faulted drained => ⟨?reset, State.resetQueue_of_disabled _⟩,
      fun unfaulted => ?kept⟩,
    fun firmware hb recovers => ⟨fun inTime report => ⟨?returns, rfl⟩, fun inTime differs => ?differs, fun late => ?fails,
      fun early => ?early⟩⟩
  case microcode =>
    have alive := State.dmeAlive_of_running awake clocked hm runs
    refine ⟨microcodeFault_of_alive alive cause space address, fun n => State.stopDme_stopped s cause,
      State.stopDme_mcodeFault s cause, rfl, dmeEventService_uncorrectable hm alive,
      fun k readable => dmeEventService_faults hm alive readable, fun forms =>
        ⟨fun readable => dmeEventService_executes hm alive readable forms, fun safe frozen free => ?serves,
          fun safe quiet => ?goesOn⟩⟩
    case serves =>
      rw [State.dmeWord_freeze safe frozen free]
      exact ⟨_, State.modDme_dme hm _, rfl, rfl, rfl, rfl, rfl, rfl, rfl, rfl, rfl⟩
    case goesOn =>
      rw [State.dmeWord_unlatched safe quiet]
      exact ⟨_, State.modDme_dme hm _, rfl, rfl, rfl⟩
  case reset => rw [queueResetDone_of_drained firmware hx resets owner active (.inr drained), if_pos faulted]
  case kept =>
    rw [queueResetDone_of_drained firmware hx resets owner active (.inl unfaulted), if_neg (Bool.eq_false_iff.mp unfaulted)]
  case returns =>
    rw [nibReinitDone_of_ends hb firmware recovers (Nib.retrainEnds_trained_iff.mpr inTime), if_pos ⟨rfl, report⟩]
    rfl
  case differs =>
    rw [nibReinitDone_of_ends hb firmware recovers (Nib.retrainEnds_trained_iff.mpr inTime), if_neg fun h => differs h.2]
    rfl
  case fails =>
    rw [nibReinitDone_of_ends hb firmware recovers (Nib.retrainEnds_failed_iff.mpr late), if_neg fun h => nomatch h.1]
    rfl
  case early => exact nibReinitDone_of_early hb early

end

section
/-! What the end of a command can change, and why it leaves a safe state (R388, R402, R413, R461, R476). -/

namespace Sys2Proof.Machine

open Sys2Proof

variable (s : State)

/-- A record of a Hub unit joins those on their way, and its unit's count advances (R48). -/
theorem State.recordAs_frame (unit typ stamp payload : Nat) (debug ao : Bool) :
    ∃ inbound seqs, s.recordAs unit typ stamp payload debug ao =
      { s with trace := { s.trace with inbound := inbound, seqs := seqs } } := by
  unfold State.recordAs State.recordWhen
  split
  · exact ⟨_, _, rfl⟩
  · exact ⟨s.trace.inbound, s.trace.seqs, rfl⟩

theorem Iga.rise_frame (g : Iga) (n : Nat) : ∃ states, g.rise n = { g with states := states } := by
  unfold Iga.rise
  split
  · exact ⟨_, rfl⟩
  · exact ⟨g.states, rfl⟩

theorem Iga.fall_frame (g : Iga) (n : Nat) :
    ∃ states withdrawn, g.fall n = { g with states := states, withdrawn := withdrawn } := by
  unfold Iga.fall
  split
  · exact ⟨_, _, rfl⟩
  · exact ⟨g.states, g.withdrawn, rfl⟩

theorem Iga.foldl_rise_frame (l : List Nat) (g : Iga) : ∃ states, l.foldl Iga.rise g = { g with states := states } := by
  induction l generalizing g with
  | nil => exact ⟨g.states, rfl⟩
  | cons n l ih =>
    obtain ⟨_, hn⟩ := g.rise_frame n
    obtain ⟨states, h⟩ := ih (g.rise n)
    exact ⟨states, by rw [List.foldl_cons, h, hn]⟩

theorem Iga.foldl_fall_frame (l : List Nat) (g : Iga) :
    ∃ states withdrawn, l.foldl Iga.fall g = { g with states := states, withdrawn := withdrawn } := by
  induction l generalizing g with
  | nil => exact ⟨g.states, g.withdrawn, rfl⟩
  | cons n l ih =>
    obtain ⟨_, _, hn⟩ := g.fall_frame n
    obtain ⟨states, withdrawn, h⟩ := ih (g.fall n)
    exact ⟨states, withdrawn, by rw [List.foldl_cons, h, hn]⟩

/-- R405, R413: a sample takes the levels shown, and changes states and WITHDRAWN flags by them. -/
theorem Iga.sample_frame (g : Iga) (high : List Nat) (serving : Bool) :
    ∃ states withdrawn, g.sample high serving = { g with levels := high, states := states, withdrawn := withdrawn } := by
  unfold Iga.sample
  cases serving
  · exact ⟨g.states, g.withdrawn, rfl⟩
  · obtain ⟨_, _, hf⟩ := Iga.foldl_fall_frame (g.levels.filter fun n => !high.contains n) { g with levels := high }
    obtain ⟨_, hr⟩ := Iga.foldl_rise_frame (high.filter fun n => !g.levels.contains n)
      ((g.levels.filter fun n => !high.contains n).foldl Iga.fall { g with levels := high })
    exact ⟨_, _, hr.trans (by rw [hf])⟩

/-! ## The steps of the end -/

/-- R388: Feed's record is of the mask as it stands then. -/
theorem State.noteMask_frame : ∃ inbound seqs, s.noteMask = { s with
    trace := { s.trace with inbound := inbound, seqs := seqs }, feed := { s.feed with mask := s.deviceMask } } := by
  unfold State.noteMask
  simp only
  split
  · next same => exact ⟨s.trace.inbound, s.trace.seqs, by rw [same]⟩
  · obtain ⟨inbound, seqs, h⟩ := s.recordAs_frame unitFeed 0x0C s.aoNow (s.deviceMask + 256 * s.feed.mask) false (!s.awake)
    exact ⟨inbound, seqs, by rw [State.record, h]⟩

/-- R413, R478: the Gatherer sees the levels as they are, at once or, of a mirrored primary, once they may leave. -/
theorem State.noteLevels_frame : ∃ states withdrawn held, s.noteLevels = { s with
    iga := { s.iga with
      levels := if s.mir.role = .primaryMirrored then s.iga.levels else s.highSources
      states := states, withdrawn := withdrawn }
    mir := { s.mir with held := held } } := by
  unfold State.noteLevels State.emit
  by_cases mirrored : s.mir.role = .primaryMirrored
  · simp only [if_pos mirrored]
    split
    · exact ⟨s.iga.states, s.iga.withdrawn, s.mir.held, rfl⟩
    · exact ⟨s.iga.states, s.iga.withdrawn, _, rfl⟩
  · simp only [if_neg mirrored]
    split
    · next same => exact ⟨s.iga.states, s.iga.withdrawn, s.mir.held, by rw [same]⟩
    · obtain ⟨states, withdrawn, h⟩ := s.iga.sample_frame s.highSources s.primary
      exact ⟨states, withdrawn, s.mir.held, by rw [State.release, h]⟩

/-- R476: the record of a change is counted and stamped. -/
theorem State.noteMirror_frame (b : State) : ∃ sent lastBeat waitSince, State.noteMirror b s =
    { s with mir := { s.mir with sent := sent, lastBeat := lastBeat, waitSince := waitSince } } := by
  unfold State.noteMirror
  split
  · exact ⟨_, _, _, rfl⟩
  · exact ⟨s.mir.sent, s.mir.lastBeat, s.mir.waitSince, rfl⟩

/-- Everything that the end of a command changes, with the mask and the levels it leaves. -/
theorem State.close_frame (b : State) :
    ∃ inbound seqs states withdrawn sent held lastBeat waitSince since, State.close b s = { s with
      trace := { s.trace with inbound := inbound, seqs := seqs }
      feed := { s.feed with mask := s.deviceMask }
      iga := { s.iga with
        levels := if s.mir.role = .primaryMirrored then s.iga.levels else s.highSources
        states := states, withdrawn := withdrawn }
      mir := { s.mir with sent := sent, held := held, lastBeat := lastBeat, waitSince := waitSince }
      power := { s.power with since := since } } := by
  obtain ⟨inbound, seqs, hm⟩ := s.noteMask_frame
  obtain ⟨states, withdrawn, held, hl⟩ := s.noteMask.noteLevels_frame
  obtain ⟨sent, lastBeat, waitSince, h⟩ := State.noteMirror_frame s.noteMask.noteLevels.noteIdle b
  refine ⟨inbound, seqs, states, withdrawn, sent, held, lastBeat, waitSince, s.noteMask.noteLevels.noteIdle.power.since, ?_⟩
  rw [State.close, h, State.noteIdle, hl, hm]
  rfl

/-- The end of a command leaves a safe state, whatever its effect. -/
theorem State.close_safe (b : State) : (State.close b s).Safe := by
  obtain ⟨_, _, _, _, _, _, _, _, _, h⟩ := s.close_frame b
  rw [h]
  exact ⟨fun alone => if_neg alone, rfl⟩

end Sys2Proof.Machine

end

section
/-! Every command answers a next state, and every step keeps what the Gatherer and Feed show true of the block (R388, R402,
R413). -/

namespace Sys2Proof.Machine

open Sys2Proof

/-- A command's answer on `s`: a next state, safe where `s` is. -/
def Answers (s : State) (o : Host.Outcome State Fault Refusal) : Prop := ∃ t, o = .next t ∧ (s.Safe → t.Safe)

section
variable (s : State)

theorem Answers.done (b t : State) : Answers s (done b t) := ⟨_, rfl, fun _ => t.close_safe b⟩

theorem Answers.skip : Answers s (skip s) := ⟨s, rfl, id⟩

theorem Answers.late (w : MemWait) : Answers s (late s w) := by
  unfold Machine.late
  split
  · exact .done ..
  · exact .skip s

/-- A Henpen row ends at a gate, a check or its commit (R105, R112). -/
theorem Answers.henpen (id command : Nat) (checks : Prog → List Check) (commit : Prog → Commit) :
    Answers s (s.henpen id command checks commit) := by
  unfold State.henpen
  repeat' first | with_reducible exact .done .. | with_reducible exact .skip s | split

/-- A request given up for its response is outside what safety speaks of. -/
theorem Answers.of_mip {mip : List MemReq} {o : Host.Outcome State Fault Refusal} (h : Answers { s with mip := mip } o) :
    Answers s o := h

/-- Every meaning but that of MEMORY_RESPONSE_TIMEOUT, which runs another's, is a tree of conditions whose leaves close the
command after its effect or leave the state as it is. -/
theorem exec_answers_of_ne (c : Instr) (other : ∀ w, c ≠ .memoryResponseTimeout w) : Answers s (exec c s) := by
  cases c
  case memoryResponseTimeout w => exact absurd rfl (other w)
  all_goals
    simp only [exec, hostDone, parsed, effectOr, State.launchStep, State.engineRow, State.traceRow, State.recoverRow,
      execDeviceReset, execHubReset, execSplitterReset, execNibReset, execRefclkOk, execEpochPEdge, execEpochMissed,
      execCoolantFault, execYlinkDown, execTestMode, execKeyDelivery, execDNowReport, execPowerStepAck,
      execPowerStepRetry, execSenseSample, execSenseTick, execMirrorLinkDown, execNclkChange,
      execControlRegisterWrite, execHtpRefusedAccess, execLowHalfRead, execDucTimeLoRead, execReadClearRegister,
      execDoorbellWrite, execMbxAcquire, execMbxRelease, execMbxDoorbell, execMbxAck, execMbxForceFree,
      execMbxInkWrite, execMbxDataWrite, execInkwellHostWrite, execInkwellSlotConsume, execInkwellSlotToHost,
      execInkTimeout, execSynWindowWrite, execDucArmWrite, execDucTraceEnable, execDucTraceDisable,
      execTraceFlushDone, execTimeSyncRecord, execTraceRecordArrival, execTraceWriteVisible, execAlignmentRound,
      execAlignOffsetReceived, execCfgSealWrite, execSealCheckDone, execCfgLaunchEnWrite, execCpbStart,
      execBootCheckDone, execFltResetWrite, execWarmReset, execMirFailoverAck, execMirRejoin, execMirHubReset,
      execDbgStopArm, execDbgResume, execStopCountReached, execDbgSyncGo, execDbgNfCountRead,
      execDbgSyncFaultCountRead, execIgaClaim, execIgaComplete, execIgaSwSet, execIgaSwClr, execFeedQeSelWrite,
      execQueueEnergyReady, execFeedTrimWrite, execManagementCoreTake, execBootHello, execAdminQueueSetup,
      execCfgLoadTable, execCfgQuery, execCtxCastOn, execCtxBindOff, execCtxQuery, execEventAlloc, execEventFree,
      execQueueCreate, execQueueDisable, execQueueEnable, execQueueDestroy, execQueueQuery, execPatternRegister,
      execPatternGroupRegister, execPatternUnregister, execPartCreate, execPartDestroy, execPartQuery,
      execQueryClocks, execQueryTemps, execQueryLimits, execTraceControlConfigure, execTraceControlEnable,
      execTraceControlDisable, execFwStage, execFwActivate, execExchangeDrained, execExchangeSwitched,
      execRecoverQueueReset, execQueueResetDone, execRecoverNibReinit, execNibReinitDone, execRecoverWarmReset,
      execRecoverFailover, execMcWatchdog, execDeviceFault, execMicrocodeFault, execDmeEventService,
      execBindOffDeadline, execContextRelease, execDoorbellTake, execQueueRecordLoaded, execQueueEviction,
      execTailWordReturn, execTailReread, execRingEntryReturn, execArbiterGrant, execQueueTimeout, execEnqueueRequest,
      execSlotReservationGrant, execEnqueueEntryWritten, execEnqueueRefusedFull, execCbReadReturn, execBufferHeader,
      execNop, execChain, execLaunch, execLaunchDispatch, execLaunchReplay, execReplayMemberDispatch, execPatchParams,
      execSetConstants, execEventRecord, execEventWait, execSyncOp, execSyncWait, execBarrier, execWriteImm,
      execWriteImmVisible, execHintPhase, execFenceFetch, execFenceFetchComplete, execPartControl, execFeedSet,
      execTraceSet, execPrivWrite, execSyncConfig, execScoreboardLateRegistration, execTaskDoneAtHub,
      execWriteBackResponse, execSplitterTaskPass, execSplitterCompletion, execSplitterWithdrawn,
      execSplitterBarrierArrival, execNibTaskReceive, execStateSlotFilled, execConstantsStaged, execNibSwapIn,
      execStitcherEmit, execNibIssue, execCompletionToken, execResidueReadAnswer, execNibWithdraw,
      execEngineTranslateRequest, execEngineSyncRequest, execEngineEnqueueRequest, execTranslationCompletion,
      execTranslationTimeout, execInvalidateRequest, execNibInvalidation, execInvalidateComplete,
      execAbortTokenTimeout, execNibIdleToOff, execMigrationTimer, execWithdrawAnswer, execWithdrawDrainTimeout,
      execMemorySyncResponse, execWatchPoll, execWatchPollReturn, execSyncWaitLateRegister, execSyncWaitExpiry,
      execBarrierArrivalHub, execBarrierPoll, execBarrierPollReturn, execBarrierInstanceTimeout,
      execBarrierReleaseAtNib, execFeedIntervalClose, execRampWindowStart, execCalibrationTick, execTrimCheck,
      execWakeRelease, execNibWakeDone, execEqOpen, execHintRampStart, execHubDozeEntry, execHubSleepEntry,
      execHubWake, execBlotterWriteVisible, execMirrorRecordReceived, execMirrorAckReceived, execMirrorAckTimeout,
      execPrimaryHeartbeat, execPrimaryConfirm, execHeartbeatTimeout, execFailoverReqReceived,
      execSplitterTakeoverRequest, execSplitterGrantTimeout, execTakeover, execPartnerTakeoverSeen, execBulkCopyDone,
      execDivergenceSweep, execSplitterPhaseDone, execNibTrainingAttemptEnd, execSyncRequestAtSyncUnit,
      execSyncReplyAtNib, execEnqueueReplyAtNib, execEnqueueEntryWriteResponse, execEventStoreReadReturn,
      execNibUncorrectableError, execAbortAtNib, execNibPowerUp, execSplitterTrainingAttemptEnd, execTakeoverRefused]
    repeat' first
      | with_reducible exact .done ..
      | with_reducible exact .skip s
      | with_reducible exact .late ..
      | with_reducible exact .henpen ..
      | split

/-- R503: a response that never came is the command of an error response, or a read made again. -/
theorem Answers.asError (r : MemReq) (w : MemWait) : Answers s (s.asError r w) := by
  have rerun (c : Instr) (other : ∀ w, c ≠ .memoryResponseTimeout w) := exec_answers_of_ne s c other
  cases w with
  | tailWord q => exact rerun (.tailWordReturn q none) nofun
  | ringEntry q => exact rerun (.ringEntryReturn q _) nofun
  | commandBytes q => exact rerun (.cbReadReturn q none) nofun
  | writeBack q => exact rerun (.writeBackResponse q false) nofun
  | writeImm q => exact rerun (.writeImmVisible (.writeImm q) false) nofun
  | syncOp i => exact rerun (.memorySyncResponse i none) nofun
  | watchPoll i => exact rerun (.watchPollReturn i none) nofun
  | barrierPoll b w => exact rerun (.barrierPollReturn b w none) nofun
  | tailStore q => exact rerun (.writeImmVisible (.tailStore q) false) nofun
  | relay b => exact rerun (.writeImmVisible (.relay b) false) nofun
  | adminAnswer n => exact rerun (.writeImmVisible (.adminAnswer n) false) nofun
  | privateWrite => exact rerun (.writeImmVisible .privateWrite false) nofun
  | nibConstants n t => exact rerun (.constantsStaged n t none) nofun
  | nibEntry n => exact rerun (.enqueueEntryWriteResponse n false) nofun
  | queueRecord => exact .done ..
  | eventState => exact .done ..
  | nibSlot => exact .done ..
  | traceWrite | blotWrite =>
    simp only [State.asError]
    split
    · exact .done ..
    · exact .skip s

theorem exec_answers (c : Instr) : Answers s (exec c s) := by
  by_cases timeout : ∃ w, c = .memoryResponseTimeout w
  · obtain ⟨w, rfl⟩ := timeout
    simp only [exec, execMemoryResponseTimeout]
    split
    · exact .skip s
    · split
      · exact .of_mip s (.asError _ _ w)
      · exact .skip s
  · exact exec_answers_of_ne s c fun w h => timeout ⟨w, h⟩

end

/-! ## Time -/

/-- R34: the flags of the epoch logic stay as time passes. -/
theorem Ductus.tick_frame (d : Ductus) :
    ∃ phase count slew, d.tick = { d with phase := phase, count := count, slew := slew } := by
  unfold Ductus.tick
  split
  · exact ⟨d.phase, d.count, d.slew, rfl⟩
  · split
    · exact ⟨_, d.count, d.slew, rfl⟩
    · exact ⟨_, _, _, rfl⟩

theorem Nib.count_link (b : Nib) (l : FeedLimits) (energy : List Byte) : (b.count l energy).link = b.link := by
  unfold Nib.count
  split <;> rfl

section
variable (s : State)

/-- The metering of a Nib leaves its link (R366). -/
theorem State.metering_present (n : Nat) : s.metering[n]?.map Nib.present = s.nibs[n]?.map Nib.present := by
  unfold State.metering
  split
  · rw [List.getElem?_map, Option.map_map]
    exact congrArg (Option.map · s.nibs[n]?) (funext fun b => by simp [Nib.present, Nib.count_link])
  · rfl

/-- A slew of the dies leaves their links (R39). -/
theorem slewed_present (nibs : List Nib) (slewing : Prop) [Decidable slewing] (n : Nat) :
    (if slewing then nibs.map Nib.slewOnce else nibs : List Nib)[n]?.map Nib.present = nibs[n]?.map Nib.present := by
  split
  · rw [List.getElem?_map, Option.map_map]
    rfl
  · rfl

/-- R388: a partition's reasons are those of its Nibs, level and pace, of which the passing of time changes none. -/
theorem State.reasonsOf_tick {t : State} {p : Nat} {x : Part} {m : Nat} (hq : t.queues = s.queues) (hc : t.ctxs = s.ctxs)
    (hl : t.live = s.live) (hr : t.feed.rails = s.feed.rails) (hw : t.feed.wakes = s.feed.wakes)
    (hh : t.feed.halt = s.feed.halt) (hn : ∀ n : Nat, t.nibs[n]?.map Nib.present = s.nibs[n]?.map Nib.present) :
    t.reasonsOf p (x.tick m) = s.reasonsOf p x := by
  have rail : t.railOf = s.railOf := funext fun n => by simp only [State.railOf, hl]
  simp only [State.reasonsOf, State.ctxOf, Part.tick, hq, hc, hr, hw, hh, hn, rail]
  rfl

/-- A LOSS or PAD record that the trace writer makes leaves the ring as full as it is (R54, R57). -/
theorem State.nextTrace_full : s.nextTrace.1.full = s.trace.full := by
  unfold State.nextTrace
  dsimp only
  repeat' split
  all_goals rfl

/-- The trace writer's use of the ports leaves the ring as full as it is until a write is visible (R55). -/
theorem State.issueTrace_frame : ∃ trace mip xlat, s.issueTrace = { s with trace := trace, mip := mip, xlat := xlat } ∧
    trace.full = s.trace.full := by
  unfold State.issueTrace
  split
  · exact ⟨s.trace, s.mip, s.xlat, rfl, rfl⟩
  · split
    · split
      · exact ⟨_, s.mip, s.xlat, rfl, rfl⟩
      · exact ⟨s.trace, s.mip, s.xlat, rfl, rfl⟩
    · have full := s.paceTrace.nextTrace_full
      simp only
      split
      · exact ⟨_, s.mip, s.xlat, rfl, rfl⟩
      · split
        · next t r next =>
          rw [next] at full
          split
          · exact ⟨_, _, _, rfl, full⟩
          · exact ⟨_, s.mip, s.xlat, rfl, rfl⟩
        · exact ⟨_, s.mip, s.xlat, rfl, rfl⟩

/-- The Fault Manager's write leaves the records held as they are until it is visible (R468). -/
theorem State.issueBlot_frame : ∃ loss seq flight mip xlat, s.issueBlot =
    { s with flt := { s.flt with loss := loss, seq := seq, flight := flight }, mip := mip, xlat := xlat } := by
  unfold State.issueBlot State.nextBlot
  simp only
  split
  · split
    · next r f next =>
      split at next <;> cases next <;> exact ⟨_, _, _, _, _, rfl⟩
    · exact ⟨s.flt.loss, s.flt.seq, s.flt.flight, s.mip, s.xlat, rfl⟩
  · exact ⟨s.flt.loss, s.flt.seq, s.flt.flight, s.mip, s.xlat, rfl⟩

/-- What the Hub does by itself in a cycle shows no interrupt and no throttle reason. -/
theorem State.seen_safe {s : State} (h : s.Safe) : s.seen.Safe := by
  unfold State.seen
  split
  · next serves =>
    obtain ⟨trace, mip, xlat, ht, full⟩ := s.issueTrace_frame
    obtain ⟨_, _, _, _, _, hb⟩ := s.issueTrace.issueBlot_frame
    rw [State.pump, if_pos serves, hb, ht]
    refine ⟨fun alone => (h.1 alone).trans ?_, h.2⟩
    simp only [State.highSources, State.endVisits, full]
    rfl
  · exact h

/-- Time shows no interrupt and no throttle reason by itself. -/
theorem State.tick_safe {s : State} (h : s.Safe) : s.tick.Safe := by
  obtain ⟨levels, mask⟩ := h
  obtain ⟨_, _, _, hd⟩ := s.ductus.tick_frame
  refine State.seen_safe ⟨fun alone => (levels alone).trans ?_, mask.trans ?_⟩
  · simp only [State.highSources, hd]
  · simp only [State.deviceMask, tmap, List.foldl_map]
    congr 1
    funext m e
    refine congrArg (m ||| ·) (Eq.symm (State.reasonsOf_tick s rfl rfl rfl rfl rfl rfl fun n => ?_))
    exact (slewed_present _ _ n).trans (s.metering_present n)

end

end Sys2Proof.Machine

open Sys2Proof Sys2Proof.Machine

/-- Settles O3: the answer of every meaning is a next state. -/
theorem everyCommandAnswersNext : Obligations.EveryCommandAnswersNext := fun c s =>
  (exec_answers s c).imp fun _ h => h.1

/-- Settles O4: a command's answer is safe where its state is, and so is the state after 1 ns. -/
theorem everyStepKeepsSafe : Obligations.EveryStepKeepsSafe := by
  intro s t safe hstep
  unfold step at hstep
  split at hstep
  · cases hstep
    exact State.tick_safe safe
  · next c rest _ =>
    obtain ⟨u, hu, keeps⟩ := exec_answers { s with pending := rest } c
    cases hu.symm.trans hstep
    exact keeps safe

/-- Settles O1: the queue's front is what `step` looks at. -/
theorem stepRunsFront : Obligations.StepRunsFront := fun c rest s front => by
  rw [step, front]

/-- R58: a trace ring that nothing has been written into is not full. -/
theorem traceFull_resetOf (b : Build) : (State.resetOf b).trace.full = false := by
  simp only [Trace.full, Trace.fullAt, State.resetOf, BitVec.sub_self, BitVec.toNat_zero, Bool.not_false, Bool.true_and]
  decide

/-- R416: no software source is set after a device reset. -/
theorem softwareSources_resetOf (b : Build) :
    ((List.range 16).filterMap fun i => if (State.resetOf b).iga.sw.getLsbD i then some (0x3E0 + i) else none) = [] :=
  List.filterMap_eq_nil_iff.mpr fun i _ => if_neg (by
    rw [show (State.resetOf b).iga.sw = 0#16 from rfl, BitVec.getLsbD_zero]
    exact Bool.false_ne_true)

/-- R402: no source is high after a device reset. -/
theorem highSources_resetOf (b : Build) : (State.resetOf b).highSources = [] := by
  simp only [State.highSources, traceFull_resetOf, softwareSources_resetOf]
  rfl

/-- Settles O5: no source is high and no partition exists after a device reset. -/
theorem resetIsSafe : Obligations.ResetIsSafe := fun b =>
  ⟨fun _ => (highSources_resetOf b).symm, rfl⟩

end

section
/-! A satisfied EVENT_WAIT retires its submission, and the write-back asks for a translation (R187, R193, R219, R506). -/

namespace Sys2Proof.Machine

open Sys2Proof

/-- An EVENT_WAIT whose waits are all satisfied. -/
def satisfiedWait : Cmd := { grantedLaunch with op := .eventWait, granted := false }

/-- A single Hub whose queue 1 holds one submission, parsed to its end, with the EVENT_WAIT as its last command. No translation
is held for the page of the queue's write-back block. -/
def lastWait : State :=
  { State.reset with
    ctxs := [(0, { Ctx.blank 0 false with state := .active })]
    queues := [(1, { Queue.created (handleOf 0 0) with subs := [{ launchingSub with cmds := [satisfiedWait] }] })] }

/-- The wait acts, and the write-back of the retirement waits for the translation of its page. -/
theorem lastWait_settled : lastWait.settled.xlat.reqs.length = 1 := by decide

end Sys2Proof.Machine

open Sys2Proof Sys2Proof.Machine

/-- Refutes O9: among what waits may change as they act the statement leaves out the Translation Agent. A wait that completes the
last command of a submission retires it, and its write-back asks for the translation of its page where the Hub holds none
(R22, R506). The frame of the shared end itself is `State.close_frame`. -/
theorem not_endOfCommandFrame : ¬ Obligations.EndOfCommandFrame := by
  rintro ⟨-, waits, -⟩
  have kept : lastWait.settled.xlat = lastWait.xlat := (congrArg State.xlat (waits lastWait)).trans rfl
  have asked := lastWait_settled
  rw [kept] at asked
  exact absurd asked (by decide)

end

section
/-! Registers of width 32 at the Host Target Port: which offsets they stand at, and what a read or a write of one comes to
(R15, R67, R69). -/

namespace Sys2Proof.Machine

open Sys2Proof

/-- Whether a register of 64 bits begins at an offset (R69). -/
def wideRegister (off : Nat) : Bool :=
  off % 8 == 0 && (decide (0x40040 ≤ off ∧ off < 0x40080) || off == 0x40210 || off == 0x40218 ||
    decide (0x40240 ≤ off ∧ off < 0x40280) || off == 0x40308 || off == 0x50010 || off == 0x60018 ||
    decide (0x70040 ≤ off ∧ off < 0x70070) || decide (0x70100 ≤ off ∧ off < 0x70300) || off == 0x80010 || off == 0x90030 ||
    off == 0x90110 || off == 0x90118 || off == 0x90128 || off == 0x90130 || off == 0x90138 || off == 0x90140)

/-- Which offsets hold a register of 64 bits is no matter of the state. -/
theorem State.reg64_eq_none {off : Nat} (s : State) (h : wideRegister off = false) : s.reg64 off = none := by
  simp only [wideRegister, Bool.and_eq_false_iff, Bool.or_eq_false_iff, beq_eq_false_iff_ne, decide_eq_false_iff_not] at h
  rcases h with unaligned | outside
  · exact if_pos unaligned
  · simp only [State.reg64, outside, if_false, ite_self]

/-- A register of width 32 in the register blocks, outside the mailbox buffers. -/
def narrowRegister (off : Nat) : Bool :=
  off % 4 == 0 && decide (off < 0xA0000) && decide (off < 0x11000 ∨ 0x12000 ≤ off) && assignedWord off &&
    !wideRegister off && !wideRegister (off - 4)

variable {s : State} {agent off : Nat}

/-- A write of a register of width 32 comes to the register's own write (R15, R67). -/
theorem hostDone_write4 (hs : s.serves) (narrow : narrowRegister off = true) (v : W32) :
    hostDone s (write4 agent off v) = .next (s.ends (s.write32 agent off v.toNat)) := by
  simp only [narrowRegister, Bool.and_eq_true, beq_iff_eq, decide_eq_true_eq, Bool.not_eq_true'] at narrow
  obtain ⟨⟨⟨⟨⟨aligned, block⟩, outside⟩, assigned⟩, here⟩, below⟩ := narrow
  obtain ⟨refOk, notTest, awake, primary⟩ := hs
  rw [hostDone, hostAccess_write4 s agent off v refOk notTest awake primary (s.reg64_eq_none here) (s.reg64_eq_none below)
    aligned assigned block outside]
  rfl

/-- A read of a register of width 32 answers its value and has its effect (R15, R67, R498). -/
theorem hostDone_read4 (hs : s.serves) (narrow : narrowRegister off = true) : hostDone s (read4 agent off) =
    .next (s.ends ((s.readEffect agent off).respond (read4 agent off) false (inLanes off (leBytes 4 (s.reg32 agent off))))) := by
  simp only [narrowRegister, Bool.and_eq_true, beq_iff_eq, decide_eq_true_eq, Bool.not_eq_true'] at narrow
  obtain ⟨⟨⟨⟨⟨aligned, block⟩, outside⟩, assigned⟩, here⟩, below⟩ := narrow
  rw [hostDone, hostAccess_read4 hs (s.reg64_eq_none here) (s.reg64_eq_none below) aligned assigned block outside]
  rfl

/-- An access that the port accepts and serves, on a primary (R67). -/
theorem hostAccess_accepted {a : HtpAccess} {n : Nat} (hs : s.serves) (size : accessBytes a.size = some n)
    (assigned : ∃ i < n, assignedByte (a.offset + i) = true) (fits : accepted a.offset n = true) :
    s.hostAccess a = if a.write then s.serveWrite a n else s.serveRead a n := by
  obtain ⟨i, hi, here⟩ := assigned
  have someAssigned : ¬((List.range n).all fun i => !assignedByte (a.offset + i)) = true := fun none_ => by
    have clear := List.all_eq_true.mp none_ i (List.mem_range.mpr hi)
    simp [here] at clear
  rw [hostAccess_of_serves hs, State.serveAccess, size]
  obtain ⟨-, -, -, primary⟩ := hs
  simp only [if_neg someAssigned, fits, primary, not_true_eq_false, if_false]

/-- An access that R67 does not accept is refused (R68). -/
theorem hostAccess_refused {a : HtpAccess} (hs : s.serves) (refused : accessBytes a.size = none ∨
    ∃ n, accessBytes a.size = some n ∧ (∃ i < n, assignedByte (a.offset + i) = true) ∧ accepted a.offset n = false) :
    s.hostAccess a = s.refuse a := by
  rw [hostAccess_of_serves hs, State.serveAccess]
  rcases refused with size | ⟨n, size, ⟨i, hi, here⟩, misfit⟩
  · simp only [size]
  · have someAssigned : ¬((List.range n).all fun i => !assignedByte (a.offset + i)) = true := fun none_ => by
      have clear := List.all_eq_true.mp none_ i (List.mem_range.mpr hi)
      simp [here] at clear
    simp only [size, if_neg someAssigned, misfit, Bool.false_eq_true, not_false_eq_true, if_true]

/-- Before the reference clock is good every access waits at the port (R443). -/
theorem hostAccess_unclocked (unclocked : s.ductus.refOk = false) (a : HtpAccess) :
    s.hostAccess a = { s with htp := { s.htp with waiting := s.htp.waiting ++ [a] } } := by
  simp [State.hostAccess, unclocked]

/-- While HCLK does not run an access outside the IDN block, or behind one held of its agent, waits for it (R70, R71). -/
theorem hostAccess_asleep {a : HtpAccess} (clocked : s.ductus.refOk = true) (notTest : s.power.testMode = false)
    (asleep : s.awake = false) (waits : 0x10000 ≤ a.offset ∨ ∃ b ∈ s.htp.held, b.agent = a.agent) :
    s.hostAccess a = { s with htp := { s.htp with held := s.htp.held ++ [a] } } := by
  have behind : 0x10000 ≤ a.offset ∨ (s.htp.held.any fun b => b.agent == a.agent) = true := by
    simpa only [List.any_eq_true, beq_iff_eq] using waits
  simp only [State.hostAccess, clocked, notTest, asleep, not_true_eq_false, Bool.false_eq_true, or_self, if_false,
    not_false_eq_true, true_and, if_pos behind]

end Sys2Proof.Machine

open Sys2Proof Sys2Proof.Machine

/-- Settles O11: the port comes to its refusal, or to the branch that holds the access back. -/
theorem refusedAndHeldAccesses : Obligations.RefusedAndHeldAccesses := by
  refine ⟨fun s agent w off size data hs hagent hoff refused => ?_, fun s agent off size data => ⟨fun unclocked => ?_,
    fun clocked notTest asleep waits => ?_⟩⟩
  · simp only [exec, execHtpRefusedAccess, hostDone, hostAccess_refused (a := ⟨agent, w, off, size, data⟩) hs refused,
      State.refuse, Nat.mod_eq_of_lt hoff, Nat.mod_eq_of_lt hagent]
    cases w <;> rfl
  · simp only [exec, execControlRegisterWrite, hostDone, hostAccess_unclocked unclocked]
    rfl
  · simp only [exec, execControlRegisterWrite, hostDone,
      hostAccess_asleep (a := ⟨agent, true, off, size, data⟩) clocked notTest asleep waits]
    rfl

end

section
/-! CFG_CTRL written 0 changes what the withheld launches are withheld for (R458, R459). -/

namespace Sys2Proof.Machine

open Sys2Proof

/-- A serving Hub with a launch in queue 1 that Feed withholds. -/
def withheldLaunch : State :=
  { State.reset with
    ductus := { State.reset.ductus with refOk := true }
    queues := [(1, { launchingQueue with subs := [{ launchingSub with
      cmds := [{ grantedLaunch with withheld := some 0, granted := false }] }] })] }

theorem withheldLaunch_serves : withheldLaunch.serves := by decide

/-- With LAUNCH_EN 0 no launch may request allowance, so none is withheld. -/
theorem withheldLaunch_queues : (withheldLaunch.write32 0 0x60008 0).queues ≠ withheldLaunch.queues := by decide

end Sys2Proof.Machine

open Sys2Proof Sys2Proof.Machine

/-- Refutes O12: CFG_CTRL is among the registers, and a write of LAUNCH_EN 0 leaves no launch withheld (R458), which changes the
queues; the statement says of every register that the queues stay. -/
theorem not_plainRegistersReadBack : ¬ Obligations.PlainRegistersReadBack := by
  intro h
  obtain ⟨-, -, -, -, queues, -⟩ := h withheldLaunch 0 0x60008 0 1 withheldLaunch_serves (.inl (by simp))
  exact withheldLaunch_queues queues

end

section
/-! The halves of a register of 64 bits at the port (R69): the latch of a read, the staged low half and the commit. -/

namespace Sys2Proof.Machine

open Sys2Proof

variable {s : State} {agent off : Nat}

/-- Four bytes at a word of the register blocks are accepted (R67). -/
theorem accepted_word (aligned : off % 4 = 0) (block : off < 0xA0000) (outside : off < 0x11000 ∨ 0x12000 ≤ off) :
    accepted off 4 = true := by
  simp only [accepted, aligned]
  rcases outside with lower | upper <;> simp <;> omega

/-- A word of an assigned register holds an assigned byte (R14). -/
theorem assignedByte_of_word (aligned : off % 4 = 0) (block : off < 0xA0000) (assigned : assignedWord off = true) :
    ∃ i < 4, assignedByte (off + i) = true :=
  ⟨0, by decide, by simp only [assignedByte, Nat.add_zero, if_pos block]; rwa [show off / 4 * 4 = off by omega]⟩

/-- A 4-byte read of register space answers what `read32` reads (R67, R69). -/
theorem hostAccess_word_read (hs : s.serves) (aligned : off % 4 = 0) (block : off < 0xA0000)
    (outside : off < 0x11000 ∨ 0x12000 ≤ off) (assigned : assignedWord off = true) :
    s.hostAccess (read4 agent off) =
      (s.read32 agent off).2.respond (read4 agent off) false (inLanes off (leBytes 4 (s.read32 agent off).1)) := by
  rw [hostAccess_accepted (n := 4) hs rfl (assignedByte_of_word aligned block assigned) (accepted_word aligned block outside)]
  simp only [read4, Bool.false_eq_true, if_false, State.serveRead, State.readRegs]
  rw [if_neg (by omega), if_pos (by omega)]
  rfl

/-- A 4-byte write of register space is a staged write (R67, R69). -/
theorem hostAccess_word_write (hs : s.serves) (aligned : off % 4 = 0) (block : off < 0xA0000)
    (outside : off < 0x11000 ∨ 0x12000 ≤ off) (assigned : assignedWord off = true) (v : W32) :
    s.hostAccess (write4 agent off v) = s.write32Staged agent off v.toNat := by
  have value := write4_bytes agent off v (by omega)
  rw [hostAccess_accepted (n := 4) hs rfl (assignedByte_of_word aligned block assigned) (accepted_word aligned block outside)]
  simp only [write4, if_true] at value ⊢
  simp only [State.serveWrite, State.writeRegs, value, Nat.mod_eq_of_lt v.isLt, if_true]
  rw [if_neg (by omega), if_pos (by omega)]

/-- What the port holds does not say whether it serves. -/
theorem State.serves_htp (hs : s.serves) (h : Htp) : State.serves { s with htp := h } := hs

/-- No register of 64 bits begins in the mailbox buffers. -/
theorem State.reg64_of_buffer (lower : 0x11000 ≤ off) (upper : off < 0x12000) : s.reg64 off = none := by
  refine s.reg64_eq_none ?_
  simp only [wideRegister, Bool.and_eq_false_iff, Bool.or_eq_false_iff, beq_eq_false_iff_ne, decide_eq_false_iff_not]
  omega

/-- A 4-byte read of a low half answers it and latches the high half for its agent (R69). -/
theorem State.read32_wide {v : Nat} (wide : s.reg64 off = some v) : s.read32 agent off =
    (v % 2 ^ 32, { s with htp := { s.htp with
      latches := tset s.htp.latches agent ⟨off, BitVec.ofNat 32 (v / 2 ^ 32)⟩ } }) := by
  simp only [State.read32, wide]

/-- A 4-byte write of a low half is staged for its agent (R69). -/
theorem State.write32Staged_low {cur : Nat} (wide : s.reg64 off = some cur) (lo : W32) :
    s.write32Staged agent off lo.toNat = { s with htp := { s.htp with
      staged := ⟨agent, off, lo⟩ :: s.htp.staged.filter fun x => !(x.agent == agent && x.offset == off) } } := by
  simp only [State.write32Staged, wide, BitVec.ofNat_toNat, BitVec.setWidth_eq]

/-- A 4-byte write of a high half commits it with the low half that its agent staged (R69). -/
theorem State.write32Staged_high {cur : Nat} (wide : s.reg64 off = some cur) (narrow : s.reg64 (off + 4) = none)
    (lo hi : W32) :
    State.write32Staged { s with htp := { s.htp with
        staged := ⟨agent, off, lo⟩ :: s.htp.staged.filter fun x => !(x.agent == agent && x.offset == off) } }
      agent (off + 4) hi.toNat =
    State.write64 { s with htp := { s.htp with
      staged := s.htp.staged.filter fun x => !(x.agent == agent && x.offset == off) } } off (hi ++ lo) := by
  have halves : BitVec.ofNat 64 (lo.toNat + 2 ^ 32 * hi.toNat) = hi ++ lo := by
    refine BitVec.eq_of_toNat_eq ?_
    rw [BitVec.toNat_append, ← Nat.shiftLeft_add_eq_or_of_lt lo.isLt, Nat.shiftLeft_eq]
    have := lo.isLt
    have := hi.isLt
    simp only [BitVec.toNat_ofNat]
    omega
  have low : ∀ t : List StagedLow, State.reg64 { s with htp := { s.htp with staged := t } } off = some cur := fun _ => wide
  have high : ∀ t : List StagedLow, State.reg64 { s with htp := { s.htp with staged := t } } (off + 4) = none := fun _ => narrow
  simp only [State.write32Staged, low, high, Nat.add_sub_cancel, beq_self_eq_true, Bool.and_self, List.find?_cons_of_pos,
    Nat.mod_eq_of_lt hi.isLt, halves, List.filter_cons, Bool.not_true, Bool.false_eq_true, if_false, List.filter_filter]

end Sys2Proof.Machine

open Sys2Proof Sys2Proof.Machine

/-- Settles O13: the port comes to the halves' own read and write. -/
theorem sixtyFourBitRegisters : Obligations.SixtyFourBitRegisters := by
  refine fun s agent off v lo hi hs => ⟨fun wide aligned block assigned => ?_, fun listed disabled => ?_⟩
  · have outside : off < 0x11000 ∨ 0x12000 ≤ off := by
      refine Decidable.byContradiction fun inside => ?_
      rw [State.reg64_of_buffer (by omega) (by omega)] at wide
      cases wide
    simp only [exec, execLowHalfRead, hostDone, hostAccess_word_read hs (by omega) block outside assigned,
      State.read32_wide wide]
    rfl
  · have place : off % 4 = 0 ∧ off + 4 < 0xA0000 ∧ (off < 0x11000 ∨ 0x12000 ≤ off) ∧ 0x12000 ≤ off + 4 ∧
        assignedWord off = true ∧ assignedWord (off + 4) = true ∧ wideRegister (off + 4) = false := by
      revert off
      decide
    obtain ⟨aligned, block, outside, outside', assigned, assigned', narrow⟩ := place
    have wide : ∃ cur, s.reg64 off = some cur := by
      simp only [List.mem_cons, List.not_mem_nil, or_false] at listed
      rcases listed with rfl | rfl | rfl <;> exact ⟨_, rfl⟩
    obtain ⟨cur, wide⟩ := wide
    refine ⟨?_, ?_⟩
    · rw [hostAccess_word_write hs aligned (by omega) outside assigned, State.write32Staged_low wide]
    · simp only [hostAccess_word_write hs aligned (Nat.lt_of_le_of_lt (Nat.le_add_right _ 4) block) outside assigned,
        State.write32Staged_low wide]
      refine (hostAccess_word_write (State.serves_htp hs _) (by omega) block (.inr outside') assigned' hi).trans ?_
      rw [State.write32Staged_high wide (s.reg64_eq_none narrow)]

end

section
/-! What no wait touches as it acts, and the registers that a read clears (R15, R66). -/

namespace Sys2Proof.Machine

open Sys2Proof

/-- A state with all that waits may change as they act taken out: queues, contexts, microengines, memory requests and their
translations, sync waits, trace records and held effects (R187, R218, R306, R426, R506). -/
def State.apartFromWaits (s : State) : State :=
  { s with
    queues := [], ctxs := [], dmes := [], mip := [], xlat := State.reset.xlat
    sync := { s.sync with waits := [], late := [], watches := [] }
    trace := { s.trace with inbound := [], seqs := [] }, mir := { s.mir with held := [] } }

section
variable (s : State) (q slot ev : Nat) (n : W64)

@[simp] theorem apartFromWaits_modQueue (f : Queue → Queue) : (s.modQueue q f).apartFromWaits = s.apartFromWaits := rfl
@[simp] theorem apartFromWaits_modSub (f : Sub → Sub) : (s.modSub q n f).apartFromWaits = s.apartFromWaits := rfl
@[simp] theorem apartFromWaits_modCmd (off : Nat) (f : Cmd → Cmd) : (s.modCmd q n off f).apartFromWaits = s.apartFromWaits := rfl
@[simp] theorem apartFromWaits_unpark : (s.unpark q).apartFromWaits = s.apartFromWaits := rfl
@[simp] theorem apartFromWaits_dropSyncWaits : (s.dropSyncWaits q n).apartFromWaits = s.apartFromWaits := rfl
@[simp] theorem apartFromWaits_putMem (r : MemReq) : (s.putMem r).apartFromWaits = s.apartFromWaits := rfl

@[simp] theorem apartFromWaits_record (unit typ payload : Nat) :
    (s.record unit typ payload).apartFromWaits = s.apartFromWaits := by
  simp only [State.record, State.recordAs, State.recordWhen]
  split <;> rfl

@[simp] theorem apartFromWaits_writeMem (w : Option MemWait) (pasid : Nat) (part : Option Nat) (addr : W64) (data : List Byte)
    (atomic : Bool) : (s.writeMem w pasid part addr data atomic).apartFromWaits = s.apartFromWaits := by
  simp only [State.writeMem, State.emit]
  split <;> rfl

@[simp] theorem apartFromWaits_latchQueue (f : Dme → Dme) : (s.latchQueue q f).apartFromWaits = s.apartFromWaits := by
  simp only [State.latchQueue]
  split
  · split <;> rfl
  · rfl

@[simp] theorem apartFromWaits_setEvent (f : EventState → EventState) :
    (s.setEvent slot ev f).apartFromWaits = s.apartFromWaits := by
  simp only [State.setEvent]
  split
  · rfl
  · split <;> rfl

@[simp] theorem apartFromWaits_recordEvent (code : W16) : (s.recordEvent slot ev code).apartFromWaits = s.apartFromWaits :=
  apartFromWaits_setEvent ..

/-- A chain of steps that each touch no more than waits do touches no more. -/
theorem apartFromWaits_foldl {α : Type} (f : State → α → State) (touches : ∀ s a, (f s a).apartFromWaits = s.apartFromWaits)
    (l : List α) : (l.foldl f s).apartFromWaits = s.apartFromWaits := by
  induction l generalizing s with
  | nil => rfl
  | cons a l ih => rw [List.foldl_cons, ih, touches]

@[simp] theorem apartFromWaits_recordEvents (evs : List Nat) (code : W16) :
    (s.recordEvents slot evs code).apartFromWaits = s.apartFromWaits :=
  apartFromWaits_foldl s _ (fun s e => apartFromWaits_recordEvent s slot e code) evs

@[simp] theorem apartFromWaits_errorEvents (evs : List Nat) (code : W16) :
    (s.errorEvents slot evs code).apartFromWaits = s.apartFromWaits :=
  apartFromWaits_foldl s _ (fun s e => apartFromWaits_setEvent s slot e _) evs

@[simp] theorem apartFromWaits_readEvent : (s.readEvent slot ev).apartFromWaits = s.apartFromWaits := by
  simp only [State.readEvent, State.readMem]
  split <;> rfl

@[simp] theorem apartFromWaits_issueWriteBack : (s.issueWriteBack q).apartFromWaits = s.apartFromWaits := by
  simp only [State.issueWriteBack]
  split
  · rfl
  · split
    · split
      · split <;> simp
      · rfl
    · rfl

@[simp] theorem apartFromWaits_scheduleWriteBack : (s.scheduleWriteBack q).apartFromWaits = s.apartFromWaits := by
  simp only [State.scheduleWriteBack]
  split
  · split <;> simp
  · rfl

@[simp] theorem apartFromWaits_retire (status : W16) : (s.retire q n status).apartFromWaits = s.apartFromWaits := by
  simp only [State.retire]
  split
  · rfl
  · split
    · rfl
    · split
      · split <;> simp
      · simp

@[simp] theorem apartFromWaits_maybeRetire : (s.maybeRetire q n).apartFromWaits = s.apartFromWaits := by
  simp only [State.maybeRetire]
  split
  · rfl
  · split
    · split
      · simp
      · split <;> simp
    · rfl

@[simp] theorem apartFromWaits_faultQueue (f : W64) (code : W16) : (s.faultQueue q f code).apartFromWaits = s.apartFromWaits := by
  simp only [State.faultQueue]
  split
  · rfl
  · split
    · split <;> simp
    · simp

@[simp] theorem apartFromWaits_cbFetch : (s.cbFetch q).apartFromWaits = s.apartFromWaits := by
  simp only [State.cbFetch]
  split
  · split
    · rfl
    · split
      · rfl
      · simp [State.readMem]
  · rfl

@[simp] theorem apartFromWaits_failSub (code : W16) (killed : Bool) (extra : List Nat) (unit : Nat) :
    (s.failSub q n code killed extra unit).apartFromWaits = s.apartFromWaits := by
  simp only [State.failSub]
  split
  · split
    · rfl
    · cases killed <;> simp
  · rfl

@[simp] theorem apartFromWaits_failCmd (off : Nat) (code : W16) (unit : Nat) :
    (s.failCmd q n off code unit).apartFromWaits = s.apartFromWaits := by
  simp only [State.failCmd]
  split
  · simp only [apartFromWaits_maybeRetire, apartFromWaits_failSub]
    split
    · split <;> simp
    · split <;> split <;> simp
  · rfl

@[simp] theorem apartFromWaits_completeCmd (off : Nat) : (s.completeCmd q n off).apartFromWaits = s.apartFromWaits := by
  simp [State.completeCmd]

@[simp] theorem apartFromWaits_registerCmd (c : Cmd) : (s.registerCmd q n c).apartFromWaits = s.apartFromWaits := by
  simp only [State.registerCmd]
  split
  · rfl
  · split
    · simp
    · split
      · simp
      · exact apartFromWaits_foldl s (fun s (e : Nat × Nat) => s.readEvent e.1 e.2) (fun s e => apartFromWaits_readEvent s e.1 e.2) _

@[simp] theorem apartFromWaits_registerLater (c : Cmd) : (s.registerLater q n c).apartFromWaits = s.apartFromWaits := by
  simp only [State.registerLater]
  split
  · split <;> simp
  · simp

end

theorem apartFromWaits_registerRead (fuel : Nat) (s : State) :
    (State.registerRead fuel s).apartFromWaits = s.apartFromWaits := by
  induction fuel generalizing s with
  | zero => rfl
  | succ fuel ih =>
    rw [State.registerRead]
    split
    · rw [ih, apartFromWaits_registerLater]
    · rfl

theorem apartFromWaits_settleWaits (fuel : Nat) (s : State) :
    (State.settleWaits fuel s).apartFromWaits = s.apartFromWaits := by
  induction fuel generalizing s with
  | zero => rfl
  | succ fuel ih =>
    rw [State.settleWaits]
    split
    · rfl
    · rw [ih, apartFromWaits_failCmd]
    · rw [ih, apartFromWaits_completeCmd]

theorem apartFromWaits_settleAll (fuel : Nat) (s : State) :
    (State.settleAll fuel s).apartFromWaits = s.apartFromWaits := by
  induction fuel generalizing s with
  | zero => rfl
  | succ fuel ih =>
    simp only [State.settleAll]
    split
    · rw [apartFromWaits_settleWaits, apartFromWaits_registerRead]
    · rw [ih, apartFromWaits_foldl _ (fun s (p : Nat × List Nat) => s.errorEvents p.1 p.2 Code.ownerGone)
        fun s p => apartFromWaits_errorEvents s p.1 p.2 _, apartFromWaits_settleWaits, apartFromWaits_registerRead]

/-- Waits that act leave the rest of the block as it was (R218, R219, R308). -/
theorem State.settled_apartFromWaits (s : State) : s.settled.apartFromWaits = s.apartFromWaits :=
  apartFromWaits_settleAll _ s

/-- The RC counters of the map (R15). -/
def clearedByRead : List Nat :=
  [0x00100, 0x00108, 0x10404, 0x10408, 0x20004, 0x3003C, 0x3004C, 0x50028, 0x50030, 0x60014, 0x7002C, 0x80008, 0x8000C,
    0x80020, 0x9003C, 0x90148]

/-- What an RC counter shows is no matter of what waits, nor the shared end of a command, may change. -/
theorem reg32_ends_of_clearedByRead {off : Nat} (listed : off ∈ clearedByRead) (s t : State) (agent : Nat) :
    (s.ends t).reg32 agent off = t.reg32 agent off := by
  have shows (u : State) : u.apartFromWaits.reg32 agent off = u.reg32 agent off := by
    simp only [clearedByRead, List.mem_cons, List.not_mem_nil, or_false] at listed
    rcases listed with rfl | rfl | rfl | rfl | rfl | rfl | rfl | rfl | rfl | rfl | rfl | rfl | rfl | rfl | rfl | rfl <;> rfl
  have ended : (State.close s t.settled).reg32 agent off = t.settled.reg32 agent off := by
    obtain ⟨_, _, _, _, _, _, _, _, _, closed⟩ := State.close_frame (s := t.settled) s
    rw [closed]
    simp only [clearedByRead, List.mem_cons, List.not_mem_nil, or_false] at listed
    rcases listed with rfl | rfl | rfl | rfl | rfl | rfl | rfl | rfl | rfl | rfl | rfl | rfl | rfl | rfl | rfl | rfl <;> rfl
  rw [State.ends, ended, ← shows, State.settled_apartFromWaits, shows]

/-- A read leaves 0 in an RC counter (R15). -/
theorem reg32_readEffect {off : Nat} (listed : off ∈ clearedByRead) (s : State) (agent : Nat) (a : HtpAccess) (data : BitVec 512) :
    ((s.readEffect agent off).respond a false data).reg32 agent off = 0 := by
  simp only [clearedByRead, List.mem_cons, List.not_mem_nil, or_false] at listed
  rcases listed with rfl | rfl | rfl | rfl | rfl | rfl | rfl | rfl | rfl | rfl | rfl | rfl | rfl | rfl | rfl | rfl
  iterate 11 exact rfl
  iterate 3 exact ite_self _
  iterate 2 exact rfl

end Sys2Proof.Machine

open Sys2Proof Sys2Proof.Machine

/-- Settles O14: each is a read of a register of width 32 with its effect; a counter reads 0 after the shared end too. -/
theorem timeAndReadClearReads : Obligations.TimeAndReadClearReads := by
  refine fun s agent off hs => ⟨?_, fun listed => ⟨?_, ?_⟩, ?_, ?_⟩
  · exact hostDone_read4 hs (by decide)
  · exact hostDone_read4 hs (by revert off; decide)
  · rw [reg32_ends_of_clearedByRead listed, reg32_readEffect listed]
  · exact hostDone_read4 hs (by decide)
  · exact hostDone_read4 hs (by decide)

end

section
/-! The doorbell channel (R77 to R80): where a write to it goes, and what the catcher does with it. -/

namespace Sys2Proof.Machine

open Sys2Proof

variable {s : State} {page index size r : Nat} {data : W64}

/-- Whether the catcher takes a doorbell write now: no writes are held before it, and the clock is good (R80, R443). -/
def State.catches (s : State) : Prop := s.ductus.refOk = true ∧ s.power.testMode = false ∧ s.bells.held = []

/-- The doorbell of a write to a page and index, `r` bytes beyond the multiple of 8 (R77, R78). -/
def doorbellOf (page index size r : Nat) (data : W64) : HeldDoorbell :=
  ⟨page, index, data.setWidth 32, (size == 2 || size == 3) && r == 0 && (if size = 2 then 0 else data.toNat / 2 ^ 32) == 0⟩

/-- A well-formed doorbell is a 4-byte write, or an 8-byte one with nothing above bit 31, at the multiple of 8 (R78). -/
theorem doorbellOf_formed :
    (doorbellOf page index size r data).formed = true ↔ (size = 2 ∨ (size = 3 ∧ data.toNat < 2 ^ 32)) ∧ r = 0 := by
  simp only [doorbellOf, Bool.and_eq_true, Bool.or_eq_true, beq_iff_eq]
  split <;> omega

/-- A doorbell write is held behind others, or reaches the catcher (R80, R443). -/
theorem exec_doorbellWrite (hpage : page < 16384) (hindex : index < 512) (hr : r < 8) :
    exec (.doorbellWrite (page * 4096 + index * 8 + r) size data) s = .next (State.close s
      (if ¬s.ductus.refOk ∨ s.power.testMode ∨ s.bells.held ≠ [] then
        { s with bells := { s.bells with held := s.bells.held ++ [doorbellOf page index size r data] } }
      else s.takeDoorbell (doorbellOf page index size r data))) := by
  have at_page : (page * 4096 + index * 8 + r) / 4096 % 16384 = page := by omega
  have at_index : (page * 4096 + index * 8 + r) % 4096 / 8 = index := by omega
  have at_byte : (page * 4096 + index * 8 + r) % 8 = r := by omega
  simp only [exec, execDoorbellWrite, at_page, at_index, at_byte, doorbellOf]
  split <;> rfl

theorem exec_doorbellWrite_of_catches (hpage : page < 16384) (hindex : index < 512) (hr : r < 8) (free : s.catches) :
    exec (.doorbellWrite (page * 4096 + index * 8 + r) size data) s =
      .next (State.close s (s.takeDoorbell (doorbellOf page index size r data))) := by
  obtain ⟨clocked, running, empty⟩ := free
  rw [exec_doorbellWrite hpage hindex hr, if_neg (by simp [clocked, running, empty])]

/-- A doorbell that is not well-formed is dropped as FORMAT (R78). -/
theorem takeDoorbell_malformed (malformed : ¬((size = 2 ∨ (size = 3 ∧ data.toNat < 2 ^ 32)) ∧ r = 0)) :
    s.takeDoorbell (doorbellOf page index size r data) = s.dropDoorbell page index 1 := by
  rw [State.takeDoorbell, if_neg (mt doorbellOf_formed.mp malformed)]
  rfl

/-- A well-formed one goes by the binding of its page (R78). -/
theorem takeDoorbell_formed (formed : size = 2 ∨ (size = 3 ∧ data.toNat < 2 ^ 32)) :
    s.takeDoorbell (doorbellOf page index size 0 data) = s.catchDoorbell page index (data.setWidth 32) := by
  rw [State.takeDoorbell, if_pos (doorbellOf_formed.mpr ⟨formed, rfl⟩)]
  rfl

/-- Whether an entry of a page and index is pending, as the catcher looks for it (R80). -/
theorem any_pending (l : List Doorbell) (page index : Nat) :
    (l.any fun e => e.page == page && e.index == index) = true ↔ ∃ e ∈ l, e.page = page ∧ e.index = index := by
  simp only [List.any_eq_true, Bool.and_eq_true, beq_iff_eq]

/-- A pending doorbell is replaced where it stands (R80). -/
theorem Bells.latch_pending {b : Bells} {d : Doorbell} (pending : ∃ e ∈ b.catcher, e.page = d.page ∧ e.index = d.index) :
    b.latch d = some { b with catcher := b.catcher.map fun e => if e.page = d.page ∧ e.index = d.index then d else e } := by
  rw [Bells.latch, if_pos ((any_pending ..).mpr pending)]

/-- A new doorbell is the catcher's last while there is room (R80). -/
theorem Bells.latch_new {b : Bells} {d : Doorbell} (new : ¬∃ e ∈ b.catcher, e.page = d.page ∧ e.index = d.index)
    (room : b.catcher.length < 4096) : b.latch d = some { b with catcher := b.catcher ++ [d] } := by
  rw [Bells.latch, if_neg (mt (any_pending ..).mp new), if_pos room]

/-- A new doorbell finds no place in a full catcher (R80). -/
theorem Bells.latch_full {b : Bells} {d : Doorbell} (new : ¬∃ e ∈ b.catcher, e.page = d.page ∧ e.index = d.index)
    (full : 4096 ≤ b.catcher.length) : b.latch d = none := by
  rw [Bells.latch, if_neg (mt (any_pending ..).mp new), if_neg (by omega)]

end Sys2Proof.Machine

open Sys2Proof Sys2Proof.Machine

/-- Settles O15, along the catcher's own case split: held, malformed, unbound, pending, room, full. -/
theorem doorbellCatcher : Obligations.DoorbellCatcher := by
  refine fun s page index size data hpage hindex => ⟨fun held r hr => ?_, fun flows malformed => ?_,
    fun flows r hr misaligned => ?_, fun formed flows => ?_⟩
  · refine ⟨doorbellOf page index size r data, rfl, rfl, rfl, doorbellOf_formed, ?_⟩
    rw [exec_doorbellWrite hpage hindex hr, if_pos]
    refine Decidable.byContradiction fun free => held ?_
    obtain ⟨clocked, untested, empty⟩ : _ ∧ _ ∧ _ := by simpa only [not_or] using free
    exact ⟨Decidable.not_not.mp clocked, Bool.eq_false_iff.mpr untested, Decidable.not_not.mp empty⟩
  · rw [← Nat.add_zero (page * 4096 + index * 8), exec_doorbellWrite_of_catches hpage hindex (by decide) flows,
      takeDoorbell_malformed fun h => malformed h.1]
    rfl
  · rw [exec_doorbellWrite_of_catches hpage hindex hr flows, takeDoorbell_malformed fun h => misaligned h.2]
    rfl
  · have taken := exec_doorbellWrite_of_catches (size := size) (data := data) hpage hindex (r := 0) (by decide) flows
    rw [Nat.add_zero, takeDoorbell_formed formed] at taken
    rw [taken]
    obtain ⟨-, -, empty⟩ := flows
    refine ⟨fun unbound => ?_, fun h bound => ⟨fun pending => ?_, fun new room => ?_, fun new full => ?_⟩⟩
    · simp only [State.catchDoorbell, unbound]
      rfl
    · simp only [State.catchDoorbell, bound]
      rw [Bells.latch_pending pending]
      have same : ∀ e : Doorbell,
          (if e.page = page ∧ e.index = index then
            (⟨page, index, data.setWidth 32, h, s.aoNow, !s.awake, s.trace.admits 1 false⟩ : Doorbell) else e) =
          if e.page = page ∧ e.index = index then { e with
            tail := data.setWidth 32, handle := h, stamp := s.aoNow, ao := !s.awake, traced := s.trace.admits 1 false } else e := by
        intro e
        split
        next here => rw [← here.1, ← here.2]
        next => rfl
      simp only [same]
    · simp only [State.catchDoorbell, bound]
      rw [Bells.latch_new new room]
    · simp only [State.catchDoorbell, bound]
      rw [Bells.latch_full new full]
      simp only [empty, List.nil_append]

end

section
/-! Mailboxes and Inkwell under the host's writes (R81 to R94). -/

namespace Sys2Proof.Machine

open Sys2Proof

variable {s : State} {agent n : Nat} {v : W32} {b : Mailbox}

/-- A write to a register of mailbox `n` comes to the mailbox (R87). -/
theorem hostDone_write4_box {reg : Nat} (hs : s.serves) (hn : n < 16) (listed : reg ∈ [0x04, 0x08, 0x0C, 0x14, 0x1C]) :
    hostDone s (write4 agent (0x10000 + reg + n % 16 * 0x40) v) = .next (s.ends (s.mbxWrite agent n reg v.toNat)) := by
  have narrow : ∀ n < 16, ∀ reg ∈ [0x04, 0x08, 0x0C, 0x14, 0x1C], narrowRegister (0x10000 + reg + n * 0x40) = true := by
    decide
  have small : reg < 0x40 := by
    revert reg
    decide
  rw [Nat.mod_eq_of_lt hn, hostDone_write4 hs (narrow n hn reg listed)]
  simp only [State.write32, show (0x10000 + reg + n * 0x40) / 0x10000 = 1 by omega,
    show (0x10000 + reg + n * 0x40) % 0x10000 = n * 0x40 + reg by omega, State.writeMbx,
    if_pos (show n * 0x40 + reg < 0x400 by omega), show (n * 0x40 + reg) / 0x40 = n by omega,
    show (n * 0x40 + reg) % 0x40 = reg by omega]

/-- A change of a position where an element stands sets it. -/
theorem lmod_eq_set {α : Type} {l : List α} {i : Nat} {a : α} {f : α → α} (found : l[i]? = some a) :
    lmod l i f = l.set i (f a) := by
  refine List.ext_getElem? fun j => ?_
  by_cases same : i = j
  · obtain ⟨inside, -⟩ := List.getElem?_eq_some_iff.mp found
    subst same
    rw [getElem?_lmod_self, found, List.getElem?_set_self inside, Option.map_some]
  · rw [getElem?_lmod_of_ne _ _ (Ne.symm same), List.getElem?_set_ne same]

/-- A change of a mailbox that is there puts the new one in its place. -/
theorem State.modBox_of_getElem? {f : Mailbox → Mailbox} (here : s.mbx.boxes[n]? = some b) :
    s.modBox n f = { s with mbx := { s.mbx with boxes := s.mbx.boxes.set n (f b) } } := by
  rw [State.modBox, lmod_eq_set here]

/-- Whether an agent owns a mailbox (R82). -/
theorem owns_iff : (b.state != .free && b.owner == agent) = true ↔ b.state ≠ .free ∧ b.owner = agent := by
  simp

/-- MBX_RELEASE of a mailbox that is there (R83). -/
theorem mbxWrite_release (here : s.mbx.boxes[n]? = some b) (v : Nat) : s.mbxWrite agent n 0x08 v =
    if (b.state ≠ .free ∧ b.owner = agent) ∧ ¬(b.state = .posted ∨ b.state = .busy) then s.modBox n Mailbox.freed
    else s.mbxDiscard := by
  simp only [State.mbxWrite, here, Mailbox.busy, Bool.and_eq_true, Bool.not_eq_true', Bool.or_eq_false_iff, bne_iff_ne,
    beq_iff_eq, beq_eq_false_iff_ne, not_or]

/-- MBX_ACK of a mailbox that is there (R83). -/
theorem mbxWrite_ack (here : s.mbx.boxes[n]? = some b) (v : Nat) : s.mbxWrite agent n 0x14 v =
    if (b.state ≠ .free ∧ b.owner = agent) ∧ b.state = .done then s.modBox n fun b => { b with state := .idle }
    else s.mbxDiscard := by
  simp only [State.mbxWrite, here, Bool.and_eq_true, bne_iff_ne, beq_iff_eq]

/-- MBX_DOORBELL of a mailbox that is there (R83). -/
theorem mbxWrite_doorbell (here : s.mbx.boxes[n]? = some b) (v : Nat) : s.mbxWrite agent n 0x0C v =
    if (b.state ≠ .free ∧ b.owner = agent) ∧ b.state = .idle then s.postBox n (bits v 8 0) else s.mbxDiscard := by
  simp only [State.mbxWrite, here, Bool.and_eq_true, bne_iff_ne, beq_iff_eq]

/-- MBX_INK of a mailbox that is there (R90). -/
theorem mbxWrite_ink (here : s.mbx.boxes[n]? = some b) (v : Nat) : s.mbxWrite agent n 0x1C v =
    if ((b.state ≠ .free ∧ b.owner = agent) ∧ b.state = .idle) ∧ s.inkRangeOk n (bits v 7 0) (bits v 16 8) = true then
      s.modBox n fun b => { b with inkBase := bits v 7 0, inkCount := bits v 16 8 }
    else s.mbxDiscard := by
  simp only [State.mbxWrite, here, Bool.and_eq_true, bne_iff_ne, beq_iff_eq]

/-- A MAILBOX record changes the trace alone (R48, R49). -/
theorem State.mailboxRecord_frame (s : State) (n : Nat) (status : W16) (posted : Bool) : ∃ inbound seqs,
    s.mailboxRecord n status posted = { s with trace := { s.trace with inbound := inbound, seqs := seqs } } :=
  s.recordAs_frame ..

/-- MBX_FORCE_FREE comes to the mailbox that it names (R83). -/
theorem exec_mbxForceFree (hs : s.serves) (named : bits v.toNat 3 0 = n) :
    exec (.mbxForceFree agent v) s = .next (s.ends (s.forceFree n)) := by
  rw [← named]
  exact hostDone_write4 hs (by decide) v

/-- An access to the mailbox buffers comes to them (R67, R82). -/
theorem exec_mbxDataWrite {size k off : Nat} {data : BitVec 512} (hs : s.serves) (hsize : accessBytes size = some k)
    (aligned : off % k = 0) (inside : off < 0x1000) : exec (.mbxDataWrite agent off size data) s =
      .next (s.ends (s.mbxDataWrite agent off (HtpAccess.bytes ⟨agent, true, 0x11000 + off, size, data⟩ k))) := by
  obtain ⟨whole, positive⟩ : 0x11000 % k = 0 ∧ 0 < k := by
    unfold accessBytes at hsize
    split at hsize <;> cases hsize <;> decide
  have assigned : ∃ i < k, assignedByte (0x11000 + off + i) = true :=
    ⟨0, positive, by
      rw [assignedByte, if_pos (by omega)]
      simp only [assignedWord, show (0x11000 + off + 0) / 4 * 4 / 0x10000 = 1 by omega, Bool.or_eq_true, Bool.and_eq_true,
        decide_eq_true_eq]
      omega⟩
  have fits : accepted (0x11000 + off) k = true := by
    have start : (0x11000 + off) % k = 0 := by simp [Nat.add_mod 0x11000 off k, whole, aligned]
    rw [accepted, if_pos (by omega), start]
    rfl
  simp only [exec, execMbxDataWrite, hostDone, Nat.mod_eq_of_lt inside]
  rw [hostAccess_accepted (a := ⟨agent, true, 0x11000 + off, size, data⟩) hs hsize assigned fits]
  simp only [if_true, State.serveWrite]
  rw [if_pos (by omega), Nat.add_sub_cancel_left]
  rfl

/-- An access to Inkwell comes to it (R67, R94). -/
theorem exec_inkwellHostWrite {size k off : Nat} {data : BitVec 512} (hs : s.serves) (hsize : accessBytes size = some k)
    (aligned : off % k = 0) (inside : off < 0x100000) : exec (.inkwellHostWrite agent off size data) s =
      .next (s.ends (s.inkWrite agent off (HtpAccess.bytes ⟨agent, true, 0x100000 + off, size, data⟩ k))) := by
  obtain ⟨whole, positive⟩ : 0x100000 % k = 0 ∧ 0 < k := by
    unfold accessBytes at hsize
    split at hsize <;> cases hsize <;> decide
  have assigned : ∃ i < k, assignedByte (0x100000 + off + i) = true :=
    ⟨0, positive, by
      rw [assignedByte, if_neg (by omega)]
      simp only [Bool.and_eq_true, decide_eq_true_eq]
      omega⟩
  have fits : accepted (0x100000 + off) k = true := by
    have start : (0x100000 + off) % k = 0 := by simp [Nat.add_mod 0x100000 off k, whole, aligned]
    rw [accepted, if_neg (by omega), if_neg (by omega), if_pos (by omega), start]
    rfl
  simp only [exec, execInkwellHostWrite, hostDone, Nat.mod_eq_of_lt inside]
  rw [hostAccess_accepted (a := ⟨agent, true, 0x100000 + off, size, data⟩) hs hsize assigned fits]
  simp only [if_true, State.serveWrite]
  rw [if_neg (by omega), if_neg (by omega), if_pos (by omega), Nat.add_sub_cancel_left]
  rfl

end Sys2Proof.Machine

open Sys2Proof Sys2Proof.Machine

/-- Settles O16, by the mailbox's state. -/
theorem mailboxOwnership : Obligations.MailboxOwnership := by
  refine fun s agent n v b hs hn here => ⟨fun free => ?_, fun taken => ?_, fun own idle => ?_, fun refused => ?_, fun own done =>
    ?_, fun refused => ?_, fun named => ?_⟩
  · refine (hostDone_write4_box (reg := 0x04) hs hn (by decide)).trans ?_
    simp only [State.mbxWrite, here, if_pos free, State.modBox_of_getElem? here]
  · refine (hostDone_write4_box (reg := 0x04) hs hn (by decide)).trans ?_
    simp only [State.mbxWrite, here, if_neg taken]
  · refine (hostDone_write4_box (reg := 0x08) hs hn (by decide)).trans ?_
    have unanswered : ¬(b.state = .posted ∨ b.state = .busy) := by
      rcases idle with idle | idle <;> simp [idle]
    rw [mbxWrite_release here, if_pos ⟨own, unanswered⟩, State.modBox_of_getElem? here]
    rfl
  · refine (hostDone_write4_box (reg := 0x08) hs hn (by decide)).trans ?_
    rw [mbxWrite_release here, if_neg fun ⟨own, answered⟩ => refused.elim (· own) answered]
    rfl
  · refine (hostDone_write4_box (reg := 0x14) hs hn (by decide)).trans ?_
    rw [mbxWrite_ack here, if_pos ⟨own, done⟩, State.modBox_of_getElem? here]
  · refine (hostDone_write4_box (reg := 0x14) hs hn (by decide)).trans ?_
    rw [mbxWrite_ack here, if_neg fun ⟨own, done⟩ => refused.elim (· own) (· done)]
    rfl
  · have same : s.mbx.boxes.set n b = s.mbx.boxes := (lmod_eq_set (f := id) here).symm.trans (List.modify_id ..)
    simp only [exec_mbxForceFree hs named, State.forceFree, State.modBox_of_getElem? here]
    refine ⟨?_, ?_, fun free => ?_⟩
    · rintro (idle | idle) <;> simp only [idle] <;> rfl
    · rintro (posted | busy)
      · simp only [posted]
      · simp only [busy]
    · simp only [free]
      rw [same]

/-- Settles O17, by the mailbox's owner and state. -/
theorem mailboxPosting : Obligations.MailboxPosting := by
  refine fun s agent n size k off v data b hs hn here => ⟨fun own idle good running => ?_, fun refused => ?_,
    fun own idle fits => ?_, fun refused => ?_, fun hsize aligned mine => ?_⟩
  · refine (hostDone_write4_box (reg := 0x0C) hs hn (by decide)).trans ?_
    rw [mbxWrite_doorbell here, if_pos ⟨own, idle⟩, State.postBox, if_pos good]
    obtain ⟨inbound, seqs, recorded⟩ := s.mailboxRecord_frame n 0 false
    rw [recorded]
    exact congrArg (fun t => Host.Outcome.next (s.ends t)) (if_neg running)
  · refine (hostDone_write4_box (reg := 0x0C) hs hn (by decide)).trans ?_
    rw [mbxWrite_doorbell here]
    by_cases owned : (b.state ≠ .free ∧ b.owner = agent) ∧ b.state = .idle
    · have badLength := (refused.resolve_left (not_not_intro owned.1)).resolve_left (not_not_intro owned.2)
      rw [if_pos owned, State.postBox, if_neg badLength]
      rfl
    · rw [if_neg owned]
      rfl
  · refine (hostDone_write4_box (reg := 0x1C) hs hn (by decide)).trans ?_
    rw [mbxWrite_ink here, if_pos ⟨⟨own, idle⟩, fits⟩]
  · refine (hostDone_write4_box (reg := 0x1C) hs hn (by decide)).trans ?_
    rw [mbxWrite_ink here, if_neg]
    · rfl
    · rintro ⟨⟨own, idle⟩, fits⟩
      rcases refused with foreign | busy | misfit
      · exact foreign own
      · exact busy idle
      · simp [fits] at misfit
  · have inside : off < 0x1000 := by omega
    rw [exec_mbxDataWrite hs hsize aligned inside]
    simp only [State.mbxDataWrite, mine, here]
    refine ⟨fun owner idle => ?_, fun refused => ?_⟩
    · rw [if_pos ⟨idle, owner⟩]
    · rw [if_neg fun ⟨idle, owner⟩ => refused.elim (fun foreign => foreign owner) fun busy => busy idle]
      rfl

/-- Settles O18, by the boot state and the slot's owner. -/
theorem inkwellHostWrites : Obligations.InkwellHostWrites := by
  refine fun s agent size k off data hs inside hsize aligned => ⟨fun unbooted => ?_, fun running => ?_⟩
  · rw [exec_inkwellHostWrite hs hsize aligned inside]
    simp only [State.inkWrite, State.inkSlots, beq_iff_eq, unbooted, not_false_eq_true, if_true]
  · rw [exec_inkwellHostWrite hs hsize aligned inside]
    have length : (HtpAccess.bytes ⟨agent, true, 0x100000 + off, size, data⟩ k).length = k := by
      simp [HtpAccess.bytes]
    have slots : ¬¬s.inkSlots = true := by simp [State.inkSlots, running]
    simp only [State.inkWrite, if_neg slots, length]
    refine ⟨fun outside => ?_, fun b ranged => ⟨fun foreign => ?_, fun owner => ⟨fun start eight => ⟨fun permitted => ?_,
      fun forbidden => ?_⟩, fun word partial_ => ?_, fun payload mine => ?_, fun payload others => ?_⟩⟩⟩
    · simp only [outside]
      rfl
    · simp only [ranged, if_pos foreign]
      rfl
    · simp only [ranged, if_neg (not_not_intro owner)]
      rw [if_pos (by omega), if_pos ⟨start, eight, permitted⟩]
    · simp only [ranged, if_neg (not_not_intro owner)]
      rw [if_pos (by omega), if_neg (by simp [forbidden])]
      rfl
    · simp only [ranged, if_neg (not_not_intro owner), if_pos word]
      rw [if_neg fun ⟨start, eight, _⟩ => partial_.elim (fun later => later start) fun other => other eight]
      rfl
    · simp only [ranged, if_neg (not_not_intro owner), if_neg (Nat.not_lt.mpr payload), if_pos mine]
    · simp only [ranged, if_neg (not_not_intro owner), if_neg (Nat.not_lt.mpr payload), if_neg (Nat.not_le.mpr others)]
      rfl

end

section
/-! Registers with a behaviour behind them: trace control, the seal, the boot load, FLT_RESET, the mirror's control, the
stop-counts and Feed's. -/

namespace Sys2Proof.Machine

open Sys2Proof

variable {s : State} {agent : Nat} {v : W32}

/-- A write that leaves trace bits to DUC_CTRL and arms nothing (R60, R62). -/
theorem writeDucCtrl_disarmed {v : Nat} (disarmed : bit v 0 = false) :
    s.writeDucCtrl v = State.setTraceEn { s with trace := { s.trace with wrap := bit v 2 } } (bit v 1) := by
  simp only [State.writeDucCtrl, disarmed, Bool.false_eq_true, if_false]

/-- CFG_SEAL is taken in the states that R453 names, while no check runs (R452). -/
theorem sealWrite_taken (state : s.cfg.state ∈ [.ready, .incomplete, .sealBroken]) (idle : s.cfg.check = none) :
    s.sealWrite v = { s with cfg := { s.cfg with check := some { value := v, tables := s.cfg.tables, changed := none } } } := by
  simp only [List.mem_cons, List.not_mem_nil, or_false] at state
  rcases state with state | state | state <;> simp [State.sealWrite, state, idle]

/-- CFG_SEAL is ignored in the other states, and while a check runs (R452). -/
theorem sealWrite_ignored (ignored : s.cfg.state ∈ [.training, .sealed, .halted] ∨ s.cfg.check.isSome = true) :
    s.sealWrite v = s := by
  simp only [List.mem_cons, List.not_mem_nil, or_false] at ignored
  rcases ignored with (state | state | state) | running
  · simp [State.sealWrite, state]
  · simp [State.sealWrite, state]
  · simp [State.sealWrite, state]
  · simp [State.sealWrite, running]

/-- START stays pending where the load waits for its keys (R437). -/
theorem writeCpb_start (start : bit v.toNat 0 = true) (state : s.cpb.state ≠ .running) :
    s.writeCpb 0 v.toNat = s.cpbStart := by
  simp only [State.writeCpb, if_neg state, start, if_true]

/-- START 0 starts nothing (R437). -/
theorem writeCpb_idle (idle : bit v.toNat 0 = false) : s.writeCpb 0 v.toNat = s := by
  simp only [State.writeCpb, idle, Bool.false_eq_true, if_false, ite_self]

/-- START in OPEN and in FAILED is one behaviour (R437). -/
theorem cpbStart_ready (state : s.cpb.state = .opened ∨ s.cpb.state = .failed) : s.cpbStart = s.startFrom := by
  rcases state with state | state <;> simp only [State.cpbStart, state]

/-- A Hub that serves has not handed over (R475). -/
theorem State.serves_role (hs : s.serves) : s.mir.role ≠ .detached ∧ s.mir.role ≠ .yielded := by
  obtain ⟨-, -, -, primary⟩ := hs
  constructor <;> intro role <;> simp [State.primary, role] at primary

/-- On a Hub that serves, MIR_CTRL does no more than lower source 0x3C2 (R490). -/
theorem mirCtrl_of_serves (hs : s.serves) (v : Nat) :
    s.mirCtrl v = if bit v 0 then { s with mir := { s.mir with failoverSource := false } } else s := by
  obtain ⟨attached, holding⟩ := State.serves_role hs
  by_cases ack : bit v 0 = true <;> simp [State.mirCtrl, ack, attached, holding]

/-- A write of MIR_CTRL comes to its behaviour in a mirrored build, and to nothing in another (R489, R490). -/
theorem hostDone_mirCtrl (hs : s.serves) (v : W32) :
    hostDone s (write4 agent 0x80004 v) = .next (s.ends (if s.build.mirrored then s.mirCtrl v.toNat else s)) := by
  rw [hostDone_write4 hs (by decide)]
  simp [State.write32]

/-- With no queue and every context FREE no wait is there to act (R153, R218). -/
theorem State.settled_of_noQueues {s : State} (none_ : s.queues = []) (free : ∀ e ∈ s.ctxs, e.2.state = .free) :
    s.settled = s := by
  have noOrphans : s.orphans = [] := by
    refine List.filterMap_eq_nil_iff.mpr fun e he => ?_
    simp only [free e he, reduceCtorEq, false_and, if_false]
  have idle : s.commandCount = 0 := by simp [State.commandCount, none_]
  simp only [State.settled, State.settleAll, idle, State.registerRead, State.settleWaits, noOrphans]

/-- On a Hub that is not primary, a write to the mirror's registers is served all the same (R481). -/
theorem hostAccess_mirror_follower (clocked : s.ductus.refOk = true) (running : s.power.testMode = false)
    (awake : s.awake = true) (follows : s.primary = false) (mirrored : s.build.mirrored = true) (v : W32) :
    s.hostAccess (write4 agent 0x80004 v) = s.mirCtrl v.toNat := by
  have value := write4_bytes agent 0x80004 v (by decide)
  have narrow : s.reg64 0x80004 = none ∧ s.reg64 0x80000 = none :=
    ⟨s.reg64_eq_none (by decide), s.reg64_eq_none (by decide)⟩
  have accepts : accepted 0x80004 4 = true := by decide
  have assigned : ((List.range 4).all fun i => !assignedByte (0x80004 + i)) = false := by decide
  simp only [write4] at value ⊢
  simp only [State.hostAccess, clocked, running, awake, not_true_eq_false, Bool.false_eq_true, or_self, false_and, if_false,
    State.serveAccess, accessBytes, assigned, accepts, follows, not_false_eq_true, if_true, State.serveFollower,
    State.serveWrite, value, State.writeRegs, State.write32Staged, Nat.mod_eq_of_lt v.isLt]
  simp [narrow, State.write32, mirrored]

/-- FEED_TRIM of every group is a register of width 32 (R400). -/
theorem narrowRegister_trim : ∀ {g : Nat}, g < 16 → narrowRegister (0x40100 + g * 4) = true := by
  decide

end Sys2Proof.Machine

open Sys2Proof Sys2Proof.Machine

/-- Settles O6: each register's value in the reset state of a build. -/
theorem resetRegisterValues : Obligations.ResetRegisterValues := by
  intro b agent r
  have full : r.trace.full = false := traceFull_resetOf b
  have status : r.reg32 agent 0x30014 = 64 + 128 * b2n r.trace.full := rfl
  have corrections : ∀ g < 16, r.reg32 agent (0x400C0 + 4 * g) = 4096 := of_decide_eq_true rfl
  have boxes : ∀ n < 16, r.reg32 agent (0x10000 + 0x40 * n) = 0x10 ∧ r.reg32 agent (0x10010 + 0x40 * n) = 0 :=
    of_decide_eq_true rfl
  exact ⟨rfl, rfl, rfl, by rw [status, full]; rfl, rfl, rfl, rfl, corrections, rfl, rfl, rfl, rfl, rfl, rfl, boxes, rfl, rfl, rfl,
    rfl, rfl, rfl⟩

/-- Settles O21: DUC_CTRL with ARM 0 is its trace bits. -/
theorem traceControl : Obligations.TraceControl := by
  refine fun s agent v => ⟨fun hs disarmed on off => ?_, fun hs disarmed off => ?_, fun on crossed => ?_⟩
  · refine (hostDone_write4 (off := 0x30010) hs (by decide) v).trans ?_
    refine congrArg (fun t => Host.Outcome.next (s.ends t)) ((writeDucCtrl_disarmed disarmed).trans ?_)
    simp only [State.setTraceEn, on, off, Bool.not_false, Bool.and_self, if_true]
    rfl
  · refine (hostDone_write4 (off := 0x30010) hs (by decide) v).trans ?_
    refine congrArg (fun t => Host.Outcome.next (s.ends t)) ((writeDucCtrl_disarmed disarmed).trans ?_)
    simp only [State.setTraceEn, off, Bool.false_and, Bool.false_eq_true, if_false]
  · simp only [exec, execTimeSyncRecord, second, on, crossed, and_self, if_true]
    rfl

/-- Settles O33: each write comes to the register's own behaviour. -/
theorem configurationAndBootWrites : Obligations.ConfigurationAndBootWrites := by
  intro s agent v hs
  have seal_ : exec (.cfgSealWrite agent v) s = .next (s.ends (s.sealWrite v)) := by
    refine (hostDone_write4 (off := 0x60004) hs (by decide) v).trans ?_
    simp [State.write32, State.writeCfg]
  have launch : exec (.cfgLaunchEnWrite agent v) s = .next (s.ends (s.writeCfg 8 v.toNat)) :=
    hostDone_write4 (off := 0x60008) hs (by decide) v
  have boot : exec (.cpbStart agent v) s = .next (s.ends (s.writeCpb 0 v.toNat)) :=
    hostDone_write4 (off := 0x70000) hs (by decide) v
  have reset : exec (.fltResetWrite agent v) s = .next (s.ends (s.fltReset v.toNat)) :=
    hostDone_write4 (off := 0x50008) hs (by decide) v
  have mirror := hostDone_mirCtrl (agent := agent) hs v
  rw [mirCtrl_of_serves hs] at mirror
  refine ⟨fun state idle => ?_, fun ignored => ?_, fun kept => ?_, fun off running => ?_, fun start => ⟨fun state => ?_,
    fun state empty => ?_, fun state given => ?_, fun state => ?_⟩, fun idle => ?_, fun key warm => ?_, fun refused => ?_,
    fun mirrored ack => ?_, fun mirrored noAck => ?_, fun single => ?_⟩
  · rw [seal_, sealWrite_taken state idle]
  · rw [seal_, sealWrite_ignored ignored]
  · rw [launch]
    rcases kept with on | halted
    · simp only [State.writeCfg, on, Bool.true_or, if_true]
    · simp only [State.writeCfg, halted, Bool.or_true, if_true]
  · rw [launch]
    simp only [State.writeCfg, off, running, Bool.or_self, Bool.false_eq_true, if_false]
  · rw [boot, writeCpb_start start (by simp [state])]
    simp only [State.cpbStart, state]
  · rw [boot, writeCpb_start start (by rcases state with state | state <;> simp [state]), cpbStart_ready state, State.startFrom,
      if_pos empty]
  · rw [boot, writeCpb_start start (by rcases state with state | state <;> simp [state]), cpbStart_ready state, State.startFrom,
      if_neg given]
    rfl
  · rw [boot]
    rcases state with state | state
    · rw [writeCpb_start start (by simp [state])]
      simp only [State.cpbStart, state]
    · simp only [State.writeCpb, if_pos state]
  · rw [boot, writeCpb_idle idle]
  · rw [reset, State.fltReset, if_pos ⟨key, warm⟩]
  · rw [reset, State.fltReset, if_neg fun h => refused.elim (· h.1) fun cold => by simp [cold] at h]
  · refine mirror.trans ?_
    rw [if_pos mirrored, if_pos ack]
  · simp only [mirrored, noAck, if_true, Bool.false_eq_true, if_false] at mirror
    exact ⟨mirror, mirror⟩
  · simp only [single, Bool.false_eq_true, if_false] at mirror
    exact ⟨mirror, mirror, mirror⟩

/-- Settles O34: the registers of the mirror serve a Hub that handed over; after HUB_RESET nothing waits. -/
theorem detachedHubControl : Obligations.DetachedHubControl := by
  refine fun s agent v clocked running awake mirrored => ⟨fun role noAck rejoin noReset => ?_,
    fun role noAck noRejoin reset => ⟨fun noKey => ?_, fun key => ?_⟩⟩
  · have follows : s.primary = false := by simp [State.primary, role]
    simp only [exec, execMirRejoin, hostDone, hostAccess_mirror_follower clocked running awake follows mirrored]
    simp only [State.mirCtrl, noAck, rejoin, noReset, role, Bool.false_eq_true, if_false, false_and, and_self, if_true]
    rfl
  · have follows : s.primary = false := by rcases role with role | role <;> simp [State.primary, role]
    simp only [exec, execMirHubReset, hostDone, hostAccess_mirror_follower clocked running awake follows mirrored]
    simp only [State.mirCtrl, noAck, noRejoin, noKey, Bool.false_eq_true, if_false, false_and, and_false]
    rfl
  · have follows : s.primary = false := by rcases role with role | role <;> simp [State.primary, role]
    have free : ∀ e ∈ s.mirHubResetState.ctxs, e.2.state = .free := by
      intro e he
      obtain ⟨_, -, rfl⟩ := List.mem_map.mp he
      rfl
    obtain ⟨_, _, _, _, _, _, _, _, _, closed⟩ := State.close_frame (s := s.mirHubResetState) s
    refine ⟨State.close s s.mirHubResetState, ?_, ?_⟩
    · simp only [exec, execMirHubReset, hostDone, hostAccess_mirror_follower clocked running awake follows mirrored]
      simp only [State.mirCtrl, noAck, noRejoin, reset, key, role, Bool.false_eq_true, if_false, false_and, and_self, if_true]
      rw [State.settled_of_noQueues rfl free]
      rfl
    · rw [closed]
      exact ⟨rfl, rfl, rfl, rfl, rfl, rfl, free, rfl, rfl, rfl, rfl, rfl, rfl, rfl, rfl⟩

/-- Settles O35: each write of the stop registers, and the stop itself. -/
theorem debugStops : Obligations.DebugStops := by
  intro s agent v d q n
  have value : BitVec.ofNat 32 v.toNat = v := BitVec.ofNat_toNat 32 v |>.trans (BitVec.setWidth_eq v)
  have zero : v.toNat = 0 ↔ v = 0 := ⟨fun h => BitVec.eq_of_toNat_eq h, fun h => by rw [h]; rfl⟩
  refine ⟨fun hs => ⟨?_, ?_, fun some_ => ⟨?_, ?_⟩, fun none_ => ⟨?_, ?_⟩, fun first => ?_, fun second => ?_⟩,
    fun armed counted out going => ?_, fun armed counted out going => ?_⟩
  · refine (hostDone_write4 (off := 0x90000) hs (by decide) v).trans ?_
    simp [State.write32, State.writeDbg, Dbg.setQCtrl, value, d, q]
  · refine (hostDone_write4 (off := 0x90010) hs (by decide) v).trans ?_
    simp [State.write32, State.writeDbg, Dbg.setNCtrl, value, d, n]
  · refine (hostDone_write4 (off := 0x90004) hs (by decide) v).trans ?_
    have nonzero : v.toNat ≠ 0 := mt zero.mp some_
    simp [State.write32, State.writeDbg, Dbg.setQCount, value, d, if_neg nonzero]
  · refine (hostDone_write4 (off := 0x90014) hs (by decide) v).trans ?_
    have nonzero : v.toNat ≠ 0 := mt zero.mp some_
    simp [State.write32, State.writeDbg, Dbg.setNCount, value, d, if_neg nonzero]
  · refine (hostDone_write4 (off := 0x90004) hs (by decide) v).trans ?_
    simp [State.write32, State.writeDbg, Dbg.setQCount, none_]
  · refine (hostDone_write4 (off := 0x90014) hs (by decide) v).trans ?_
    simp [State.write32, State.writeDbg, Dbg.setNCount, none_]
  · refine (hostDone_write4 (off := 0x90024) hs (by decide) v).trans ?_
    have here : bit v.toNat 0 = true ∧ bit v.toNat 1 = false := by
      simp [bit, bits] at first ⊢
      omega
    simp [State.write32, State.writeDbg, Dbg.resume, here, d]
  · refine (hostDone_write4 (off := 0x90024) hs (by decide) v).trans ?_
    have here : bit v.toNat 0 = false ∧ bit v.toNat 1 = true := by
      simp [bit, bits] at second ⊢
      omega
    simp [State.write32, State.writeDbg, Dbg.resume, here, d]
  · simp only [exec, execStopCountReached, if_true]
    rw [if_pos ⟨armed, counted, out, by simp [d] at going; simp [going]⟩]
    rfl
  · simp only [exec, execStopCountReached, Bool.false_eq_true, if_false]
    rw [if_pos ⟨armed, counted, out, by simp [d] at going; simp [going]⟩]
    rfl

/-- Settles O37: FEED_TRIM by its bound, FEED_QE_SEL, and the counter of the queue selected. -/
theorem feedRegisterWrites : Obligations.FeedRegisterWrites := by
  have trim {s : State} {agent g : Nat} {v : W32} (hs : s.serves) (hg : g < 16) :
      exec (.feedTrimWrite agent g v) s = .next (s.ends (s.writeTrim g v.toNat)) := by
    refine (hostDone_write4 (off := 0x40100 + g % 16 * 4) hs (narrowRegister_trim (by omega)) v).trans ?_
    simp only [State.write32, State.writeFeed, show (0x40100 + g % 16 * 4) / 0x10000 = 4 by omega,
      show (0x40100 + g % 16 * 4) % 0x10000 = 0x100 + g * 4 by omega]
    rw [if_neg (by omega), if_neg (by omega), if_neg (by omega), if_pos (by omega),
      show (0x100 + g * 4 - 0x100) / 4 = g by omega]
  refine fun s agent g v => ⟨fun hs hg => ⟨fun within => ?_, fun above => ?_, ?_⟩, fun pending => ⟨fun x here => ?_,
    fun absent => ?_⟩⟩
  · rw [trim hs hg, State.writeTrim, if_pos within]
  · rw [trim hs hg, State.writeTrim, if_neg (by omega)]
  · refine (hostDone_write4 (off := 0x40300) hs (by decide) v).trans ?_
    have field : BitVec.ofNat 32 (bits v.toNat 19 0) = v &&& 0xFFFFF := by
      refine BitVec.eq_of_toNat_eq ?_
      have mask : v.toNat &&& 0xFFFFF = v.toNat % 2 ^ 20 := Nat.and_two_pow_sub_one_eq_mod v.toNat 20
      rw [BitVec.toNat_ofNat, BitVec.toNat_and]
      refine Eq.trans ?_ mask.symm
      have small := v.isLt
      rw [bits]
      omega
    simp [State.write32, State.writeFeed, State.writeQeSel, field]
  · simp only [exec, execQueueEnergyReady, pending, Bool.false_eq_true, if_false, here]
    rfl
  · simp only [exec, execQueueEnergyReady, pending, Bool.false_eq_true, if_false, absent]
    rfl

end

section
/-! Words of the Sync SRAM under a write of the host or of the debugger (R326, R329, R359). -/

namespace Sys2Proof.Machine

open Sys2Proof

/-! ## Tables listed ascending -/

/-- A table whose keys are listed ascending. -/
def ascending {α : Type} (t : Tbl α) : Prop := (t.map Prod.fst).Pairwise (· < ·)

/-- Removing a key leaves a part of the table. -/
theorem tdel_sublist {α : Type} (t : Tbl α) (n : Nat) : (tdel t n).Sublist t := by
  induction t with
  | nil => exact .slnil
  | cons e t ih =>
    rw [tdel]
    split
    · exact List.sublist_cons_self _ _
    · exact ih.cons_cons _

theorem tdel_ascending {α : Type} {t : Tbl α} (ordered : ascending t) (n : Nat) : ascending (tdel t n) :=
  ordered.sublist ((tdel_sublist t n).map _)

/-- Setting an entry lists no key but its own anew. -/
theorem mem_keys_tset {α : Type} {t : Tbl α} {n k : Nat} {v : α} (listed : k ∈ (tset t n v).map Prod.fst) :
    k = n ∨ k ∈ t.map Prod.fst := by
  induction t with
  | nil => simpa [tset] using listed
  | cons e t ih =>
    rw [tset] at listed
    simp only [List.map_cons, List.mem_cons]
    split at listed
    · simpa using listed
    · split at listed
      · rcases List.mem_cons.mp listed with here | there
        · exact .inl here
        · exact .inr (.inr there)
      · rcases List.mem_cons.mp listed with here | there
        · exact .inr (.inl here)
        · exact (ih there).imp_right .inr

theorem tset_ascending {α : Type} {t : Tbl α} (ordered : ascending t) (n : Nat) (v : α) : ascending (tset t n v) := by
  induction t with
  | nil => simp [ascending, tset]
  | cons e t ih =>
    obtain ⟨above, rest⟩ := List.pairwise_cons.mp ordered
    rw [tset]
    split
    next before =>
      refine List.pairwise_cons.mpr ⟨fun k hk => ?_, ordered⟩
      rcases List.mem_cons.mp hk with rfl | later
      · exact before
      · exact Nat.lt_trans before (above k later)
    next =>
      split
      next here => exact List.pairwise_cons.mpr ⟨fun k hk => here ▸ above k hk, rest⟩
      next there =>
        refine List.pairwise_cons.mpr ⟨fun k hk => ?_, ih rest⟩
        rcases mem_keys_tset hk with rfl | later
        · show e.1 < k
          omega
        · exact above k later

/-- A key below every key of a table has no entry in it. -/
theorem tget_eq_none_of_below {α : Type} {t : Tbl α} {n : Nat} (below : ∀ k ∈ t.map Prod.fst, n < k) : tget t n = none := by
  induction t with
  | nil => rfl
  | cons e t ih =>
    obtain ⟨here, later⟩ := List.forall_mem_cons.mp below
    rw [tget, if_neg (Nat.ne_of_gt here), ih later]

/-- A key removed from a table listed ascending has no entry left. -/
theorem tget_tdel_self {α : Type} {t : Tbl α} (ordered : ascending t) (n : Nat) : tget (tdel t n) n = none := by
  induction t with
  | nil => rfl
  | cons e t ih =>
    obtain ⟨above, rest⟩ := List.pairwise_cons.mp ordered
    rw [tdel]
    split
    next here => exact tget_eq_none_of_below (here ▸ above)
    next other => rw [tget, if_neg other, ih rest]

section
variable {w : Nat} {t : Tbl (BitVec w)}

theorem wset_ascending (ordered : ascending t) (n : Nat) (v : BitVec w) : ascending (wset t n v) := by
  rw [wset]
  split
  · exact tdel_ascending ordered n
  · exact tset_ascending ordered n v

/-- A word set reads back. -/
theorem tgetD_wset_self (ordered : ascending t) (n : Nat) (v : BitVec w) : tgetD (wset t n v) n 0 = v := by
  rw [wset, tgetD]
  split
  next zero => rw [tget_tdel_self ordered, zero, Option.getD_none]
  next => rw [tget_tset_self, Option.getD_some]

/-- A word set leaves the others. -/
theorem tgetD_wset_of_ne {n m : Nat} (v : BitVec w) (other : m ≠ n) : tgetD (wset t n v) m 0 = tgetD t m 0 := by
  rw [wset, tgetD, tgetD]
  split
  · rw [tget_tdel_of_ne _ other]
  · rw [tget_tset_of_ne _ _ other]

end

/-! ## What the end of a command leaves of the Sync Unit -/

/-- The end of a command, and the waits that act in it, leave the words, the memory operations and the registers. -/
theorem State.ends_keeps (s t : State) : (s.ends t).sync.words = t.sync.words ∧ (s.ends t).sync.memOps = t.sync.memOps ∧
    (s.ends t).mbx = t.mbx ∧ (s.ends t).dbg = t.dbg ∧ (s.ends t).tasks = t.tasks ∧ (s.ends t).nibs = t.nibs := by
  obtain ⟨_, _, _, _, _, _, _, _, _, closed⟩ := State.close_frame (s := t.settled) s
  have rest := t.settled_apartFromWaits
  rw [State.ends, closed]
  have words := congrArg (fun u : State => u.sync.words) rest
  have memOps := congrArg (fun u : State => u.sync.memOps) rest
  have mbx := congrArg State.mbx rest
  have dbg := congrArg State.dbg rest
  have tasks := congrArg State.tasks rest
  have nibs := congrArg State.nibs rest
  exact ⟨words, memOps, mbx, dbg, tasks, nibs⟩

/-- A SYNC_OP record changes the trace alone (R48, R49). -/
theorem State.syncRecord_frame (s : State) (word : WordRef) (op : Nat) (handle : W32) (party : SyncParty) :
    ∃ inbound seqs, s.syncRecord word op handle party =
      { s with trace := { s.trace with inbound := inbound, seqs := seqs } } := by
  simp only [State.syncRecord]
  exact s.recordAs_frame ..

/-- Without waits nothing sees a word's new value (R327). -/
theorem State.evalWord_of_noWaits {s : State} (calm : s.sync.waits = []) (word : WordRef) (v : W64) :
    s.evalWord word v = s := by
  simp only [State.evalWord, calm, List.filter_nil, List.isEmpty_nil, if_true]

/-- Without waits an update of a word is the word and its record (R327). -/
theorem State.setWord_of_noWaits {s : State} (calm : s.sync.waits = []) (i : Nat) (v : W64) (handle : W32)
    (party : SyncParty) (op : Nat) : ∃ inbound seqs, s.setWord i v handle party op = { s with
      sync := { s.sync with words := wset s.sync.words i v }
      trace := { s.trace with inbound := inbound, seqs := seqs } } := by
  obtain ⟨inbound, seqs, recorded⟩ :=
    State.syncRecord_frame { s with sync := { s.sync with words := wset s.sync.words i v } } (.sram i) op handle party
  refine ⟨inbound, seqs, ?_⟩
  simp only [State.setWord, recorded]
  refine State.evalWord_of_noWaits ?_ _ _
  exact calm

/-- A host write in the Sync Unit's window comes to the word (R67, R329). -/
theorem exec_synWindowWrite {s : State} {agent i : Nat} {x : W64} (hs : s.serves) (hi : i < 32768) :
    exec (.synWindowWrite agent i x) s = .next (s.ends (s.setWord i x 0 .host 0)) := by
  have value : leNat (HtpAccess.bytes ⟨agent, true, 0x200000 + i * 8, 3, inLanes (0x200000 + i * 8) (leBytes 8 x.toNat)⟩ 8) =
      x.toNat := by
    rw [bytes_inLanes _ _ _ _ _ _ (by omega) x.isLt, leNat_leBytes]
    exact Nat.mod_eq_of_lt x.isLt
  have assigned : ∃ k < 8, assignedByte (0x200000 + i * 8 + k) = true := by
    refine ⟨0, by decide, ?_⟩
    rw [assignedByte, if_neg (by omega)]
    simp only [Bool.and_eq_true, decide_eq_true_eq]
    omega
  have fits : accepted (0x200000 + i * 8) 8 = true := by
    rw [accepted, if_neg (by omega), if_neg (by omega), if_neg (by omega), show (0x200000 + i * 8) % 8 = 0 by omega]
    rfl
  simp only [exec, execSynWindowWrite, hostDone, Nat.mod_eq_of_lt hi]
  rw [hostAccess_accepted (n := 8) hs rfl assigned fits]
  simp only [if_true, State.serveWrite, value, State.synWindow]
  rw [if_neg (by omega), if_neg (by omega), if_neg (by omega), show (0x200000 + i * 8 - 0x200000) / 8 = i by omega,
    BitVec.ofNat_toNat, BitVec.setWidth_eq]
  rfl

/-! ## The debugger's operation -/

/-- The DBG registers as DBG_SYNC_GO leaves them at its start (R359). -/
def Dbg.going (d : Dbg) (v : W32) : Dbg := { d with syncCtrl := 0x80000000 ||| (v &&& 3) }

/-- A bit of a word, as the registers read it. -/
theorem bit_toNat (v : W32) (i : Nat) : bit v.toNat i = v.getLsbD i := by
  rw [BitVec.getLsbD, Nat.testBit_eq_decide_div_mod_eq]
  simp only [bit, bits, Nat.add_sub_cancel_left, Nat.pow_one]

/-- Of GO alone a word keeps that bit. -/
theorem and_go (c : W32) : c &&& 0x80000000 = if c.getLsbD 31 then 0x80000000 else 0 := BitVec.and_twoPow c 31

/-- The writable bits leave GO as it was (R15, R360). -/
theorem go_kept (c v : W32) : ((if c.getLsbD 31 then 0x80000000 else 0) ||| (v &&& 3)).getLsbD 31 = c.getLsbD 31 := by
  cases go : c.getLsbD 31 <;> simp

/-- A write of DBG_SYNC_CTRL with GO 1 comes to the operation, unless one is under way (R359). -/
theorem exec_dbgSyncGo {s : State} {agent : Nat} {v : W32} (hs : s.serves) (go : v.getLsbD 31 = true) :
    exec (.dbgSyncGo agent v) s = .next (s.ends (State.debugGo { s with dbg := { s.dbg with
      syncCtrl := (if s.dbg.syncCtrl.getLsbD 31 then 0x80000000 else 0) ||| (v &&& 3) } })) := by
  refine (hostDone_write4 (off := 0x90100) hs (by decide) v).trans ?_
  simp only [State.write32, State.writeDbg, bit_toNat, go, if_true, and_go, BitVec.ofNat_toNat, BitVec.setWidth_eq]

/-- DBG_SYNC_GO while GO is 1 starts nothing (R359). -/
theorem exec_dbgSyncGo_busy {s : State} {agent : Nat} {v : W32} (hs : s.serves) (busy : s.dbg.syncCtrl.getLsbD 31 = true)
    (go : v.getLsbD 31 = true) : exec (.dbgSyncGo agent v) s = .next (s.ends { s with dbg := s.dbg.going v }) := by
  rw [exec_dbgSyncGo hs go, State.debugGo, if_pos ((go_kept _ v).trans busy)]
  simp only [busy, if_true]
  rfl

/-- DBG_SYNC_GO with GO 0 before begins the operation that its bits name (R359). -/
theorem exec_dbgSyncGo_idle {s : State} {agent : Nat} {v : W32} (hs : s.serves) (idle : s.dbg.syncCtrl.getLsbD 31 = false)
    (go : v.getLsbD 31 = true) : exec (.dbgSyncGo agent v) s = .next (s.ends (
      if v.getLsbD 0 then State.memOp { s with dbg := s.dbg.going v } (v.getLsbD 1) (bits s.dbg.syncPasid.toNat 19 0) none
        s.dbg.syncAddr s.dbg.syncValue 0 .debugger
      else State.sramOp { s with dbg := s.dbg.going v } (v.getLsbD 1) (bits s.dbg.syncIndex.toNat 14 0) s.dbg.syncValue 0
        .debugger)) := by
  have control : (0 ||| (v &&& 3)) ||| 0x80000000 = 0x80000000 ||| (v &&& 3) :=
    (congrArg (· ||| _) BitVec.zero_or).trans (BitVec.or_comm ..)
  rw [exec_dbgSyncGo hs go, State.debugGo, if_neg (ne_true_of_eq_false ((go_kept _ v).trans idle))]
  simp only [idle, Bool.false_eq_true, if_false, control]
  simp [Dbg.going]

section
variable {s : State} {i : Nat} {x : W64}

/-- The DBG registers once an operation is over (R359). -/
def Dbg.answered (d : Dbg) (code : W32) (old : W64) : Dbg :=
  { d with syncCtrl := d.syncCtrl &&& 0x7FFFFFFF, syncResult := code, syncOld := old }

/-- The debugger's SET on a Sync SRAM word without waits (R326, R359). -/
theorem sramOp_set (calm : s.sync.waits = []) :
    (s.sramOp false i x 0 .debugger).sync.words = wset s.sync.words i x ∧
      (s.sramOp false i x 0 .debugger).dbg = s.dbg.answered 0 (s.word i) := by
  obtain ⟨_, _, written⟩ := State.setWord_of_noWaits calm i x 0 .debugger 0
  simp only [State.sramOp, Bool.false_eq_true, if_false, written]
  exact ⟨rfl, rfl⟩

/-- The debugger's ADD that stays within the word (R326, R359). -/
theorem sramOp_add {sum : W64} (calm : s.sync.waits = []) (fits : syncAdd (s.word i) x = some sum) :
    (s.sramOp true i x 0 .debugger).sync.words = wset s.sync.words i sum ∧
      (s.sramOp true i x 0 .debugger).dbg = s.dbg.answered 0 (s.word i) := by
  obtain ⟨_, _, written⟩ := State.setWord_of_noWaits calm i sum 0 .debugger 1
  simp only [State.sramOp, if_true, fits, written]
  exact ⟨rfl, rfl⟩

/-- A sync fault record changes, beside the trace, what the debugger reads of it (R340, R360). -/
theorem State.syncFault_frame (s : State) (code : W16) (object waiter : Nat) :
    (s.syncFault code object waiter).sync = s.sync ∧ ∃ fault stamp, (s.syncFault code object waiter).dbg = { s.dbg with
      syncFault := fault, syncFaultStamp := stamp, syncFaults := sat32 s.dbg.syncFaults 1 } := by
  obtain ⟨_, _, recorded⟩ := State.recordAs_frame (s := s) unitSync 0x0A s.aoNow (code.toNat + object + waiter) false (!s.awake)
  simp only [State.syncFault, State.record, recorded, true_and]
  exact ⟨_, _, rfl⟩

/-- The debugger's ADD that leaves the word's range is a sync fault (R326, R340, R359). -/
theorem sramOp_underflow (leaves : syncAdd (s.word i) x = none) :
    (s.sramOp true i x 0 .debugger).sync.words = s.sync.words ∧ ∃ fault stamp,
      (s.sramOp true i x 0 .debugger).dbg = { s.dbg.answered (Code.syncUnderflow.setWidth 32) (s.word i) with
        syncFault := fault, syncFaultStamp := stamp, syncFaults := sat32 s.dbg.syncFaults 1 } := by
  obtain ⟨inbound, seqs, recorded⟩ := s.syncRecord_frame (.sram i) 1 0 .debugger
  obtain ⟨sync, fault, stamp, dbg⟩ := State.syncFault_frame (s.syncRecord (.sram i) 1 0 .debugger) Code.syncUnderflow
    (syncObject (.sram i) + if syncAddDir x then 2 ^ 78 else 0) (syncWaiter 0 .debugger)
  simp only [State.sramOp, if_true, leaves, State.debugRecord]
  refine ⟨?_, fault, stamp, ?_⟩
  · refine (congrArg SyncUnit.words sync).trans ?_
    rw [recorded]
  · refine (congrArg (·.answered (Code.syncUnderflow.setWidth 32) (s.word i)) dbg).trans ?_
    rw [recorded]
    rfl

/-- GO falls as the operation ends (R359). -/
theorem go_lowered (c : W32) : (c &&& 0x7FFFFFFF).getLsbD 31 = false := by simp

/-- What the end of a command leaves of a debugger's operation that wrote its word (R326, R359). -/
theorem ends_of_debugWrote {t : State} {old value : W64} {d : Dbg} (ordered : ascending s.sync.words)
    (words : t.sync.words = wset s.sync.words i value) (dbg : t.dbg = d.answered 0 old) :
    (s.ends t).word i = value ∧ (∀ j, j ≠ i → (s.ends t).word j = s.word j) ∧ ascending (s.ends t).sync.words ∧
      (s.ends t).dbg.syncOld = old ∧ (s.ends t).dbg.syncResult = 0 ∧ (s.ends t).dbg.syncCtrl.getLsbD 31 = false := by
  obtain ⟨words', -, -, dbg', -⟩ := s.ends_keeps t
  simp only [State.word, words', words, dbg', dbg]
  exact ⟨tgetD_wset_self ordered i value, fun j other => tgetD_wset_of_ne value other, wset_ascending ordered i value, rfl, rfl,
    go_lowered _⟩

/-- A debugger's operation on a memory word, with none before it, is under way (R328, R359). -/
theorem memOp_begins (calm : s.sync.memOps = []) (add : Bool) (pasid : Nat) (part : Option Nat) (addr v : W64) (handle : W32)
    (party : SyncParty) : (s.memOp add pasid part addr v handle party).sync.memOps.length = 1 ∧
      (s.memOp add pasid part addr v handle party).dbg = s.dbg ∧
      (s.memOp add pasid part addr v handle party).sync.words = s.sync.words := by
  simp only [State.memOp, calm, List.any_nil, Bool.false_eq_true, if_false, State.startMemOp]
  cases add
  · simp only [Bool.false_eq_true, if_false, State.writeMem, State.emit]
    split <;> exact ⟨rfl, rfl, rfl⟩
  · exact ⟨rfl, rfl, rfl⟩

end

end Sys2Proof.Machine

open Sys2Proof Sys2Proof.Machine

/-- Settles O36: the window's write, and the debugger's operation by its bits and the exact sum. -/
theorem syncWordWrites : Obligations.SyncWordWrites := by
  refine fun s agent i v x => ⟨fun b => List.Pairwise.nil, fun hs hi ordered => ⟨exec_synWindowWrite hs hi, fun calm => ?_,
    fun idle go calm => ?_, fun busy go => exec_dbgSyncGo_busy hs busy go⟩⟩
  · obtain ⟨inbound, seqs, written⟩ := State.setWord_of_noWaits calm i x 0 .host 0
    obtain ⟨words, -, mbx, dbg, tasks, nibs⟩ := s.ends_keeps (s.setWord i x 0 .host 0)
    refine ⟨_, exec_synWindowWrite hs hi, ?_, ?_, fun j other => ?_, ?_, ?_, ?_, ?_⟩
    · rw [State.word, words, written]
      exact tgetD_wset_self ordered i x
    · show ascending _
      rw [words, written]
      exact wset_ascending ordered i x
    · rw [State.word, words, written]
      exact tgetD_wset_of_ne x other
    · rw [mbx, written]
    · rw [dbg, written]
    · rw [tasks, written]
    · rw [nibs, written]
  · intro k old sum
    have place : bits s.dbg.syncIndex.toNat 14 0 = k := by simp [bits, k]
    have begins := exec_dbgSyncGo_idle (agent := agent) hs idle go
    rw [place] at begins
    refine ⟨fun sram set => ?_, fun sram add lower upper => ?_, fun sram add out => ?_, fun memory none_ => ?_⟩
    · simp only [sram, set, Bool.false_eq_true, if_false] at begins
      obtain ⟨words, dbg⟩ := sramOp_set (s := { s with dbg := s.dbg.going v }) (i := k) (x := s.dbg.syncValue) calm
      obtain ⟨here, others, sorted, old_, result, stopped⟩ := ends_of_debugWrote ordered words dbg
      exact ⟨_, begins, here, old_, result, stopped, sorted, others⟩
    · simp only [sram, add, Bool.false_eq_true, if_false] at begins
      have fits : syncAdd old s.dbg.syncValue = some (BitVec.ofInt 64 sum) := if_pos ⟨lower, upper⟩
      obtain ⟨words, dbg⟩ := sramOp_add (s := { s with dbg := s.dbg.going v }) (i := k) (x := s.dbg.syncValue) calm fits
      obtain ⟨here, others, sorted, old_, result, stopped⟩ := ends_of_debugWrote ordered words dbg
      refine ⟨_, begins, ?_, old_, result, stopped, sorted, others⟩
      rw [here, BitVec.toNat_ofInt]
      exact congrArg Int.toNat (Int.emod_eq_of_lt lower upper)
    · simp only [sram, add, Bool.false_eq_true, if_false] at begins
      have leaves : syncAdd old s.dbg.syncValue = none :=
        if_neg fun ⟨lower, upper⟩ => out.elim (Int.not_lt.mpr lower) (Int.not_le.mpr upper)
      obtain ⟨words, _, _, dbg⟩ :=
        sramOp_underflow (s := { s with dbg := s.dbg.going v }) (i := k) (x := s.dbg.syncValue) leaves
      obtain ⟨words', -, -, dbg', -⟩ := s.ends_keeps (State.sramOp { s with dbg := s.dbg.going v } true k s.dbg.syncValue 0
        .debugger)
      refine ⟨_, begins, fun j => ?_, ?_, ?_, ?_⟩
      · rw [State.word, words', words]
        rfl
      · rw [dbg', dbg]
        rfl
      · rw [dbg', dbg]
        rfl
      · rw [dbg', dbg]
        exact go_lowered _
    · simp only [memory, if_true] at begins
      obtain ⟨length, dbg, words⟩ := memOp_begins (s := { s with dbg := s.dbg.going v }) none_ (v.getLsbD 1)
        (bits s.dbg.syncPasid.toNat 19 0) none s.dbg.syncAddr s.dbg.syncValue 0 .debugger
      obtain ⟨words', memOps', -, dbg', -⟩ := s.ends_keeps (State.memOp { s with dbg := s.dbg.going v } (v.getLsbD 1)
        (bits s.dbg.syncPasid.toNat 19 0) none s.dbg.syncAddr s.dbg.syncValue 0 .debugger)
      refine ⟨_, begins, ?_, ?_, fun j => ?_⟩
      · rw [dbg', dbg]
        simp [Dbg.going]
      · rw [memOps', length]
      · rw [State.word, words', words]
        rfl

end

section
/-! Ductus time: an idle nanosecond, the epoch logic and the alignment of the dies (R33 to R42). -/

namespace Sys2Proof.Machine

open Sys2Proof

variable (s : State)

/-- A Blotter record changes the Blotter's part of the Fault Manager and held effects alone, and takes its number (R467). -/
theorem State.blot_frame (code : W16) (kind unit object : Nat) : ∃ flt held,
    s.blot code kind unit object = { s with flt := flt, mir := { s.mir with held := held } } ∧ flt.seq = s.flt.seq + 1 := by
  simp only [State.blot]
  split
  · simp only [State.emit, State.release]
    split
    · exact ⟨_, _, rfl, rfl⟩
    · refine ⟨_, s.mir.held, rfl, ?_⟩
      simp only [Flt.hold]
      split <;> rfl
  · exact ⟨_, s.mir.held, rfl, rfl⟩

/-! ## An idle nanosecond -/

/-- What the Hub does by itself in a cycle: trace and Blotter writes go out, and visits end (R55, R178, R468). -/
theorem State.seen_frame : ∃ trace flt mip xlat qe,
    s.seen = { s with trace := trace, flt := flt, mip := mip, xlat := xlat, qe := qe } := by
  obtain ⟨_, _, _, issued, -⟩ := s.issueTrace_frame
  obtain ⟨_, _, _, _, _, blotted⟩ := s.issueTrace.issueBlot_frame
  unfold State.seen State.pump
  split
  · rw [blotted, issued]
    exact ⟨_, _, _, _, _, rfl⟩
  · exact ⟨s.trace, s.flt, s.mip, s.xlat, s.qe, rfl⟩

/-- With no record to write no port is used (R55, R468). -/
theorem State.seen_of_noRecord (noTrace : s.trace.buf = []) (noLoss : s.trace.ringLoss = none) (noBlot : s.flt.held = [])
    (noBlotLoss : s.flt.loss = none) : ∃ qe, s.seen = { s with qe := qe } := by
  have trace : s.issueTrace = s := by
    rw [State.issueTrace, if_pos ⟨by simp [noTrace], noLoss⟩]
  have blot : s.issueBlot = s := by
    simp [State.issueBlot, State.nextBlot, noBlot, noBlotLoss]
  unfold State.seen State.pump
  rw [trace, blot, ite_self]
  split
  · exact ⟨_, rfl⟩
  · exact ⟨s.qe, rfl⟩

/-- The state as 1 ns has passed, before the Hub does anything by itself (R34). -/
def State.passes (s : State) : State :=
  { s with
    ductus := s.ductus.tick
    cfg := { s.cfg with holdNs := if s.holdCounts then sat64 s.cfg.holdNs 1 else s.cfg.holdNs }
    parts := tmap s.parts fun p x => x.tick (s.reasonsOf p x)
    feed := { s.feed with reasonNs := tickReasons s.feed.reasonNs s.deviceMask }
    splitters := if s.ductus.time / 100 < s.ductus.tick.time / 100 then s.splitters.map Splitter.slewOnce else s.splitters
    nibs := if s.ductus.time / 100 < s.ductus.tick.time / 100 then s.metering.map Nib.slewOnce else s.metering }

/-! ## The epoch logic -/

/-- Where the epoch logic of a primary sees an edge (R37, R443). -/
theorem exec_epochPEdge (clocked : s.ductus.refOk = true) (phase : s.ductus.phase = 0) (primary : s.primary = true) :
    exec .epochPEdge s = .next (State.close s s.epochEdge) := by
  simp only [exec, execEpochPEdge, clocked, phase, primary, and_self, if_true]
  rfl

/-- What every edge leaves in Ductus: it is counted, and its offset kept (R37). -/
def Ductus.seesEdge (d : Ductus) : Ductus :=
  { d with edges := d.edges + 1, offset := BitVec.ofInt 32 (edgeOffset d.count), lastEdge := d.count }

/-- Whether an edge lies within 1,000 ns of a whole second (R37). -/
def nearSecond (count : Nat) : Prop := -1000 ≤ edgeOffset count ∧ edgeOffset count ≤ 1000

theorem epochEdge_unset (state : s.ductus.epoch = .unset) : s.epochEdge = { s with ductus := s.ductus.seesEdge } := by
  simp only [State.epochEdge, state]
  simp only [Ductus.seesEdge, state]

theorem epochEdge_locked (state : s.ductus.epoch = .locked) (near : nearSecond s.ductus.count) :
    s.epochEdge = { s with ductus := { s.ductus.seesEdge with slew := edgeOffset s.ductus.count } } := by
  simp only [State.epochEdge, state, decide_eq_true near.1, decide_eq_true near.2, Bool.and_self, if_true]
  simp only [Ductus.seesEdge, state]

theorem epochEdge_bad (state : s.ductus.epoch = .locked) (far : ¬nearSecond s.ductus.count) : s.epochEdge =
    State.blotEpoch { s with ductus := { s.ductus.seesEdge with offsetBad := true, epoch := .holdover } }
      (edgeOffset s.ductus.count) := by
  have far' : (decide (-1000 ≤ edgeOffset s.ductus.count) && decide (edgeOffset s.ductus.count ≤ 1000)) = false := by
    rw [← Bool.decide_and]
    exact decide_eq_false far
  simp only [State.epochEdge, state, far', Bool.false_eq_true, if_false]
  simp only [Ductus.seesEdge, state]

theorem epochEdge_relocked (state : s.ductus.epoch = .holdover) (near : nearSecond s.ductus.count) : s.epochEdge =
    { s with ductus := { s.ductus.seesEdge with slew := edgeOffset s.ductus.count, epoch := .locked } } := by
  simp only [State.epochEdge, state, decide_eq_true near.1, decide_eq_true near.2, Bool.and_self, if_true]
  simp only [Ductus.seesEdge, state]

theorem epochEdge_holdover (state : s.ductus.epoch = .holdover) (far : ¬nearSecond s.ductus.count) :
    s.epochEdge = { s with ductus := s.ductus.seesEdge } := by
  have far' : (decide (-1000 ≤ edgeOffset s.ductus.count) && decide (edgeOffset s.ductus.count ≤ 1000)) = false := by
    rw [← Bool.decide_and]
    exact decide_eq_false far
  simp only [State.epochEdge, state, far', Bool.false_eq_true, if_false]
  simp only [Ductus.seesEdge, state]

/-- A record of the trace writer changes the trace alone (R50). -/
theorem State.writerRecord_frame (typ stamp payload : Nat) : ∃ trace, s.writerRecord typ stamp payload = { s with trace := trace } := by
  unfold State.writerRecord
  split
  · exact ⟨_, rfl⟩
  · exact ⟨s.trace, rfl⟩

/-- An edge in ARMED loads the count and locks (R36, R37). -/
theorem epochEdge_armed (state : s.ductus.epoch = .armed) : ∃ trace, trace.second = s.ductus.load.toNat / second ∧
    s.epochEdge = { s with trace := trace, ductus := { s.ductus.seesEdge with
      count := s.ductus.load.toNat, phase := 0, epoch := .locked, slew := 0, lastEdge := s.ductus.load.toNat
      loads := s.ductus.loads + 1 } } := by
  simp only [State.epochEdge, state]
  obtain ⟨trace, recorded⟩ := State.writerRecord_frame { s with ductus := { s.ductus.seesEdge with
      count := s.ductus.load.toNat, phase := 0, epoch := .locked, slew := 0, lastEdge := s.ductus.load.toNat
      loads := s.ductus.loads + 1 } } 0xF1 s.ductus.load.toNat s.ductus.count
  exact ⟨{ trace with second := s.ductus.load.toNat / second }, rfl, by rw [Ductus.seesEdge] at recorded; rw [recorded]; rfl⟩

/-- ARM with the trace bits as they stand is ARM alone (R36, R62). -/
theorem writeDucCtrl_armed {v : Nat} (bits_ : bits v 2 0 = 1 + 2 * b2n s.trace.en + 4 * b2n s.trace.wrap) :
    s.writeDucCtrl v = s.arm := by
  obtain ⟨arm, en, wrap⟩ : bit v 0 = true ∧ bit v 1 = s.trace.en ∧ bit v 2 = s.trace.wrap := by
    revert bits_
    cases s.trace.en <;> cases s.trace.wrap <;> simp [bit, bits, b2n] <;> omega
  have still : (s.trace.en && !s.trace.en) = false := Bool.and_not_self _
  simp only [State.writeDucCtrl, arm, en, wrap, if_true, State.setTraceEn, still, Bool.false_eq_true, if_false]

/-! ## Alignment -/

/-- The smaller of two exchanges by round trip, the first where they agree (R39). -/
def betterProbe (b q : Probe) : Probe := if probeTrip q < probeTrip b then q else b

/-- The exchange kept so far is one of those seen, and none of them is shorter. -/
theorem foldl_betterProbe (l : List Probe) (b : Probe) :
    l.foldl betterProbe b ∈ b :: l ∧ ∀ q ∈ b :: l, probeTrip (l.foldl betterProbe b) ≤ probeTrip q := by
  induction l generalizing b with
  | nil => simp
  | cons q l ih =>
    obtain ⟨mem, least⟩ := ih (betterProbe b q)
    have better : (betterProbe b q = b ∨ betterProbe b q = q) ∧ probeTrip (betterProbe b q) ≤ probeTrip b ∧
        probeTrip (betterProbe b q) ≤ probeTrip q := by
      unfold betterProbe
      split
      · exact ⟨.inr rfl, by omega, Int.le_refl _⟩
      · exact ⟨.inl rfl, Int.le_refl _, by omega⟩
    obtain ⟨which, leB, leQ⟩ := better
    have first := least _ List.mem_cons_self
    refine ⟨?_, fun r hr => ?_⟩
    · rw [List.foldl_cons]
      rcases List.mem_cons.mp mem with here | later
      · rcases which with which | which <;> rw [here, which] <;> simp
      · simp [later]
    · rcases List.mem_cons.mp hr with rfl | hr
      · exact Int.le_trans first leB
      · rcases List.mem_cons.mp hr with rfl | later
        · exact Int.le_trans first leQ
        · exact least r (List.mem_cons_of_mem _ later)

/-- The exchange of a round that counts is one of its exchanges, and none is shorter (R39). -/
theorem bestProbe_least {l : List Probe} {p : Probe} (best : bestProbe l = some p) :
    p ∈ l ∧ ∀ q ∈ l, probeTrip p ≤ probeTrip q := by
  cases l with
  | nil => cases best
  | cons b l =>
    cases best
    exact foldl_betterProbe l b

variable {child : YarnChild} {off : Int} {rest : List (YarnChild × Int)}

/-- A round that a due port runs sends the offset of its best exchange (R39). -/
theorem exec_alignmentRound {probes : List Probe} {p : Probe} (fits : s.roundFits child probes = true)
    (aligns : s.aligns child = true) (due : s.alignDue child = true) (awake : s.awake = true)
    (best : bestProbe probes = some p) : ∃ most turns worst, exec (.alignmentRound child probes) s =
      .next (State.close s { s.roundRun child with ductus := { s.ductus with
        sentOffsets := s.ductus.sentOffsets ++ [(child, probeOffset p)]
        alignMax := most, alignDone := turns, alignWorst := worst } }) := by
  simp only [exec, execAlignmentRound, best]
  rw [if_pos ⟨fits, aligns, due, awake⟩]
  exact ⟨_, _, _, rfl⟩

/-- A round changes no queue and no memory request. -/
theorem State.roundRun_frame (child : YarnChild) :
    (s.roundRun child).queues = s.queues ∧ (s.roundRun child).mip = s.mip := by
  cases child <;> exact ⟨rfl, rfl⟩

/-- A child that an offset aligns: it slews, from its parent's count where it has none (R41, R42; log 122). -/
def State.slewsBy (s : State) (by_ : Int) : YarnChild → State
  | .splitter sp => s.modSplitter sp fun x => { x with unaligned := false, slew := by_, offset := some (x.offset.getD 0) }
  | .nib n => s.modNib n fun x =>
    { x with unaligned := false, slew := by_, offset := some (x.offset.getD (s.parentNow (.nib n) - s.now)) }

/-- An offset within 1,000 ns is slewed by (R41). -/
theorem State.takeOffset_within (known : (s.childOffset child).isSome = true) (within : off.natAbs ≤ 1000) :
    s.takeOffset child off = s.slewsBy off child := by
  have first : (s.childOffset child).isNone = false := by simpa using known
  cases child <;>
    simp only [State.takeOffset, first, Nat.not_lt.mpr within, Bool.not_false, Bool.true_and, decide_false, Bool.false_eq_true,
      if_false, State.slewsBy]

/-- The first offset of a child starts no slew (R42; log 122). -/
theorem State.takeOffset_first (first : s.childOffset child = none) : s.takeOffset child off = s.slewsBy 0 child := by
  cases child <;>
    simp only [State.takeOffset, first, Option.isNone_none, Bool.not_true, Bool.false_and, Bool.false_eq_true, if_false, if_true,
      State.slewsBy]

/-- A larger offset marks a Nib unaligned, is counted and has its Blotter record (R41, R467). -/
theorem State.takeOffset_outside {n : Nat} (known : (s.childOffset (.nib n)).isSome = true) (outside : 1000 < off.natAbs) :
    ∃ kind unit object, s.takeOffset (.nib n) off =
      State.blot { s.modNib n fun x =>
          { x with unaligned := true, offset := some (x.offset.getD (s.parentNow (.nib n) - s.now)) } with
        ductus := { s.ductus with alignFaults := sat32 s.ductus.alignFaults 1 } } 0 kind unit object := by
  have first : (s.childOffset (.nib n)).isNone = false := by simpa using known
  simp only [State.takeOffset, first, outside, Bool.not_false, Bool.true_and, decide_true, if_true, Bool.false_eq_true, if_false]
  exact ⟨_, _, _, rfl⟩

/-- A child takes the first offset on its way to it (R41). -/
theorem exec_alignOffsetReceived (sent : s.ductus.sentOffsets = (child, off) :: rest) (aligns : s.aligns child = true) :
    exec (.alignOffsetReceived child) s =
      .next (State.close s (State.takeOffset { s with ductus := { s.ductus with sentOffsets := rest } } child off)) := by
  simp only [exec, execAlignOffsetReceived, sent, takeFirst, beq_self_eq_true, if_true, aligns]
  rfl

end Sys2Proof.Machine

open Sys2Proof Sys2Proof.Machine

/-- Settles O2: the tick of Ductus by its phase and slew, and what the Hub does by itself beside it. -/
theorem idleStepIsOneNanosecond : Obligations.IdleStepIsOneNanosecond := by
  intro s idle
  have next : step s = .next s.tick := by rw [step, idle]
  obtain ⟨_, _, _, _, _, seen⟩ := State.seen_frame (State.passes s)
  have ticked : s.tick = (State.passes s).seen := rfl
  have ductus : s.tick.ductus = s.ductus.tick := by rw [ticked, seen]; rfl
  refine ⟨s.tick, next, ?_, fun stopped => ?_, fun clocked within => ?_, fun clocked edge straight => ?_,
    fun clocked edge ahead => ?_, fun clocked edge behind => ?_, ?_⟩
  · rw [ticked, seen]
    exact idle
  · simp [ductus, Ductus.tick, stopped]
  · simp [ductus, Ductus.tick, clocked, within]
  · simp [ductus, Ductus.tick, clocked, Nat.not_lt.mpr edge, Ductus.stride, straight]
  · simp [ductus, Ductus.tick, clocked, Nat.not_lt.mpr edge, Ductus.stride, ahead, Int.sign_eq_one_of_pos]
  · have notAhead : ¬0 < s.ductus.slew := by omega
    simp [ductus, Ductus.tick, clocked, Nat.not_lt.mpr edge, Ductus.stride, notAhead, behind, Int.sign_eq_neg_one_of_neg]
  · have quiet (noTrace : s.trace.buf = []) (noLoss : s.trace.ringLoss = none) (noBlot : s.flt.held = [])
        (noBlotLoss : s.flt.loss = none) : s.tick.trace = s.trace ∧ s.tick.mip = s.mip ∧ s.tick.flt = s.flt ∧
        s.tick.xlat = s.xlat := by
      obtain ⟨_, still⟩ := State.seen_of_noRecord (State.passes s) noTrace noLoss noBlot noBlotLoss
      rw [ticked, still]
      exact ⟨rfl, rfl, rfl, rfl⟩
    rw [ticked] at quiet ⊢
    rw [seen] at quiet ⊢
    exact ⟨rfl, rfl, rfl, rfl, rfl, rfl, rfl, rfl, rfl, rfl, rfl, rfl, rfl, rfl, quiet⟩

/-- Settles O19: the epoch logic by its state and the offset, and ARM by the load value. -/
theorem epochLogic : Obligations.EpochLogic := by
  intro s agent v primary clocked d off seen near
  refine ⟨fun unset phase => ?_, fun locked within phase => ?_, fun locked outside phase => ?_, fun hold within phase => ?_,
    fun hold outside phase => ?_, fun armed phase => ?_, fun locked late_ => ?_, fun hs bits_ => ?_⟩
  · rw [exec_epochPEdge s clocked phase primary, epochEdge_unset s unset]
    rfl
  · rw [exec_epochPEdge s clocked phase primary, epochEdge_locked s locked within]
    rfl
  · rw [exec_epochPEdge s clocked phase primary, epochEdge_bad s locked outside]
    rfl
  · rw [exec_epochPEdge s clocked phase primary, epochEdge_relocked s hold within]
    rfl
  · rw [exec_epochPEdge s clocked phase primary, epochEdge_holdover s hold outside]
    rfl
  · obtain ⟨trace, second, loaded⟩ := epochEdge_armed s armed
    obtain ⟨_, _, _, _, _, _, _, _, _, closed⟩ := State.close_frame (s := s.epochEdge) s
    refine ⟨_, exec_epochPEdge s clocked phase primary, ?_⟩
    rw [closed, loaded]
    exact ⟨rfl, second, rfl, rfl, rfl⟩
  · simp only [exec, execEpochMissed]
    rw [if_pos ⟨locked, late_, primary⟩]
    rfl
  · have written : exec (.ducArmWrite agent v) s = .next (s.ends s.arm) := by
      rw [← writeDucCtrl_armed s bits_]
      exact hostDone_write4 (off := 0x30010) hs (by decide) v
    refine ⟨fun whole => ?_, fun part => ?_⟩
    · exact written.trans (congrArg (fun t => Host.Outcome.next (s.ends t)) (if_pos whole))
    · exact written.trans (congrArg (fun t => Host.Outcome.next (s.ends t)) (if_neg part))

/-- Settles O20: the round's best exchange, and the child by its offset. -/
theorem alignmentRounds : Obligations.AlignmentRounds := by
  refine fun s child p0 p1 p2 p3 p off rest => ⟨fun fits aligns due awake best => ?_, fun sent aligns => ?_⟩
  · obtain ⟨mem, least⟩ := bestProbe_least best
    obtain ⟨_, _, _, ran⟩ := exec_alignmentRound s fits aligns due awake best
    obtain ⟨queues, mip⟩ := s.roundRun_frame child
    refine ⟨mem, least, _, ran, ?_⟩
    obtain ⟨_, _, _, _, _, _, _, _, _, closed⟩ := State.close_frame (s := { s.roundRun child with ductus := _ }) s
    rw [closed]
    exact ⟨rfl, rfl, rfl, rfl, rfl, queues, mip⟩
  · rw [exec_alignOffsetReceived s sent aligns]
    intro s' took
    have offset : s'.childOffset child = s.childOffset child := by cases child <;> rfl
    refine ⟨fun known within n sp => ?_, fun first n sp => ?_, fun known outside n nib => ?_⟩
    · rw [State.takeOffset_within s' (offset ▸ known) within]
      exact ⟨by rintro rfl; rfl, by rintro rfl; rfl⟩
    · rw [State.takeOffset_first s' (offset.trans first)]
      exact ⟨by rintro rfl; rfl, by rintro rfl; rfl⟩
    · subst nib
      obtain ⟨kind, unit, object, taken⟩ := State.takeOffset_outside s' (offset ▸ known) outside
      obtain ⟨flt, held, blotted, seq⟩ := State.blot_frame { s'.modNib n fun x =>
          { x with unaligned := true, offset := some (x.offset.getD (s'.parentNow (.nib n) - s'.now)) } with
        ductus := { s'.ductus with alignFaults := sat32 s'.ductus.alignFaults 1 } } 0 kind unit object
      obtain ⟨_, _, _, _, _, _, _, _, _, closed⟩ := State.close_frame (s := s'.takeOffset (.nib n) off) s
      refine ⟨_, rfl, ?_⟩
      rw [closed, taken, blotted]
      exact ⟨rfl, rfl, seq⟩

end

section
/-! Trace and Blotter records on their way into memory (R51 to R58, R467, R468). -/

namespace Sys2Proof.Machine

open Sys2Proof

variable {s s0 : State} {q : MemReq} {r : TraceRec}

/-- A record that finds the buffer with room and no drop to report is its last (R51, R56). -/
theorem Trace.accept_room {t : Trace} (noLoss : t.loss = none) (room : t.held + r.size ≤ 4096) (source now : Nat) :
    t.accept r source now = { t with buf := t.buf ++ [r], idle := false } := by
  have still : t.emitLoss source now = t := by simp only [Trace.emitLoss, noLoss]
  simp only [Trace.accept, still, noLoss, Option.isNone_none, decide_eq_true room, Bool.and_self, if_true]

/-- The oldest record on its way arrives (R51). -/
theorem exec_traceRecordArrival {rest : List TraceRec} (oldest : s.trace.inbound = r :: rest) :
    exec (.traceRecordArrival none) s =
      .next (State.close s (State.arrive { s with trace := { s.trace with inbound := rest } } r)) := by
  simp only [exec, execTraceRecordArrival, oldest]
  rfl

/-- A record more than 100 ms old is lost (R51, R57). -/
theorem State.arrive_late (late_ : r.stamp + 100000000 < s.now) : s.arrive r = { s with trace := s.trace.lose r.stamp } := by
  simp only [State.arrive, if_pos late_]

/-- A record not older enters the buffer (R51). -/
theorem State.arrive_fresh (fresh : s.now ≤ r.stamp + 100000000) (noLoss : s.trace.loss = none)
    (room : s.trace.held + r.size ≤ 4096) :
    s.arrive r = { s with trace := { s.trace with buf := s.trace.buf ++ [r], idle := false } } := by
  simp only [State.arrive, if_neg (Nat.not_lt.mpr fresh), Trace.accept_room noLoss room]

/-- The writer's next record is the oldest of which no write is out, unless a PAD comes before it (R54). -/
theorem State.nextTrace_record (next : s.trace.buf[s.trace.issued]? = some r) (noLoss : s.trace.ringLoss = none)
    (fits : traceFull r.typ = false ∨ s.trace.next.toNat * 16 % 2 ^ s.trace.log2 ≠ 2 ^ s.trace.log2 - 16) :
    s.nextTrace = (s.trace, some r) := by
  have straddles : ¬(traceFull r.typ = true ∧ s.trace.next.toNat * 16 % 2 ^ s.trace.log2 = 2 ^ s.trace.log2 - 16) :=
    fun ⟨full, edge⟩ => fits.elim (fun half => by simp [half] at full) (· edge)
  simp only [State.nextTrace, noLoss, next, if_neg straddles]

end Sys2Proof.Machine

open Sys2Proof Sys2Proof.Machine

/-- Settles O22: a record's arrival by its age, the two writers' next records, and the writes that become visible. -/
theorem traceRecordsMove : Obligations.TraceRecordsMove := by
  refine fun s s0 q r rest b held => ⟨fun oldest => ⟨fun fresh noLoss room => ?_, fun late_ => ?_⟩, fun next noLoss =>
    ⟨fun full => ?_, fun room clear unspent fits => ?_⟩, fun oldest noLoss answered => ?_, fun on room noLoss idle oldest => ?_,
    fun flight kind answered => ?_⟩
  · rw [exec_traceRecordArrival oldest, State.arrive_fresh]
    · exact fresh
    · exact noLoss
    · exact room
  · obtain ⟨_, _, _, _, _, _, _, _, _, closed⟩ :=
      State.close_frame (s := State.arrive { s with trace := { s.trace with inbound := rest } } r) s
    refine ⟨_, exec_traceRecordArrival oldest, ?_⟩
    rw [closed, State.arrive_late]
    · exact ⟨rfl, rfl, rfl⟩
    · exact late_
  · have waiting : ¬(s.trace.buf.length ≤ s.trace.issued ∧ s.trace.ringLoss = none) :=
      fun ⟨all, _⟩ => by simp [List.getElem?_eq_none all] at next
    refine ⟨s.trace.ringLose r.stamp, ?_, rfl, ?_, rfl⟩
    · simp only [State.issueTrace, if_neg waiting, full, if_true, next]
    · simp only [Trace.ringLose, noLoss]
  · have waiting : ¬(s.trace.buf.length ≤ s.trace.issued ∧ s.trace.ringLoss = none) :=
      fun ⟨all, _⟩ => by simp [List.getElem?_eq_none all] at next
    have paced : s.paceTrace.nextTrace = (s.paceTrace.trace, some r) := State.nextTrace_record next noLoss fits
    have quiet : s.paceTrace.mip.any MemReq.beforeTrace = false := clear
    simp only [State.issueTrace, if_neg waiting, room, Bool.false_eq_true, if_false, quiet, paced, unspent, true_or, if_true,
      Nat.zero_add]
    rfl
  · obtain ⟨mip, taken⟩ := State.answered_some answered
    have oldest' : s0.trace.buf = r :: rest := by rw [taken]; exact oldest
    have noLoss' : s0.trace.loss = none := by rw [taken]; exact noLoss
    have trace : s.trace = s0.trace := by rw [taken]
    simp only [exec, execTraceWriteVisible, answered, oldest', Trace.emitLoss, noLoss', trace]
    rfl
  · have next : s.nextBlot = some (b, s.flt) := by simp only [State.nextBlot, noLoss, oldest]
    simp only [State.issueBlot, next]
    rw [if_pos ⟨on, idle, room⟩]
  · obtain ⟨mip, taken⟩ := State.answered_some answered
    have flight' : s0.flt.flight = some b := by rw [taken]; exact flight
    have flt : s.flt = s0.flt := by rw [taken]
    simp only [exec, execBlotterWriteVisible, answered, flight', if_neg kind, flt]
    rfl

end

section
/-! Henpen commands that the gates, the framing or a check refuse, and the queries (R104, R115, R116, R119, R133). -/

namespace Sys2Proof.Machine

open Sys2Proof

variable {s : State} {id code off : Nat} {p : Prog} {st : W16} {detail : Nat} {checks : Prog → List Check}
  {commit : Prog → Commit}

/-! ## Refusals -/

/-- A command in progress that may act now (R110, R111). -/
def State.mayAct (s : State) (id : Nat) (p : Prog) : Prop :=
  s.prog id = some p ∧ s.firmware = true ∧ p.pendingAnswer = false ∧ s.behind p = false

/-- A command that a gate or the framing refuses answers that (R104, R115). -/
theorem henpen_framed (acts : s.mayAct id p) (row : p.command = code) (framed : s.frame p = some (st, detail)) :
    s.henpen id code checks commit = .next (s.ends (s.answer p st detail [])) := by
  obtain ⟨here, firmware, open_, first⟩ := acts
  simp only [State.henpen, here, firmware, row, open_, first, framed, Bool.false_eq_true, not_false_eq_true, and_self, if_true]
  rfl

/-- A command that fails an argument check answers the status of the failing field at the lowest offset (R105). -/
theorem henpen_unsound (acts : s.mayAct id p) (row : p.command = code) (framed : s.frame p = none)
    (fails : lowestFail (p.headerChecks ++ checks p) = some (off, st)) :
    s.henpen id code checks commit = .next (s.ends (s.answer p st off [])) := by
  obtain ⟨here, firmware, open_, first⟩ := acts
  simp only [State.henpen, here, firmware, row, open_, first, framed, fails, Bool.false_eq_true, not_false_eq_true, and_self,
    if_true]
  rfl

/-! ## Fields of results -/

/-- A field within the second part of some bytes. -/
theorem slice_append_right (a b : List Byte) (off n : Nat) : slice (a ++ b) (a.length + off) n = slice b off n := by
  simp only [slice, ← List.drop_drop, List.drop_left]

/-- A field within the first part of some bytes. -/
theorem slice_append_left {a b : List Byte} {off n : Nat} (within : off + n ≤ a.length) : slice (a ++ b) off n = slice a off n := by
  rw [slice, slice, List.drop_append_of_le_length (by omega), List.take_append_of_le_length (by simp; omega)]

/-- Results that list records of `k` bytes: the record at a place. -/
theorem slice_flatMap {α : Type} {l : List α} {f : α → List Byte} {k g : Nat} {x : α} (size : ∀ x, (f x).length = k)
    (here : l[g]? = some x) (rest : List Byte) : slice (l.flatMap f ++ rest) (k * g) k = f x := by
  induction l generalizing g with
  | nil => cases here
  | cons y l ih =>
    rw [List.flatMap_cons, List.append_assoc]
    cases g with
    | zero =>
      cases here
      rw [Nat.mul_zero, slice, List.drop_zero, List.take_left' (size x)]
    | succ g =>
      rw [show k * (g + 1) = (f y).length + k * g by rw [size, Nat.mul_succ, Nat.add_comm], slice_append_right]
      exact ih here

/-! ## Queries -/

/-- The CRCs of the tables as CFG_QUERY answers them (R119). -/
def State.crcs (s : State) : List Byte :=
  (List.range 6).flatMap fun i => leBytes 4 (match tget s.cfg.tables (i + 1) with | some t => t.crc.toNat | none => 0)

theorem exec_cfgQuery (may : s.mayCommit id 0x0102 (fun _ => []) p) : exec (.cfgQuery id) s = .next (s.answersOk s p
    (leBytes 2 s.helloState ++ leBytes 2 s.cfg.firstFail.toNat ++ s.crcs ++ leBytes 4 0)) := by
  rw [exec, execCfgQuery, henpen_ok may rfl]
  rfl

theorem exec_queryClocks (may : s.mayCommit id 0x0601 (fun _ => []) p) : exec (.queryClocks id) s = .next (s.answersOk s p
    (leBytes 2 s.build.hclk ++ leBytes 1 0 ++ leBytes 1 (b2n s.ductus.refOk) ++ leBytes 4 0 ++
      s.feed.rails.flatMap fun r => leBytes 4 (r.level + 16 * s.nclkAt r.level))) := by
  rw [exec, execQueryClocks, henpen_ok may rfl]

theorem exec_queryTemps (may : s.mayCommit id 0x0602 (fun _ => []) p) : ∃ top,
    exec (.queryTemps id) s = .next (s.answersOk s p
      ((s.feed.rails.flatMap fun r => leBytes 2 (unsignedOf 16 r.lastTemp)) ++ (leBytes 2 top ++ leBytes 6 0))) := by
  rw [exec, execQueryTemps, henpen_ok may rfl, List.flatMap_map, List.append_assoc]
  exact ⟨_, rfl⟩

theorem exec_queryLimits (may : s.mayCommit id 0x0603 (fun _ => []) p) : ∃ rest,
    exec (.queryLimits id) s = .next (s.answersOk s p (leBytes 2 s.openSlots ++ rest)) := by
  rw [exec, execQueryLimits, henpen_ok may rfl]
  simp only [List.append_assoc]
  exact ⟨_, rfl⟩

/-- The open context slots fit their field (R133). -/
theorem State.openSlots_le (s : State) : s.openSlots ≤ 1024 := by
  have := List.countP_le_length (p := s.slotOpen) (l := List.range 1024)
  rwa [List.length_range] at this

/-- A record of a number reads back modulo its width. -/
theorem le_of_slice {l : List Byte} {n k v : Nat} (here : slice l n k = leBytes k v) : le l n k = v % 256 ^ k := by
  rw [le, here, leNat_leBytes]

end Sys2Proof.Machine

open Sys2Proof Sys2Proof.Machine

/-- Settles O23: the procedure that every row shares, and the gates in their order. -/
theorem henpenRefusals : Obligations.HenpenRefusals := by
  intro s id p st detail off here firmware open_ first
  have acts : s.mayAct id p := ⟨here, firmware, open_, first⟩
  refine ⟨fun framed => ⟨fun row => ?_, fun row => ?_, fun row => ?_, fun row => ?_⟩, fun framed row fails => ?_,
    fun framed row fails => ?_, fun command halted passes => ?_, fun command running notReady other => ?_,
    fun command incomplete ready needs => ?_, fun command state ready needs => ?_⟩
  · rw [exec, execCtxCastOn, henpen_framed acts row framed]
  · rw [exec, execQueueCreate, henpen_framed acts row framed]
  · rw [exec, execEventAlloc, henpen_framed acts row framed]
  · rw [exec, execPartCreate, henpen_framed acts row framed]
  · rw [exec, execCtxCastOn, henpen_unsound acts row framed fails]
  · rw [exec, execQueueCreate, henpen_unsound acts row framed fails]
  · simp [State.gate, halted, passes]
  · simp [State.gate, running, notReady, other]
  · simp [State.gate, incomplete, ready, needs]
  · simp only [List.mem_cons, List.not_mem_nil, or_false, not_or] at state
    simp [State.gate, state, ready, needs]

/-- Settles O24: each query's commit, and the fields of its results. -/
theorem bootAndQueryCommands : Obligations.BootAndQueryCommands := by
  refine fun s id p => ⟨fun may => ?_, fun may => ⟨s.crcs, ?_, exec_cfgQuery may, fun i hi => ?_⟩, fun may => ⟨?_, fun gone =>
    ?_⟩, fun may x here => ?_, fun may x here resident => ?_, fun may => ⟨_, exec_queryClocks may, ?_, ?_, fun g x here => ?_⟩,
    fun may => ?_, fun may => ?_⟩
  · rw [exec, execBootHello, henpen_ok may rfl]
    rfl
  · rw [State.crcs, List.length_flatMap]
    simp only [leBytes_length]
    rfl
  · have table := slice_flatMap (l := List.range 6) (g := i) (k := 4)
      (f := fun i => leBytes 4 (match tget s.cfg.tables (i + 1) with | some t => t.crc.toNat | none => 0))
      (fun _ => leBytes_length 4 _) (List.getElem?_range hi) []
    rw [List.append_nil] at table
    refine (le_of_slice table).trans ?_
    cases tget s.cfg.tables (i + 1)
    · rfl
    · exact Nat.mod_eq_of_lt (BitVec.isLt _)
  · rw [exec, execCtxQuery, henpen_ok may rfl]
  · simp only [State.ctxResults, gone]
    rfl
  · rw [exec, execPartQuery, henpen_ok may (t := s)]
    simp only [here]
    rfl
  · rw [exec, execQueueQuery, henpen_ok may (t := s)]
    simp only [State.withRecord, here, resident, if_true]
  · simp only [List.append_assoc]
    refine le_of_slice ((slice_append_left (by simp [leBytes_length])).trans ?_)
    rw [slice, List.drop_zero, List.take_of_length_le (by simp [leBytes_length])]
  · refine (le_of_slice (k := 1) (v := b2n s.ductus.refOk) ?_).trans ?_
    · rw [List.append_assoc, List.append_assoc, show 3 = (leBytes 2 s.build.hclk ++ leBytes 1 0).length + 0 by
        simp [leBytes_length], slice_append_right, slice_append_left (by simp [leBytes_length]), slice, List.drop_zero,
        List.take_of_length_le (by simp [leBytes_length])]
    · cases s.ductus.refOk <;> rfl
  · have level := slice_flatMap (k := 4) (f := fun r : Rail => leBytes 4 (r.level + 16 * s.nclkAt r.level))
      (fun _ => leBytes_length 4 _) here []
    rw [List.append_nil] at level
    refine le_of_slice ?_
    rw [← level, show 8 = (leBytes 2 s.build.hclk ++ leBytes 1 0 ++ leBytes 1 (b2n s.ductus.refOk) ++ leBytes 4 0).length by
      simp [leBytes_length], slice_append_right]
  · obtain ⟨top, queried⟩ := exec_queryTemps may
    refine ⟨_, queried, fun g x here => ?_⟩
    have temp := slice_flatMap (k := 2) (f := fun r : Rail => leBytes 2 (unsignedOf 16 r.lastTemp))
      (fun _ => leBytes_length 2 _) here (leBytes 2 top ++ leBytes 6 0)
    refine (le_of_slice temp).trans (Nat.mod_eq_of_lt ?_)
    simp only [unsignedOf]
    omega
  · obtain ⟨rest, queried⟩ := exec_queryLimits may
    refine ⟨_, queried, (le_of_slice (k := 2) (v := s.openSlots) ?_).trans (Nat.mod_eq_of_lt ?_)⟩
    · rw [slice_append_left (by simp [leBytes_length]), slice, List.drop_zero, List.take_of_length_le (by simp [leBytes_length])]
    · have := s.openSlots_le
      omega

end

section
/-! Henpen commands on contexts, events and queues (R117, R120 to R126). -/

namespace Sys2Proof.Machine

open Sys2Proof

variable {s : State} {id slot q : Nat} {p : Prog} {c : Ctx} {x : Queue}

/-! ## What is free -/

/-- The lowest number that a test accepts is one, and none below it is. -/
theorem lowest_some {n i : Nat} {ok : Nat → Bool} (found : lowest n ok = some i) :
    i < n ∧ ok i = true ∧ ∀ j < i, ok j = false := by
  obtain ⟨accepted, k, hk, rfl, before⟩ := List.find?_eq_some_iff_getElem.mp found
  have inside : k < n := by simpa using hk
  rw [List.getElem_range] at accepted ⊢
  refine ⟨inside, accepted, fun j hj => ?_⟩
  simpa using before j hj

/-- The pages a cast-on is short of (R120). -/
theorem State.pageShort_pos {n : Nat} : 0 < s.pageShort n ↔ s.freePages < n := by
  unfold State.pageShort
  omega

/-- A queue ID that is free is above 0, and no queue has it (R125). -/
theorem State.freeQueue_some (free : s.freeQueue = some q) : 0 < q ∧ tget s.queues q = none := by
  obtain ⟨i, -, here⟩ := List.exists_of_findSome?_eq_some free
  split at here
  next unused =>
    cases here
    exact ⟨Nat.succ_pos i, Option.isNone_iff_eq_none.mp unused⟩
  next => cases here

/-- A local index that is free is no queue's (R125). -/
theorem State.freeIndex_some {pages : List Nat} {page index : Nat} (free : s.freeIndex pages = some (page, index)) :
    ∀ e ∈ s.queues, ¬(e.2.dbPage = page ∧ e.2.dbIndex = index) := by
  obtain ⟨_, -, here⟩ := List.exists_of_findSome?_eq_some free
  obtain ⟨_, found, same⟩ := Option.map_eq_some_iff.mp here
  cases same
  obtain ⟨-, unused, -⟩ := lowest_some found
  intro e he taken
  have used : (s.queues.any fun e => e.2.dbPage == page && e.2.dbIndex == index) = true :=
    List.any_eq_true.mpr ⟨e, he, by simp [taken]⟩
  rw [used] at unused
  cases unused

/-! ## Bind-off -/

/-- A queue as bind-off leaves it: disabled, with nothing read ahead (R121, R185). -/
def Queue.disabled (x : Queue) : Queue := { x.discardRa with enabled := false }

/-- Disabling some queues keeps every handle, and enables none. -/
theorem tget_foldl_disabled (l : List Nat) {t : State}
    (here : tget (l.foldl (fun s q => s.modQueue q Queue.disabled) t).queues q = some x) :
    ∃ y, tget t.queues q = some y ∧ x.handle = y.handle ∧ (q ∈ l ∨ y.enabled = false → x.enabled = false) := by
  induction l generalizing t with
  | nil => exact ⟨x, here, rfl, by simp⟩
  | cons a l ih =>
    obtain ⟨y, before, handle, off⟩ := ih here
    by_cases same : q = a
    · subst same
      rw [State.modQueue_queues, tget_tmod_self] at before
      obtain ⟨z, held, rfl⟩ := Option.map_eq_some_iff.mp before
      exact ⟨z, held, handle, fun _ => off (.inr rfl)⟩
    · rw [State.modQueue_queues, tget_tmod_of_ne _ _ same] at before
      exact ⟨y, before, handle, fun why => off (why.imp_left fun mem => (List.mem_cons.mp mem).resolve_left same)⟩

theorem ctxs_foldl_disabled (l : List Nat) (t : State) :
    (l.foldl (fun s q => s.modQueue q Queue.disabled) t).ctxs = t.ctxs := by
  induction l generalizing t with
  | nil => rfl
  | cons a l ih => rw [List.foldl_cons, ih, State.modQueue_ctxs]

/-- A state with the queues of a context disabled (R121, R185). -/
def State.disablesQueues (s : State) (slot : Nat) : State := (s.queuesOf slot).foldl (fun s q => s.modQueue q Queue.disabled) s

/-- Bind-off disables the queues of a context, and changes that context (R121). -/
theorem State.bindOff_eq (s : State) (slot : Nat) (deadline : Option Nat) : ∃ f : Ctx → Ctx,
    (∀ c, (f c).state = .bindingOff) ∧ s.bindOff slot deadline = (s.disablesQueues slot).modCtx slot f :=
  ⟨_, fun _ => rfl, rfl⟩

/-- Bind-off leaves the context of its slot in BINDING_OFF (R121). -/
theorem State.bindOff_state (deadline : Option Nat) (here : tget s.ctxs slot = some c) :
    (tget (s.bindOff slot deadline).ctxs slot).map Ctx.state = some .bindingOff := by
  obtain ⟨f, leaves, off⟩ := s.bindOff_eq slot deadline
  rw [off, State.modCtx_ctxs, tget_tmod_self, State.disablesQueues, ctxs_foldl_disabled, here, Option.map_some, Option.map_some,
    leaves]

/-- Bind-off leaves no queue of the context enabled (R121, R144). -/
theorem State.bindOff_disables {deadline : Option Nat} (here : tget (s.bindOff slot deadline).queues q = some x)
    (mine : handleSlot x.handle = slot) : x.enabled = false := by
  obtain ⟨y, before, handle, off⟩ := tget_foldl_disabled (s.queuesOf slot) here
  refine off (.inl (List.mem_filterMap.mpr ⟨(q, y), mem_of_tget before, ?_⟩))
  rw [if_pos (handle ▸ mine)]

end Sys2Proof.Machine

open Sys2Proof Sys2Proof.Machine

/-- Settles O26: the commits of the two commands. -/
theorem eventCommands : Obligations.EventCommands := by
  refine fun s id slot p c live => ⟨fun may => ⟨fun busy => ?_, fun active first len run => ?_, fun active none_ => ?_⟩,
    fun may => ⟨fun active unused => ?_, fun active used => ?_⟩⟩
  · rw [exec, execEventAlloc, henpen_fail may]
    simp only [State.busyOr, live, if_neg busy]
  · rw [exec, execEventAlloc, henpen_ok may]
    simp only [State.busyOr, live, if_pos active, run]
    rfl
  · refine ⟨p.arg 0x24 - (freeRuns (c.events.map Prod.fst) 0).foldl (fun m r => max m r.2) 0, ?_⟩
    rw [exec, execEventAlloc, henpen_fail may]
    simp only [State.busyOr, live, if_pos active, none_]
  · rw [exec, execEventFree, henpen_ok may]
    simp only [State.busyOr, live, if_pos active, unused, Bool.false_eq_true, if_false]
  · rw [exec, execEventFree, henpen_fail may]
    simp only [State.busyOr, live, if_pos active, used, if_true]

/-- Settles O27: the commits of the four commands. -/
theorem queueCommands : Obligations.QueueCommands := by
  refine fun s id slot q p c x active => ⟨fun may live free page index place => ?_, fun named here resident live => ⟨fun may on => ?_,
    fun may off host => ?_, fun may => ⟨fun idle => ?_, fun busy => ?_⟩⟩⟩
  · obtain ⟨above, unused⟩ := State.freeQueue_some free
    refine ⟨above, unused, State.freeIndex_some place, ?_⟩
    rw [exec, execQueueCreate, henpen_ok may]
    simp only [State.busyOr, live, if_pos active, free, place]
  · rw [exec, execQueueDisable, henpen_ok may]
    simp only [named, State.onQueue, State.withRecord, here, State.busyOr, live, if_pos active, if_pos resident, if_pos on]
  · rw [exec, execQueueEnable, henpen_ok may]
    simp only [named, State.onQueue, State.withRecord, here, State.busyOr, live, if_pos active, if_pos resident,
      State.enableQueue, off, host, Bool.false_eq_true, if_false]
  · rw [exec, execQueueDestroy, henpen_ok may]
    simp only [named, State.onQueue, State.withRecord, here, State.busyOr, live, if_pos active, if_pos resident, if_pos idle]
    rfl
  · rw [exec, execQueueDestroy, henpen_fail may]
    simp only [named, State.onQueue, State.withRecord, here, State.busyOr, live, if_pos active, if_pos resident, busy,
      Bool.false_eq_true, if_false]

/-- Settles O25: the commits of the three commands. -/
theorem contextCommands : Obligations.ContextCommands := by
  refine fun s id slot p => ⟨fun may => ⟨fun full => ?_, fun open_ short => ?_, fun open_ enough => ?_⟩, fun may =>
    ⟨fun mailbox => ?_, fun admin => ?_, fun c here => State.bindOff_state _ here, fun q x here mine =>
    State.bindOff_disables here mine⟩, fun may => ⟨fun exists_ => ?_, fun absent open_ free => ?_⟩⟩
  · rw [exec, execCtxCastOn, henpen_fail may]
    simp only [full]
  · rw [exec, execCtxCastOn, henpen_fail may]
    simp only [open_, if_pos (State.pageShort_pos.mpr short)]
    rw [State.pageShort]
  · obtain ⟨inside, takes, below⟩ := lowest_some open_
    refine ⟨inside, takes, below, ?_⟩
    rw [exec, execCtxCastOn, henpen_ok may]
    simp only [open_, if_neg (mt State.pageShort_pos.mp (Nat.not_lt.mpr enough))]
    rfl
  · rw [exec, execCtxBindOff, henpen_pending may]
    simp only [mailbox, Bool.false_eq_true, if_false]
  · rw [exec, execCtxBindOff, henpen_later may]
    simp only [admin, if_true]
  · rw [exec, execAdminQueueSetup, henpen_fail may]
    simp only [if_pos exists_]
  · rw [exec, execAdminQueueSetup, henpen_ok may]
    simp only [absent, open_, free, Option.isSome_none, Bool.false_eq_true, if_false]

end

section
/-! Henpen commands on partitions, tables, the trace and the firmware image (R118, R130 to R136, R162). -/

namespace Sys2Proof.Machine

open Sys2Proof

variable {s : State} {id : Nat} {p : Prog}

/-! ## Partitions -/

/-- Every partition's effective guarantee under a value of D_now (R162). -/
theorem State.rescale_eq {gbs : Nat} (now_ : s.feed.dNow = some gbs) : s.rescale =
    State.sendRates { s with parts := tmap s.parts fun _ x => { x with
      effective := if gbs < s.live.deliverable then x.bandwidth * gbs / s.live.deliverable else x.bandwidth } } := by
  simp only [State.rescale, State.effectiveOf, now_]

/-! ## Trace control -/

/-- A row of TRACE_CONTROL whose OP the request names is a Henpen command (R134). -/
theorem traceRow_of_op {op : Nat} {commit : Prog → Commit} (here : s.prog id = some p) (named : p.arg 0x20 = op) (small : op ≤ 2) :
    s.traceRow id op commit = s.henpen id 0x0701 traceChecks commit := by
  have isOp : ((s.prog id).map traceOp).getD 0 = op := by
    rw [here, Option.map_some, Option.getD_some, traceOp, named, if_pos small]
  rw [State.traceRow, if_pos isOp]

/-- Tracing switched off leaves the rest of the writer (R60). -/
theorem State.setTraceEn_off : s.setTraceEn false = { s with trace := { s.trace with en := false } } := rfl

/-- MASK and MOP_SEL as every TRACE_CONTROL writes them (R134). -/
theorem State.traceMasks_eq (p : Prog) : s.traceMasks p = { s with trace := { s.trace with
    mask := BitVec.ofNat 32 (p.arg 0x24) &&& 0x7FF, mopSel := BitVec.ofNat 32 (p.arg 0x3C) &&& 0xF1FFF } } := rfl

/-! ## Online exchange -/

/-- A slot's owner stands in Inkwell (R91). -/
theorem State.setOwner_frame (s : State) (slot owner : Nat) :
    ∃ ink, s.setOwner slot owner = { s with mbx := { s.mbx with ink := ink } } := ⟨_, rfl⟩

/-- Slots given back change Inkwell alone (R83, R99). -/
theorem State.releaseSlots_frame (s : State) (b : Mailbox) (owner : Nat) :
    ∃ ink, s.releaseSlots b owner = { s with mbx := { s.mbx with ink := ink } } := by
  unfold State.releaseSlots
  induction List.range b.inkCount generalizing s with
  | nil => exact ⟨s.mbx.ink, rfl⟩
  | cons i l ih =>
    rw [List.foldl_cons]
    dsimp only
    split
    · obtain ⟨_, set_⟩ := s.setOwner_frame (b.inkBase + i) owner
      obtain ⟨_, rest⟩ := ih (s.setOwner (b.inkBase + i) owner)
      rw [rest, set_]
      exact ⟨_, rfl⟩
    · exact ih s

/-- A POSTED mailbox as an online exchange leaves it (R83). -/
def Mailbox.retried (b : Mailbox) : Mailbox :=
  if b.forced then b.freed else { b with state := .done, result := Code.retry, respLen := 0 }

/-- RETRY answers a mailbox; beside it Inkwell and the trace change (R83). -/
theorem State.retryBox_frame (s : State) (n : Nat) : ∃ ink inbound seqs, s.retryBox n = { s with
    mbx := { s.mbx with ink := ink, boxes := lmod s.mbx.boxes n Mailbox.retried }
    trace := { s.trace with inbound := inbound, seqs := seqs } } := by
  unfold State.retryBox
  split
  next absent =>
    have same : lmod s.mbx.boxes n Mailbox.retried = s.mbx.boxes := List.modify_eq_self (List.getElem?_eq_none_iff.mp absent)
    exact ⟨s.mbx.ink, s.trace.inbound, s.trace.seqs, by rw [same]⟩
  next b here =>
    obtain ⟨ink, released⟩ := s.releaseSlots_frame b 1
    obtain ⟨inbound, seqs, recorded⟩ := (s.releaseSlots b 1).mailboxRecord_frame n Code.retry true
    refine ⟨ink, inbound, seqs, ?_⟩
    have told : (s.releaseSlots b 1).mailboxRecord n Code.retry true = { s with
        mbx := { s.mbx with ink := ink }, trace := { s.trace with inbound := inbound, seqs := seqs } } := by
      rw [recorded, released]
    let withBoxes (boxes : List Mailbox) : State := { s with
      mbx := { s.mbx with ink := ink, boxes := boxes }, trace := { s.trace with inbound := inbound, seqs := seqs } }
    dsimp only
    rw [told]
    split
    next forced => exact congrArg withBoxes (lmod_congr_at here (by rw [Mailbox.retried, if_pos forced]))
    next kept => exact congrArg withBoxes (lmod_congr_at here (by rw [Mailbox.retried, if_neg kept]))

/-- The same for several mailboxes (R83). -/
theorem State.foldl_retryBox_frame (l : List Nat) (s : State) : ∃ ink inbound seqs, l.foldl State.retryBox s = { s with
    mbx := { s.mbx with ink := ink, boxes := l.foldl (lmod · · Mailbox.retried) s.mbx.boxes }
    trace := { s.trace with inbound := inbound, seqs := seqs } } := by
  induction l generalizing s with
  | nil => exact ⟨s.mbx.ink, s.trace.inbound, s.trace.seqs, rfl⟩
  | cons n l ih =>
    obtain ⟨_, _, _, first⟩ := s.retryBox_frame n
    obtain ⟨_, _, _, rest⟩ := ih (s.retryBox n)
    rw [List.foldl_cons, rest, first]
    exact ⟨_, _, _, rfl⟩

/-- Changing some places of a list once each leaves the others, and changes each of them. -/
theorem getElem?_foldl_lmod {α : Type} {f : α → α} {l : List Nat} (once : l.Nodup) (bs : List α) (n : Nat) :
    (l.foldl (lmod · · f) bs)[n]? = if n ∈ l then bs[n]?.map f else bs[n]? := by
  induction l generalizing bs with
  | nil => rfl
  | cons k l ih =>
    obtain ⟨new, rest⟩ := List.nodup_cons.mp once
    rw [List.foldl_cons, ih rest]
    by_cases same : n = k
    · subst same
      rw [if_neg new, if_pos List.mem_cons_self, getElem?_lmod_self]
    · rw [getElem?_lmod_of_ne _ _ same]
      simp only [List.mem_cons, same, false_or]

/-- The mailboxes that are POSTED. -/
def postedBoxes (l : List Mailbox) : List Nat := (l.zipIdx.filter fun b => b.1.state == .posted).map Prod.snd

theorem postedBoxes_nodup (l : List Mailbox) : (postedBoxes l).Nodup := by
  refine List.Nodup.sublist (List.filter_sublist.map _) ?_
  rw [List.zipIdx_map_snd]
  exact List.nodup_range'

theorem mem_postedBoxes {l : List Mailbox} {n : Nat} {b : Mailbox} (here : l[n]? = some b) :
    n ∈ postedBoxes l ↔ b.state = .posted := by
  simp only [postedBoxes, List.mem_map, List.mem_filter, Prod.exists, exists_eq_right, beq_iff_eq]
  constructor
  · rintro ⟨c, mem, posted⟩
    rw [List.mem_zipIdx_iff_getElem?] at mem
    rwa [Option.some.inj (here.symm.trans mem)]
  · exact fun posted => ⟨b, List.mem_zipIdx_iff_getElem?.mpr here, posted⟩

end Sys2Proof.Machine

open Sys2Proof Sys2Proof.Machine

/-- Settles O29: the commits of the two commands, and the guarantees under D_now. -/
theorem partitionCommands : Obligations.PartitionCommands := by
  refine fun s id gbs p nibs => ⟨fun may => ⟨fun used => ?_, fun unused granted => ⟨fun beyond => ?_, fun share beyond => ?_,
    fun share band => ?_⟩⟩, fun may => ⟨fun named => ?_, fun unnamed => ?_⟩, fun awake small => ?_⟩
  · rw [exec, execPartCreate, henpen_fail may]
    simp only [if_pos used]
  · rw [exec, execPartCreate, henpen_fail may]
    simp only [unused, granted, Option.isSome_none, Bool.false_eq_true, if_false, if_pos beyond]
  · rw [exec, execPartCreate, henpen_fail may]
    simp only [unused, granted, Option.isSome_none, Bool.false_eq_true, if_false, if_neg (Nat.not_lt.mpr share), if_pos beyond]
  · rw [exec, execPartCreate, henpen_ok may]
    simp only [unused, granted, Option.isSome_none, Bool.false_eq_true, if_false, if_neg (Nat.not_lt.mpr share),
      if_neg (Nat.not_lt.mpr band)]
    rfl
  · rw [exec, execPartDestroy, henpen_fail may]
    simp only [if_pos named]
  · rw [exec, execPartDestroy, henpen_ok may]
    simp only [unnamed, Bool.false_eq_true, if_false]
  · intro t scaled
    have kept : gbs % 2 ^ 20 = gbs := Nat.mod_eq_of_lt small
    have rescaled : t.rescale = scaled := State.rescale_eq rfl
    have report : exec (.dNowReport gbs) s = if s.live.sealed ∧ s.primary then
        done s (if decide (gbs < s.live.deliverable) || scaled.parts != s.parts then
          scaled.blot 0 0x05 unitFm (s.live.deliverable + 2 ^ 32 * gbs +
            2 ^ 64 * scaled.parts.countP fun e => e.2.effective != e.2.bandwidth) else scaled)
        else done s t := by
      rw [← rescaled]
      simp only [exec, execDNowReport, awake, if_true, kept]
      rfl
    rw [report]
    refine ⟨fun idle => ?_, fun sealed_ primary whole same => ?_, fun sealed_ primary changed => ?_⟩
    · rw [if_neg idle, done]
    · rw [if_pos ⟨sealed_, primary⟩, if_neg, done]
      simp [same, Nat.not_lt.mpr whole]
    · rw [if_pos ⟨sealed_, primary⟩, if_pos, done]
      simpa using changed

/-- Settles O30: the commits of the rows, and the end of a flush. -/
theorem tableAndTraceCommands : Obligations.TableAndTraceCommands := by
  refine fun s id p => ⟨fun may => ?_, fun may => ?_, fun off busy empty => ?_⟩
  · intro k crc c
    refine ⟨fun open_ => ?_, fun sealed_ => ?_⟩
    · rw [exec, execCfgLoadTable, henpen_ok may]
      simp only [State.storeTable, if_neg open_]
      rfl
    · rw [exec, execCfgLoadTable, henpen_ok may]
      simp only [State.storeTable, if_pos sealed_]
      rfl
  · have here : s.prog id = some p := may.1
    intro t
    refine ⟨State.traceMasks_eq p, fun configure on => ?_, fun configure off => ?_, fun enable => ?_, fun disable idle => ?_,
      fun disable busy => ?_⟩
    · rw [exec, execTraceControlConfigure, traceRow_of_op here configure (by decide), henpen_fail may]
      simp only [if_pos on]
    · rw [exec, execTraceControlConfigure, traceRow_of_op here configure (by decide), henpen_ok may]
      simp only [off, Bool.false_eq_true, if_false]
      rfl
    · rw [exec, execTraceControlEnable, traceRow_of_op here enable (by decide), henpen_ok may]
      rfl
    · rw [exec, execTraceControlDisable, traceRow_of_op here disable (by decide), henpen_ok may]
      exact if_pos idle
    · rw [exec, execTraceControlDisable, traceRow_of_op here disable (by decide), henpen_later may]
      exact if_neg (ne_true_of_eq_false busy)
  · simp only [exec, execTraceFlushDone, off, busy, empty, List.isEmpty_nil, Bool.false_eq_true, not_false_eq_true, and_self,
      if_true]
    rfl

/-- Settles O31: the commits of the two commands, and the two ends of the exchange. -/
theorem imageExchange : Obligations.ImageExchange := by
  refine fun s id p i => ⟨fun may => ⟨fun busy => ?_, fun idle => ⟨fun code detail judged => ?_, fun plain judged => ?_⟩⟩,
    fun may => ⟨fun busy => ?_, fun idle absent => ?_, fun idle staged => ?_⟩, fun firmware draining drained quiet => ?_,
    fun switching staged => ⟨fun passes => ?_, fun fails => ?_⟩⟩
  · rw [exec, execFwStage, henpen_fail may]
    simp only [if_pos busy]
  · rw [exec, execFwStage, henpen_fail may]
    simp only [idle, ne_eq, not_true_eq_false, if_false, judged]
  · intro image major
    rw [exec, execFwStage, henpen_ok may]
    simp only [idle, ne_eq, not_true_eq_false, if_false, judged]
    exact if_neg (not_not_intro major)
  · rw [exec, execFwActivate, henpen_fail may]
    simp only [if_pos busy]
  · rw [exec, execFwActivate, henpen_fail may]
    simp only [idle, ne_eq, not_true_eq_false, if_false, absent, Option.isNone_none, if_true]
  · rw [exec, execFwActivate, henpen_pending may]
    simp only [idle, ne_eq, not_true_eq_false, if_false, staged, Option.isNone_some, Bool.false_eq_true]
  · have noneBusy : s.mbx.boxes.all (fun b => b.state != .busy) = true :=
      List.all_eq_true.mpr fun b hb => bne_iff_ne.mpr (quiet b hb)
    let t : State := { s with mgmt := { s.mgmt with fwVersion := 0, exchange := .switching } }
    have drains : exec .exchangeDrained s = .next (State.close s ((postedBoxes s.mbx.boxes).foldl State.retryBox t)) := by
      simp only [exec, execExchangeDrained]
      rw [if_pos ⟨firmware, draining, drained, noneBusy⟩]
      rfl
    obtain ⟨_, _, _, retried⟩ := State.foldl_retryBox_frame (postedBoxes s.mbx.boxes) t
    obtain ⟨_, _, _, _, _, _, _, _, _, closed⟩ :=
      State.close_frame (s := (postedBoxes s.mbx.boxes).foldl State.retryBox t) s
    refine ⟨_, drains, ?_⟩
    rw [closed, retried]
    refine ⟨rfl, fun n b here posted kept => ?_, fun n b here other => ?_, rfl, rfl⟩
    · refine (getElem?_foldl_lmod (postedBoxes_nodup _) s.mbx.boxes n).trans ?_
      rw [if_pos ((mem_postedBoxes here).mpr posted), here, Option.map_some, Mailbox.retried, if_neg (by simp [kept])]
    · refine (getElem?_foldl_lmod (postedBoxes_nodup _) s.mbx.boxes n).trans ?_
      rw [if_neg (mt (mem_postedBoxes here).mp other), here]
  · simp only [exec, execExchangeSwitched, switching, staged, passes, if_true]
    rfl
  · have switched : exec .exchangeSwitched s = .next (State.close s (s.restoreImage i)) := by
      simp only [exec, execExchangeSwitched, switching, staged, fails, Bool.false_eq_true, if_false]
      rfl
    obtain ⟨_, _, _, _, _, _, _, _, _, closed⟩ := State.close_frame (s := s.restoreImage i) s
    obtain ⟨_, _, blotted, -⟩ := State.blot_frame { s with
        mgmt := { s.mgmt with
          staged := none, fwVersion := imageVer s.mgmt.image, lastExchange := Config.selfTestStatus i.bytes, exchange := .none }
        iga := { s.iga with exchangeLatch := true } }
      (Config.selfTestStatus i.bytes) 0x08 unitMc ((imageVer s.mgmt.image).toNat + 65536 * i.version.toNat)
    have restored := (show s.restoreImage i = _ from blotted)
    refine ⟨_, switched, ?_⟩
    rw [closed, restored]
    exact ⟨rfl, rfl, rfl, rfl, rfl⟩

end

section
/-! The resets of the block, and what they leave (R494, R495, R474, R524). -/

namespace Sys2Proof.Machine

open Sys2Proof

variable {s : State}

/-- R139: a reset that keeps the slots' generations leaves every slot FREE. -/
theorem State.resetCore_free (s : State) (keepTrim : Bool) : ∀ e ∈ (s.resetCore keepTrim).ctxs, e.2.state = .free := by
  intro e he
  obtain ⟨_, -, rfl⟩ := List.mem_map.mp he
  rfl

/-- R141: the generation and the retirement of a slot outlast such a reset. -/
theorem State.tget_resetCore (keepTrim : Bool) {slot : Nat} {c : Ctx} (here : tget s.ctxs slot = some c) :
    tget (s.resetCore keepTrim).ctxs slot = some (Ctx.blank c.gen c.retired) := by
  show tget (tmap s.ctxs fun _ c => Ctx.blank c.gen c.retired) slot = _
  rw [tget_tmap, here, Option.map_some]

/-- R474: the Gatherer's configuration is in the always-on domain. -/
theorem Iga.again_cfg (g : Iga) (r : Role) : (g.again r).cfg = g.cfg := by
  unfold Iga.again
  split <;> rfl

/-- R524: the result of a self-test run in test mode is kept under the block's name. -/
theorem State.mem_keepTest (s : State) (block : BlockId) (pass : Bool) :
    ((blockIdent block).1, (blockIdent block).2, pass) ∈ (s.keepTest block (some pass)).power.selfTests :=
  List.mem_append_right _ (List.mem_singleton_self _)

/-- R445: a link that was not up when its reset input is pulsed waits for training if it was in reset, and else stays. -/
theorem LinkState.pulsed_of_not_up {l : LinkState} (down : l ≠ .up) : l.pulsed = if l = .inReset then .waiting else l := by
  cases l with
  | up => exact absurd rfl down
  | _ => rfl

/-- R494: SPLITTER_RESET of a splitter whose link was not up empties it. -/
theorem splitterReset_of_not_up {sp : Nat} {x : Splitter} (here : s.splitters[sp]? = some x) (down : x.link ≠ .up) :
    exec (.splitterReset sp) s = .next (State.close s ((s.freshLink sp).modSplitter sp fun x => { Splitter.reset with
      link := if x.link = .inReset then .waiting else x.link, heard := x.heard, testMode := x.testMode })) := by
  have pulsed : ((s.freshLink sp).modSplitter sp fun x => { Splitter.reset with
        link := x.link.pulsed, heard := x.heard, testMode := x.testMode }) =
      (s.freshLink sp).modSplitter sp fun x => { Splitter.reset with
        link := if x.link = .inReset then .waiting else x.link, heard := x.heard, testMode := x.testMode } := by
    have same : lmod s.splitters sp (fun x => { Splitter.reset with
          link := x.link.pulsed, heard := x.heard, testMode := x.testMode }) =
        lmod s.splitters sp fun x => { Splitter.reset with
          link := if x.link = .inReset then .waiting else x.link, heard := x.heard, testMode := x.testMode } :=
      lmod_congr_at here (by rw [LinkState.pulsed_of_not_up down])
    exact congrArg (fun l => { s.freshLink sp with splitters := l }) same
  simp only [exec, execSplitterReset, here, if_neg down]
  exact congrArg (done s) pulsed

/-- R494, R510: SPLITTER_RESET of a splitter whose link was up takes the Nibs behind it down. -/
theorem splitterReset_of_up {sp : Nat} {x : Splitter} (here : s.splitters[sp]? = some x) (up : x.link = .up) :
    exec (.splitterReset sp) s = .next (State.close s (State.quiet
      (((List.range s.nibs.length).filter fun n => (s.nibs[n]?).map Nib.via == some sp).foldl (fun t n => t.nibLost n 1)
        ((s.freshLink sp).modSplitter sp fun x => { Splitter.reset with
          link := .absent, heard := x.heard, testMode := x.testMode })))) := by
  have pulsed : ((s.freshLink sp).modSplitter sp fun x => { Splitter.reset with
        link := x.link.pulsed, heard := x.heard, testMode := x.testMode }) =
      (s.freshLink sp).modSplitter sp fun x => { Splitter.reset with
        link := .absent, heard := x.heard, testMode := x.testMode } := by
    have same : lmod s.splitters sp (fun x => { Splitter.reset with
          link := x.link.pulsed, heard := x.heard, testMode := x.testMode }) =
        lmod s.splitters sp fun x => { Splitter.reset with link := .absent, heard := x.heard, testMode := x.testMode } :=
      lmod_congr_at here (by rw [up]; rfl)
    exact congrArg (fun l => { s.freshLink sp with splitters := l }) same
  simp only [exec, execSplitterReset, here, if_pos up]
  refine congrArg (fun t : State => done s t.quiet) ((congrArg (fun t => List.foldl (fun (t : State) n => t.nibLost n 1) t _) pulsed).trans
    (congrArg (List.foldl (fun (t : State) n => t.nibLost n 1) _) (List.filter_congr fun n _ => ?_)))
  cases s.nibs[n]? <;> rfl

/-- R494, R511: NIB_RESET of a Nib that was not present. -/
theorem nibReset_of_absent {n : Nat} (die : Nat) (cores : List (List EqPort)) {b : Nib} (here : s.nibs[n]? = some b)
    (gone : b.present = false) :
    exec (.nibReset n die cores) s = .next (State.close s (s.modNib n fun b => { Nib.reset with
      link := if b.link = .inReset then .waiting else b.link, via := b.via, die := die, ports := portsOf cores
      firstReport := b.firstReport, trainFrom := b.trainFrom, testMode := b.testMode })) := by
  have down : b.link ≠ .up := fun up => by simp [Nib.present, up] at gone
  have same : lmod s.nibs n (fun b => { Nib.reset with
        link := b.link.pulsed, via := b.via, die := die, ports := portsOf cores
        firstReport := b.firstReport, trainFrom := b.trainFrom, testMode := b.testMode }) =
      lmod s.nibs n fun b => { Nib.reset with
        link := if b.link = .inReset then .waiting else b.link, via := b.via, die := die, ports := portsOf cores
        firstReport := b.firstReport, trainFrom := b.trainFrom, testMode := b.testMode } :=
    lmod_congr_at here (by rw [LinkState.pulsed_of_not_up down])
  simp only [exec, execNibReset, here, gone, Bool.false_eq_true, if_false]
  exact congrArg (fun l => done s { s with nibs := l }) same

/-- R494, R510: NIB_RESET of a Nib that was present: it is lost with its link. -/
theorem nibReset_of_present {n : Nat} (die : Nat) (cores : List (List EqPort)) {b : Nib} (here : s.nibs[n]? = some b)
    (there : b.present = true) :
    exec (.nibReset n die cores) s = .next (State.close s ((s.nibLost n 1).quiet.modNib n fun b => { Nib.reset with
      link := b.link.pulsed, via := b.via, die := die, ports := portsOf cores
      firstReport := b.firstReport, trainFrom := b.trainFrom, testMode := b.testMode })) := by
  simp only [exec, execNibReset, here, there, if_true]
  rfl

/-- R474: a Hub of a pair that is not primary takes the warm reset at once. -/
theorem warmReset_of_follower (follows : s.primary = false) :
    exec .warmReset s = .next (State.close s (s.warmResetState.recovered 3 0 Code.ok)) := by
  simp only [exec, execWarmReset, follows, Bool.false_eq_true, not_false_eq_true, if_true]
  rfl

/-- R474: the first act of a warm reset on a primary is to abort the Nibs. -/
theorem warmReset_aborts (asked : s.mgmt.warmReset = true) (primary : s.primary = true) (fresh : s.mgmt.warmAborted = false) :
    exec .warmReset s = .next (s.ends
      (State.abortAll { s with mgmt := { s.mgmt with warmAborted := true } } Code.deviceReset)) := by
  simp only [exec, execWarmReset, asked, primary, fresh, not_true_eq_false, if_false, Bool.false_eq_true, not_false_eq_true,
    if_true]
  rfl

/-- R474: with no task left, the submissions retire; the reset applies once no write-back is on its way. -/
theorem warmReset_of_noTasks (asked : s.mgmt.warmReset = true) (primary : s.primary = true)
    (aborted : s.mgmt.warmAborted = true) (ended : s.tasks = []) :
    exec .warmReset s =
      if (s.retireAll Code.deviceReset).writingBack = true then
        (if (s.retireAll Code.deviceReset).queues = s.queues then skip s else done s (s.retireAll Code.deviceReset))
      else done s ((s.retireAll Code.deviceReset).warmResetState.recovered 3 0 Code.ok) := by
  simp only [exec, execWarmReset, asked, primary, aborted, ended, not_true_eq_false, if_false, List.isEmpty_nil]

/-- R524: in test mode every output of the Hub is at rest. -/
theorem State.outputs_rest {t : State} (test : t.power.testMode = true) :
    t.hubPrimary = false ∧ t.pspReqs = [] ∧ (∀ i, t.irqOut i = false) ∧ (∀ a, t.hreqReady a = false) ∧
      ∀ d, t.hdbReady d = false := by
  refine ⟨?_, ?_, fun i => ?_, fun a => ?_, fun d => ?_⟩
  · simp only [State.hubPrimary, test, Bool.not_true, Bool.false_and]
  · simp only [State.pspReqs, if_pos test]
  · simp only [State.irqOut, test, Bool.not_true, Bool.false_and]
  · simp only [State.hreqReady, test, Bool.not_true, Bool.false_and, Bool.and_false]
  · simp only [State.hdbReady, test, Bool.not_true, Bool.false_and, Bool.and_false]

/-- R524: in test mode a Nib opens no engine queue and holds both abort outputs. -/
theorem Nib.outputs_rest {b : Nib} (test : b.testMode = true) (core eq : Nat) :
    b.eqOpen core eq = false ∧ b.eqAbort core eq = true ∧ b.eqAbortAll core eq = true := by
  simp only [Nib.eqOpen, Nib.eqAbort, Nib.eqAbortAll, test, Bool.not_true, Bool.false_and, Bool.true_or, and_self]

/-- Settles O38: each reset's state by its own lemma; the end of the command keeps the fields named. -/
theorem resetsOfTheBlock : Obligations.ResetsOfTheBlock := by
  intro s
  refine ⟨rfl, ?_, ?_, fun block pass => ?_, fun sp => rfl, fun n => rfl, ?_, fun n b here => ?_, warmReset_of_follower,
    fun asked primary => ⟨warmReset_aborts asked primary, fun aborted ended => ⟨fun writing changed => ?_, fun quiet => ?_⟩⟩,
    ⟨State.resetCore_free s true, rfl, rfl, rfl, rfl, rfl, rfl, rfl, rfl, rfl, rfl, rfl, rfl, rfl, Iga.again_cfg _ _, rfl, rfl, rfl⟩,
    fun sp x => splitterReset_of_not_up, fun sp x => splitterReset_of_up, fun n die cores b => nibReset_of_absent die cores,
    fun n die cores b => nibReset_of_present die cores⟩
  · obtain ⟨_, _, _, _, _, _, _, _, _, closed⟩ := State.close_frame (s := s.hubPinReset) s
    refine ⟨State.close s s.hubPinReset, rfl, ?_⟩
    rw [closed]
    exact ⟨s.resetCore_free false, fun slot c here => ⟨_, State.tget_resetCore false here, rfl, rfl⟩, rfl, rfl, rfl, rfl, rfl,
      rfl, rfl, rfl, Iga.again_cfg _ _, rfl, rfl, rfl, rfl⟩
  · obtain ⟨_, _, _, _, _, _, _, _, _, closed⟩ := State.close_frame (s := s.testModeState .hub) s
    refine ⟨State.close s (s.testModeState .hub), rfl, ?_⟩
    rw [closed]
    exact ⟨rfl, rfl, rfl, rfl, rfl, rfl, rfl, rfl⟩
  · obtain ⟨_, _, _, _, _, _, _, _, _, closed⟩ :=
      State.close_frame (s := (s.testModeState block).keepTest block (some pass)) s
    refine ⟨State.close s ((s.testModeState block).keepTest block (some pass)), rfl, ?_⟩
    rw [closed]
    exact State.mem_keepTest _ block pass
  · obtain ⟨_, _, _, _, _, _, _, _, _, closed⟩ := State.close_frame (s := s.testModeState .hub) s
    exact ⟨State.close s (s.testModeState .hub), rfl, State.outputs_rest (by rw [closed]; rfl)⟩
  · obtain ⟨_, _, _, _, _, _, _, _, _, closed⟩ := State.close_frame (s := s.testModeState (.nib n)) s
    refine ⟨State.close s (s.testModeState (.nib n)),
      { Nib.reset with testMode := true, die := b.die, ports := b.ports, via := b.via }, rfl, ?_, Nib.outputs_rest rfl⟩
    rw [closed]
    exact (getElem?_lmod_self s.nibs n _).trans (congrArg _ here)
  · rw [warmReset_of_noTasks asked primary aborted ended, if_pos writing, if_neg changed]
    rfl
  · rw [warmReset_of_noTasks asked primary aborted ended, if_neg (by rw [quiet]; exact Bool.false_ne_true)]
    rfl

end Sys2Proof.Machine
end

section
/-! The clock, the keys, the boot load and the training of the links (R437, R443 to R447, R519). -/

namespace Sys2Proof.Machine

open Sys2Proof

variable {s : State}

/-! ## Clock, keys and boot load -/

/-- R443: with nothing held, the clock's coming starts the count and asks for the keys. -/
theorem refclkOk_of_nothingHeld (bad : s.ductus.refOk = false) (waiting : s.htp.waiting = []) (held : s.bells.held = []) :
    exec .refclkOk s = .next (s.ends { s with
      ductus := { s.ductus with refOk := true }, cpb := { s.cpb with keyReq := true } }) := by
  have emptied : { s.htp with waiting := [] } = s.htp := by rw [← waiting]
  simp only [exec, execRefclkOk, bad, Bool.false_eq_true, if_false, emptied, waiting, held,
    List.foldl_nil, List.length_nil, State.catchHeld]
  rfl

/-- R519: a key delivery of the right word count while keys are asked for is taken. -/
theorem keyDelivery_of_taken {kind : Nat} {words : List W32} {c : Cpb} (asked : s.cpb.keyReq = true)
    (taken : s.cpb.takeKey kind words = some c) :
    exec (.keyDelivery kind words) s = .next (State.close s (State.keysHere { s with cpb := c })) := by
  simp only [exec, execKeyDelivery, if_pos asked, taken]
  rfl

/-- R519: with a kind of key missing, the delivery is all that happens. -/
theorem State.keysHere_of_missing (missing : s.cpb.verifyKey = none ∨ s.cpb.imageKey = none ∨ s.cpb.counter = none) :
    s.keysHere = s := by
  simp only [State.keysHere]
  split
  · next h₁ h₂ h₃ => simp only [h₁, h₂, h₃, reduceCtorEq, or_self] at missing
  · rfl

theorem Cpb.takeKey_image (c : Cpb) {words : List W32} (count : words.length = 8) :
    c.takeKey 1 words = some { c with imageKey := some words } := by
  simp only [Cpb.takeKey, count]

theorem Cpb.takeKey_counter (c : Cpb) (key : W32) : c.takeKey 2 [key] = some { c with counter := some key } := rfl

theorem Cpb.takeKey_verify (c : Cpb) {words : List W32} (count : words.length = 25)
    (pss : (words.getLastD 0).toNat < 256) : c.takeKey 0 words = some { c with verifyKey := some words } := by
  simp only [Cpb.takeKey, count, if_pos pss]

/-- R437: the boot load of a Hub that is out of reset, without a patch, is that of the Henpen package. -/
theorem bootCheckDone_of_noPatch (checking : s.cpb.state = .checking) (released : s.power.hubReleased = true)
    (test : s.power.testMode = false) (noPatch : s.cpb.patchLen = 0) :
    exec .bootCheckDone s = .next (State.close s s.bootHenpen) := by
  simp only [exec, execBootCheckDone, checking, released, test, Bool.false_eq_true, not_false_eq_true, and_self, if_true,
    if_pos noPatch]
  rfl

/-- R467: the TEST records of a start-up change the Blotter, held effects and the wrappers' results alone. -/
theorem State.blotTests_frame (s : State) : ∃ flt held, s.blotTests = { s with
    flt := flt, mir := { s.mir with held := held }, power := { s.power with selfTests := [] } } := by
  suffices blotted : ∀ (l : List (Nat × Nat × Bool)) (t : State), ∃ flt held,
      l.foldl (fun t r => t.blot 0 0x0E unitFm (r.1 + 2 ^ 8 * r.2.1 + 2 ^ 16 * b2n r.2.2)) t =
        { t with flt := flt, mir := { t.mir with held := held } } from blotted _ _
  intro l
  induction l with
  | nil => exact fun t => ⟨t.flt, t.mir.held, rfl⟩
  | cons r l ih =>
    intro t
    obtain ⟨_, _, first, _⟩ := State.blot_frame t 0 0x0E unitFm (r.1 + 2 ^ 8 * r.2.1 + 2 ^ 16 * b2n r.2.2)
    rw [List.foldl_cons, first]
    exact ih _

/-- R437: a Henpen package that is refused fails the boot load with its status. -/
theorem State.bootHenpen_of_refused {code : W16} {detail : Nat}
    (refused : s.cpb.judge (s.mbx.ink.read s.cpb.henpenOffset.toNat s.cpb.henpenLen.toNat) 1 = .error (code, detail)) :
    s.bootHenpen = s.bootFails code detail := by
  simp only [State.bootHenpen, refused]

/-- R437: an accepted package whose image passes its self-test runs. -/
theorem State.bootHenpen_of_accepted {plain : List Byte}
    (accepted : s.cpb.judge (s.mbx.ink.read s.cpb.henpenOffset.toNat s.cpb.henpenLen.toNat) 1 = .ok plain)
    (passes : Config.selfTestPasses plain = true) :
    s.bootHenpen = s.bootRuns (packageImage (s.mbx.ink.read s.cpb.henpenOffset.toNat s.cpb.henpenLen.toNat) plain) := by
  have tested : Config.selfTestPasses
      (packageImage (s.mbx.ink.read s.cpb.henpenOffset.toNat s.cpb.henpenLen.toNat) plain).bytes = true := passes
  simp only [State.bootHenpen, accepted, if_pos tested]

/-- Settles O39: the clock, the delivery of each kind of key, and the two ends of the boot load. -/
theorem clockKeysAndBoot : Obligations.ClockKeysAndBoot := by
  refine fun s words key => ⟨refclkOk_of_nothingHeld, fun asked count => ⟨fun missing => ?_, fun k n verify counter state idle => ?_,
    fun k n verify counter state start => ?_⟩, fun asked missing => ?_, fun asked count pss missing => ?_,
    fun checking released test noPatch => ⟨fun code detail refused => ?_, fun plain accepted passes => ?_⟩⟩
  · rw [keyDelivery_of_taken asked (s.cpb.takeKey_image count),
      State.keysHere_of_missing (s := { s with cpb := { s.cpb with imageKey := some words } }) (missing.imp_right Or.inr)]
  · rw [keyDelivery_of_taken asked (s.cpb.takeKey_image count)]
    simp only [State.keysHere, verify, counter, state, idle, Bool.false_eq_true, if_true, if_false]
  · rw [keyDelivery_of_taken asked (s.cpb.takeKey_image count)]
    simp only [State.keysHere, verify, counter, state, start, if_true, State.startLoad]
  · rw [keyDelivery_of_taken asked (s.cpb.takeKey_counter key),
      State.keysHere_of_missing (s := { s with cpb := { s.cpb with counter := some key } }) (Or.inl missing)]
  · rw [keyDelivery_of_taken asked (s.cpb.takeKey_verify count pss),
      State.keysHere_of_missing (s := { s with cpb := { s.cpb with verifyKey := some words } }) (Or.inr (Or.inr missing))]
  · rw [bootCheckDone_of_noPatch checking released test noPatch, State.bootHenpen_of_refused refused]
    rfl
  · rw [bootCheckDone_of_noPatch checking released test noPatch, State.bootHenpen_of_accepted accepted passes]
    refine ⟨_, rfl, ?_⟩
    generalize packageImage_eq : packageImage _ plain = image
    obtain ⟨_, _, runs⟩ := State.blotTests_frame { s with
      cpb := { s.cpb with state := .running, lastStatus := Code.ok, henpenRollback := image.rollback }
      mgmt := { s.mgmt with
        image := some image, fwVersion := image.version, queueBase := Config.queueTableBase image.bytes
        eventBase := Config.eventStoreBase image.bytes, patternBase := Config.patternStoreBase image.bytes }
      mbx := { s.mbx with ink := [] }
      iga := { s.iga with configLatch := s.iga.configLatch && s.cfg.state != .training }
      splitters := s.splitters.map fun x => { x with heard := s.now }
      cfg := { s.cfg with train := .splitters } }
    obtain ⟨_, _, _, _, _, _, _, _, _, closed⟩ := State.close_frame (s := s.bootRuns image) s
    rw [closed, State.bootRuns, runs, ← packageImage_eq]
    exact ⟨rfl, rfl, rfl, rfl, rfl, rfl, rfl, rfl, rfl⟩

/-! ## Training -/

theorem LinkState.attempts_of_inTraining {l : LinkState} {k : Nat} (trains : l = .waiting ∨ l = .training k) :
    l.settled = false ∧ l ≠ .inReset ∧ l.attempts + 1 = if l = .waiting then 1 else k + 1 := by
  rcases trains with rfl | rfl <;> exact ⟨rfl, by simp only [ne_eq, reduceCtorEq, not_false_eq_true], rfl⟩

/-- R444: an attempt of a splitter in its phase ends with the link up, a retry, or the splitter absent. -/
theorem splitterTrainingAttemptEnd_of_inTraining {sp k : Nat} {x : Splitter} (up : Bool) (here : s.splitters[sp]? = some x)
    (phase : s.cfg.train = .splitters) (trains : x.link = .waiting ∨ x.link = .training k) :
    exec (.splitterTrainingAttemptEnd sp up) s =
      if up = true then done s ((s.freshLink sp).modSplitter sp fun x =>
        { Splitter.reset with link := .up, heard := s.now, testMode := x.testMode })
      else if s.now < x.heard + 200000 * (if x.link = .waiting then 1 else k + 1) then skip s
      else if 3 ≤ (if x.link = .waiting then 1 else k + 1) then
        done s ((s.modSplitter sp fun x => { x with link := .absent }).blotAbsent false sp
          (if x.link = .waiting then 1 else k + 1))
      else done s (s.modSplitter sp fun y => { y with link := .training (if x.link = .waiting then 1 else k + 1) }) := by
  obtain ⟨open_, released, tries⟩ := LinkState.attempts_of_inTraining trains
  simp only [exec, execSplitterTrainingAttemptEnd, here, phase, open_, tries, ne_eq, not_true_eq_false, Bool.false_eq_true,
    or_self, if_false, released, not_false_eq_true, and_true]

/-- R444: the end of a batch is a change of the configuration's state, and of the latch of source 0x3C8 alone. -/
theorem State.nextBatch_frame (fuel : Nat) (s : State) : ∃ cfg iga, State.nextBatch fuel s = { s with cfg := cfg, iga := iga } := by
  induction fuel generalizing s with
  | zero => exact ⟨s.cfg, s.iga, rfl⟩
  | succ fuel ih =>
    rw [State.nextBatch]
    split
    · split
      · exact ⟨_, _, rfl⟩
      · split
        · next b _ _ _ _ =>
          obtain ⟨_, _, later⟩ := ih { s with cfg := { s.cfg with train := .batch (b + 1) s.now } }
          exact ⟨_, _, later⟩
        · exact ⟨s.cfg, s.iga, rfl⟩
    · exact ⟨s.cfg, s.iga, rfl⟩

/-- R444: a batch with a Nib whose training has not ended goes on. -/
theorem State.nextBatch_of_unsettled {fuel since n : Nat} {x : Nib} (batch : s.cfg.train = .batch (n / 16) since)
    (here : s.nibs[n]? = some x) (open_ : x.link.settled = false) : State.nextBatch fuel s = s := by
  cases fuel with
  | zero => rfl
  | succ fuel =>
    obtain ⟨within, -⟩ := List.getElem?_eq_some_iff.mp here
    have built : ¬s.nibs.length ≤ 16 * (n / 16) := by omega
    have member : n ∈ s.batchNibs (n / 16) :=
      List.mem_filter.mpr ⟨List.mem_range.mpr within, beq_self_eq_true _⟩
    rw [State.nextBatch, batch]
    dsimp only
    rw [if_neg built, if_neg]
    intro all
    have ended := List.all_eq_true.mp all n member
    rw [here] at ended
    exact Bool.false_ne_true (open_.symm.trans ended)

/-- R444, R447: the last batch ends once all its Nibs have come to an end. -/
theorem State.nextBatch_of_last {fuel b since : Nat} (batch : s.cfg.train = .batch b since) (built : 16 * b < s.nibs.length)
    (last : s.nibs.length ≤ 16 * (b + 1)) (ended : ∀ y ∈ s.nibs, y.link = .up ∨ y.link = .absent) :
    State.nextBatch (fuel + 2) s =
      State.configReady { s with cfg := { s.cfg with train := .batch (b + 1) s.now } } := by
  have all : (s.batchNibs b).all (fun n => match s.nibs[n]? with | some x => x.link.settled | none => true) = true := by
    refine List.all_eq_true.mpr fun n _ => ?_
    split
    · next x here =>
      rcases ended x (List.mem_of_getElem? here) with link | link <;> rw [link] <;> rfl
    · rfl
  rw [State.nextBatch, batch]
  dsimp only
  rw [if_neg (by omega)]
  refine (if_pos all).trans ?_
  rw [State.nextBatch]
  exact if_pos last

/-- R446, R497: a Nib in training that shows ports trains through a splitter wired to it. -/
theorem nibTrainingAttemptEnd_of_good {n k sp b since : Nat} {x : Nib} (here : s.nibs[n]? = some x)
    (batch : s.cfg.train = .batch b since) (mine : n / 16 = b) (training : x.link = .training k) (shows : x.ports ≠ [])
    (wired : sp ∈ s.homes n) (serves : s.splitterUpNow sp = true) :
    exec (.nibTrainingAttemptEnd n true sp) s =
      .next (State.close s (State.nextBatch 18 (s.modNib n fun x => x.trained sp))) := by
  have good : (true && !x.ports.isEmpty && (s.homes n).contains sp && s.splitterUpNow sp) = true := by
    simp only [Bool.true_and, serves, List.contains_iff_mem.mpr wired, Bool.and_true, Bool.not_eq_true',
      List.isEmpty_eq_false_iff.mpr shows]
  simp only [exec, execNibTrainingAttemptEnd, batch, here, training, mine, ne_eq, not_true_eq_false, if_false, if_pos good]
  rfl

/-- R444: a failed attempt of a Nib before its third is counted. -/
theorem nibTrainingAttemptEnd_of_retry {n k sp b since : Nat} {x : Nib} (here : s.nibs[n]? = some x)
    (batch : s.cfg.train = .batch b since) (mine : n / 16 = b) (training : x.link = .training k)
    (due : x.trainFrom + 200000 * (k + 1) ≤ s.now) (more : k + 1 < 3) :
    exec (.nibTrainingAttemptEnd n false sp) s =
      .next (State.close s (s.modNib n fun x => { x with link := .training (k + 1) })) := by
  simp only [exec, execNibTrainingAttemptEnd, batch, here, training, mine, ne_eq, not_true_eq_false, if_false,
    Bool.false_and, Bool.false_eq_true, if_neg (Nat.not_lt.mpr due), if_neg (Nat.not_le.mpr more)]
  rfl

/-- R444: with every splitter trained or absent and every Nib within reach, batch 0 begins. -/
theorem splitterPhaseDone_of_reached {m : Nat} {x : Nib} (phase : s.cfg.train = .splitters)
    (ended : ∀ x ∈ s.splitters, x.link = .up ∨ x.link = .absent)
    (reached : ∀ m < s.nibs.length, ∃ j ∈ s.homes m, s.splitterUpNow j = true) (first : m < 16)
    (here : s.nibs[m]? = some x) (open_ : x.link ≠ .up ∧ x.link ≠ .absent) :
    exec .splitterPhaseDone s = .next (State.close s { s with cfg := { s.cfg with train := .batch 0 s.now } }) := by
  have settled : s.splitters.all (fun x => x.link.settled) = true :=
    List.all_eq_true.mpr fun y hy => by rcases ended y hy with link | link <;> rw [link] <;> rfl
  have noneLost : ((List.range s.nibs.length).filter fun n => !(s.homes n).any s.splitterUpNow) = [] :=
    List.filter_eq_nil_iff.mpr fun n hn => by
      rw [List.any_eq_true.mpr (reached n (List.mem_range.mp hn))]
      exact Bool.false_ne_true
  have unsettled : x.link.settled = false :=
    (Bool.or_eq_false_iff).mpr ⟨beq_eq_false_iff_ne.mpr open_.1, beq_eq_false_iff_ne.mpr open_.2⟩
  have batch : (TrainPhase.batch 0 s.now) = .batch (m / 16) s.now := by rw [Nat.div_eq_of_lt first]
  simp only [exec, execSplitterPhaseDone, phase, settled, and_self, if_true, noneLost, List.foldl_nil]
  exact congrArg (done s) (State.nextBatch_of_unsettled
    (s := { s with cfg := { s.cfg with train := .batch 0 s.now } }) batch here unsettled)

/-- R444: a Nib of the batch powers up at its place. -/
theorem nibPowerUp_of_due {n b since : Nat} {x : Nib} (here : s.nibs[n]? = some x) (batch : s.cfg.train = .batch b since)
    (mine : n / 16 = b) (waits : x.link = .waiting) (due : since + n % 16 * 256 ≤ s.now) :
    exec (.nibPowerUp n) s =
      .next (State.close s (s.modNib n fun x => { x with link := .training 0, trainFrom := s.now })) := by
  simp only [exec, execNibPowerUp, batch, here]
  rw [if_pos ⟨mine, Or.inl waits, due⟩]
  rfl

/-- Settles O40: the ends of an attempt, and the ends of the two phases. -/
theorem linkTraining : Obligations.LinkTraining := by
  refine fun s sp n k since b => ⟨fun x here phase trains => ⟨?_, fun due more => ?_, fun due spent => ?_⟩,
    fun phase ended reached _ ⟨m, x, first, here, up, absent⟩ =>
      splitterPhaseDone_of_reached phase ended reached first here ⟨up, absent⟩,
    fun x here batch mine => ⟨nibPowerUp_of_due here batch mine, fun training => ⟨fun shows wired serves => ?_,
      nibTrainingAttemptEnd_of_retry here batch mine training⟩⟩⟩
  · exact splitterTrainingAttemptEnd_of_inTraining true here phase trains
  · rw [splitterTrainingAttemptEnd_of_inTraining false here phase trains, if_neg Bool.false_ne_true,
      if_neg (Nat.not_lt.mpr due), if_neg (Nat.not_le.mpr more)]
    rfl
  · rw [splitterTrainingAttemptEnd_of_inTraining false here phase trains, if_neg Bool.false_ne_true,
      if_neg (Nat.not_lt.mpr due), if_pos spent]
    rfl
  · let trained := s.modNib n fun x => x.trained sp
    obtain ⟨_, _, ended⟩ := State.nextBatch_frame 18 trained
    obtain ⟨_, _, _, _, _, _, _, _, _, closed⟩ := State.close_frame (s := State.nextBatch 18 trained) s
    refine ⟨_, nibTrainingAttemptEnd_of_good here batch mine training shows wired serves, ?_⟩
    rw [closed]
    refine ⟨by rw [ended]; rfl, by rw [ended]; rfl, by rw [ended]; rfl, fun all last => ?_⟩
    have settled : ∀ y ∈ trained.nibs, y.link = .up ∨ y.link = .absent := by
      rw [ended] at all
      exact all
    obtain ⟨within, -⟩ := List.getElem?_eq_some_iff.mp here
    have length : trained.nibs.length = s.nibs.length := List.length_modify _ _ _
    have done_ : State.nextBatch 18 trained =
        State.configReady { trained with cfg := { trained.cfg with train := .batch (b + 1) trained.now } } :=
      State.nextBatch_of_last batch (by omega) (by omega) settled
    rw [done_]
    exact ⟨rfl, rfl, fun starting => if_pos starting⟩

end Sys2Proof.Machine
end

section
/-! The end of a seal check (R452 to R455). -/

namespace Sys2Proof.Machine

open Sys2Proof

variable {s : State}

/-! ## What Feed's steps of the rails change (R364) -/

/-- A state that Feed's steps may make of `s`: it differs in the rails and in trace records on their way alone. -/
def State.RailsOnly (s t : State) : Prop := ∃ inbound seqs rails, t = { s with
  trace := { s.trace with inbound := inbound, seqs := seqs }, feed := { s.feed with rails := rails } }

theorem State.RailsOnly.refl (s : State) : s.RailsOnly s := ⟨s.trace.inbound, s.trace.seqs, s.feed.rails, rfl⟩

theorem State.RailsOnly.trans {t u : State} : s.RailsOnly t → t.RailsOnly u → s.RailsOnly u := by
  rintro ⟨_, _, _, rfl⟩ ⟨_, _, _, rfl⟩
  exact ⟨_, _, _, rfl⟩

theorem State.RailsOnly.ite {c : Prop} [Decidable c] {t u : State} (ht : s.RailsOnly t) (hu : s.RailsOnly u) :
    s.RailsOnly (if c then t else u) := by
  split
  · exact ht
  · exact hu

theorem State.RailsOnly.modRail (s : State) (g : Nat) (f : Rail → Rail) : s.RailsOnly (s.modRail g f) :=
  ⟨s.trace.inbound, s.trace.seqs, _, rfl⟩

/-- R364: a step request of a group is a trace record and the group's request. -/
theorem State.RailsOnly.requestStep (s : State) (g level trim : Nat) : s.RailsOnly (s.requestStep g level trim) := by
  rw [State.requestStep]
  split
  · exact .refl s
  · next r _ =>
    obtain ⟨_, _, recorded⟩ :=
      State.recordAs_frame (s := s) unitFeed 0x0B s.aoNow (g + 16 * r.level + 256 * level) false (!s.awake)
    rw [State.record, recorded]
    exact ⟨_, _, _, rfl⟩

theorem State.RailsOnly.stepRail (s : State) (g : Nat) : s.RailsOnly (s.stepRail g) := by
  have asks (level trim : Nat) := RailsOnly.requestStep s g level trim
  unfold State.stepRail
  split
  · exact .refl s
  · exact .ite (.refl s) <| .ite (.ite (.refl s) ((asks _ _).trans (.modRail ..))) <|
      .ite (asks _ _) <| .ite (asks _ _) <| .ite (asks _ _) (.refl s)

/-- R364: Feed's steps of all groups change rails, and trace records on their way, alone. -/
theorem State.RailsOnly.stepRails (s : State) : s.RailsOnly s.stepRails := by
  unfold State.stepRails
  generalize List.range 16 = groups
  induction groups generalizing s with
  | nil => exact .refl s
  | cons g groups ih => exact (RailsOnly.stepRail s g).trans (ih _)

/-! ## The check -/

/-- R452: the first check fails where a table is missing, and names the first one. -/
theorem State.sealChecks_of_missing {k : SealCheck} (missing : ∃ n < 6, tget k.tables (n + 1) = none) :
    ∃ n, s.sealChecks k = some (Code.cfgTableMissing, n) ∧ 1 ≤ n ∧ n ≤ 6 ∧ tget k.tables n = none := by
  obtain ⟨m, bound, gone⟩ := missing
  have found : (lowest 6 fun i => (tget k.tables (i + 1)).isNone).isSome = true :=
    List.find?_isSome.mpr ⟨m, List.mem_range.mpr bound, by rw [gone]; rfl⟩
  obtain ⟨n, first⟩ := Option.isSome_iff_exists.mp found
  obtain ⟨small, absent, -⟩ := lowest_some first
  refine ⟨n + 1, ?_, by omega, by omega, Option.isNone_iff_eq_none.mp absent⟩
  simp only [State.sealChecks, List.findSome?_cons, first, failing, Option.map_some, id_eq]

theorem sealCheckDone_of_failure {k : SealCheck} {code : W16} {detail : Nat} (checking : s.cfg.check = some k)
    (fails : s.sealOutcome k = some (code, detail)) :
    exec .sealCheckDone s = .next (State.close s (s.sealFails code detail)) := by
  simp only [exec, execSealCheckDone, checking, fails]
  rfl

theorem sealCheckDone_of_success {k : SealCheck} (checking : s.cfg.check = some k) (passes : s.sealOutcome k = none) :
    exec .sealCheckDone s = .next (State.close s (s.sealCommits k)) := by
  simp only [exec, execSealCheckDone, checking, passes]
  rfl

/-- Settles O41: the first of the checks that fails, or the commit, of which Feed's steps touch the rails alone. -/
theorem sealCheckEnds : Obligations.SealCheckEnds := by
  refine fun s k checking => ⟨fun t changed => ?_, fun unchanged missing => ?_, fun code detail => sealCheckDone_of_failure checking,
    fun passes => ⟨_, sealCheckDone_of_success checking passes, ?_⟩⟩
  · simp only [State.sealOutcome, changed]
  · simp only [State.sealOutcome, unchanged]
    exact State.sealChecks_of_missing missing
  · obtain ⟨_, _, _, _, _, _, _, _, _, closed⟩ := State.close_frame (s := s.sealCommits k) s
    obtain ⟨_, _, _, stepped⟩ := State.RailsOnly.stepRails (State.sendRates { s with
      live := k.live
      parts := State.sealedParts { s with live := k.live } (s.sealParts k)
      sync := s.sync.reseal k.live.skein
      feed := { s.feed with rails := s.feed.rails.map (Rail.atSeal s.cfg.energyNew) }
      cfg := { s.cfg with state := .sealed, firstFail := 0, check := none, energyNew := false }
      iga := { s.iga with configLatch := false } })
    have commits : s.sealCommits k = _ := stepped
    rw [closed, commits]
    exact ⟨rfl, rfl, rfl, rfl, rfl, rfl, rfl, rfl, rfl, rfl, rfl, rfl, rfl, rfl, rfl, rfl, rfl⟩

end Sys2Proof.Machine
end

section
/-! Taking a request, and bulk data through Inkwell (R85, R95 to R99, R110). -/

namespace Sys2Proof.Machine

open Sys2Proof

variable {s : State}

/-! ## Taking a request -/

/-- The choice of R85 between the mailbox chosen so far and another: the other where its stamp is older. -/
def olderBox (best : Option (Nat × Mailbox)) (e : Mailbox × Nat) : Option (Nat × Mailbox) :=
  match best with
  | some (n, x) => if e.1.seen < x.seen then some (e.2, e.1) else some (n, x)
  | none => some (e.2, e.1)

theorem State.nextBox_eq (s : State) :
    s.nextBox = (s.mbx.boxes.zipIdx.filter fun e => e.1.state == .posted).foldl olderBox none := rfl

theorem olderBox_eq_or (best : Option (Nat × Mailbox)) (e : Mailbox × Nat) :
    olderBox best e = best ∨ olderBox best e = some (e.2, e.1) := by
  unfold olderBox
  split
  · split
    · exact Or.inr rfl
    · exact Or.inl rfl
  · exact Or.inr rfl

/-- R85: the mailbox taken next is one of the POSTED ones. -/
theorem State.nextBox_posted {n : Nat} {b : Mailbox} (next : s.nextBox = some (n, b)) : b.state = .posted := by
  suffices kept : ∀ (l : List (Mailbox × Nat)) (best : Option (Nat × Mailbox)), (∀ e ∈ l, e.1.state = .posted) →
      (∀ e ∈ best, e.2.state = .posted) → ∀ e ∈ l.foldl olderBox best, e.2.state = .posted from
    kept _ none (fun e he => eq_of_beq (List.mem_filter.mp he).2) (fun _ none_ => nomatch none_) (n, b) next
  intro l
  induction l with
  | nil => exact fun _ _ start => start
  | cons e l ih =>
    intro best posted start
    refine ih _ (fun x hx => posted x (List.mem_cons_of_mem e hx)) ?_
    rcases olderBox_eq_or best e with same | chosen
    · rw [same]
      exact start
    · rw [chosen]
      rintro _ ⟨⟩
      exact posted e List.mem_cons_self

/-- R110: with no admin submission waiting, the POSTED mailbox's request is taken, unless it ends as it is taken. -/
theorem managementCoreTake_of_box {n : Nat} {b : Mailbox} (req bulk : List Byte) (firmware : s.firmware = true)
    (idle : s.mgmt.exchange = .none) (room : s.mgmt.progs.length < 8) (next : s.nextBox = some (n, b))
    (noAdmin : s.nextAdmin = none) :
    let q : Prog := { ident := s.mgmt.nextProg, origin := .mailbox n, request := s.mbx.data.read (n * 0x100) b.reqLen
                      bulk := [], slots := 0, handed := 0, waitFrom := s.now, pendingAnswer := false }
    let t : State := State.modBox { s with mgmt := { s.mgmt with
      progs := s.mgmt.progs ++ [q], nextProg := s.mgmt.nextProg + 1 } } n fun b => { b with state := .busy }
    exec (.managementCoreTake req bulk) s = done s (match t.refusedAtTake q with
      | some (st, detail) => t.answer q st detail []
      | none => t) := by
  have taken : s.nextRequest req = some (.mailbox n, s.mbx.data.read (n * 0x100) b.reqLen) := by
    simp only [State.nextRequest, next, noAdmin]
  intro q t
  have byMailbox : q.isAdmin = false := rfl
  simp only [exec, execManagementCoreTake]
  rw [if_pos ⟨firmware, idle, room⟩, taken]
  rfl

/-! ## Bulk data -/

theorem State.boxOf_of_mailbox {p : Prog} {n : Nat} {b : Mailbox} (origin : p.origin = .mailbox n)
    (here : s.mbx.boxes[n]? = some b) : s.boxOf p = some (n, b) := by
  simp only [State.boxOf, origin, here, Option.map_some]

/-- A change of a command in progress that keeps its name is found under the name. -/
theorem State.prog_modProg {id : Nat} {f : Prog → Prog} {p : Prog} (named : ∀ p, (f p).ident = p.ident)
    (here : s.prog id = some p) : (s.modProg id f).prog id = some (f p) := by
  have test : ((fun p : Prog => p.ident == id) ∘ fun p => if p.ident = id then f p else p) = fun p => p.ident == id := by
    funext p
    by_cases mine : p.ident = id <;> simp [mine, named]
  have mine : p.ident = id := eq_of_beq (List.find?_some (p := fun p : Prog => p.ident == id) here)
  show List.find? _ (List.map _ _) = _
  rw [List.find?_map, test, show List.find? _ s.mgmt.progs = some p from here, Option.map_some, if_pos mine]

/-- R96: what the end of INKWELL_SLOT_TO_HOST leaves of its effect: the slots written, and the counts advanced. -/
theorem State.close_toHost {id n : Nat} {p : Prog} (here : s.prog id = some p) (ink : Memory) (len : Nat) :
    let t := State.close s (State.modProg (State.modBox { s with mbx := { s.mbx with ink := ink } } n fun b =>
      { b with toHost := (b.toHost + 1) % 16384 }) id fun p =>
      { p with slots := p.slots + 1, handed := p.handed + len, waitFrom := s.now })
    t.mbx.ink = ink ∧ (t.prog id).map Prog.handed = some (p.handed + len) ∧
      t.mbx.boxes = (s.modBox n fun b => { b with toHost := (b.toHost + 1) % 16384 }).mbx.boxes ∧
      t.mbx.data = s.mbx.data ∧ t.queues = s.queues ∧ t.ctxs = s.ctxs := by
  obtain ⟨_, _, _, _, _, _, _, _, _, closed⟩ := State.close_frame (s := State.modProg (State.modBox { s with
    mbx := { s.mbx with ink := ink } } n fun b => { b with toHost := (b.toHost + 1) % 16384 }) id fun p =>
      { p with slots := p.slots + 1, handed := p.handed + len, waitFrom := s.now }) s
  intro t
  have ended : t = _ := closed
  have found : t.prog id = some { p with slots := p.slots + 1, handed := p.handed + len, waitFrom := s.now } := by
    rw [ended]
    exact State.prog_modProg (fun _ => rfl) here
  rw [found, ended]
  exact ⟨rfl, rfl, rfl, rfl, rfl, rfl⟩

section Bulk
variable {id n : Nat} {p : Prog} {b : Mailbox} (here : s.prog id = some p) (origin : p.origin = .mailbox n)
  (box : s.mbx.boxes[n]? = some b) (firmware : s.firmware = true)
include here origin box firmware

/-- R96, R98: a slot that the host has handed over and that fails a check is poisoned, and the command ends. -/
theorem inkwellSlotConsume_of_failure {ecc : Bool} {code : W16} (bulk : takesBulk p.command = true) (more : p.full = false)
    (owned : wordOwner (s.slotWord (p.slot b)) = 2) (fails : s.slotFailure (p.slot b) b.toFw ecc = some code) :
    exec (.inkwellSlotConsume id ecc) s = .next (State.close s ((s.setOwner (p.slot b) 3).answer p code 0 [])) := by
  simp only [exec, execInkwellSlotConsume, here, Option.bind_some, State.boxOf_of_mailbox origin box, Option.map_some]
  rw [if_pos ⟨firmware, bulk, by rw [more]; exact Bool.false_ne_true, owned⟩, fails]
  rfl

/-- R96: the payload of a slot that passes the checks is the command's, and the slot is FREE. -/
theorem inkwellSlotConsume_of_sound {ecc : Bool} (bulk : takesBulk p.command = true) (more : p.full = false)
    (owned : wordOwner (s.slotWord (p.slot b)) = 2) (sound : s.slotFailure (p.slot b) b.toFw ecc = none) :
    exec (.inkwellSlotConsume id ecc) s = .next (State.close s
      (((s.setOwner (p.slot b) 0).modBox n fun b => { b with toFw := (b.toFw + 1) % 16384 }).modProg id fun q => { q with
        bulk := (q.bulk ++ s.mbx.ink.read (p.slot b * 0x1000 + 0x40) (64 * wordLen (s.slotWord (p.slot b)))).take q.dataLen
        slots := q.slots + 1, waitFrom := s.now })) := by
  simp only [exec, execInkwellSlotConsume, here, Option.bind_some, State.boxOf_of_mailbox origin box, Option.map_some]
  rw [if_pos ⟨firmware, bulk, by rw [more]; exact Bool.false_ne_true, owned⟩, sound]
  simp only [slotAddr]
  rfl

/-- R96, R97: a FREE slot takes payload for the host. -/
theorem inkwellSlotToHost_of_free {payload : List Byte} (noBulk : takesBulk p.command = false) (whole : p.handed % 4032 = 0)
    (slots : 0 < b.inkCount) (free : wordOwner (s.slotWord (p.slot b)) = 0) (some_ : 0 < payload.length)
    (fits : payload.length ≤ 4032) :
    let units := (payload.length + 63) / 64
    exec (.inkwellSlotToHost id payload) s = .next (State.close s (State.modProg (State.modBox { s with mbx := { s.mbx with
        ink := s.mbx.ink.write (p.slot b * 0x1000)
          (leBytes 8 (makeWord 1 b.toHost units (crc32c (padTo (64 * units) payload)).toNat) ++
            List.replicate 56 0 ++ padTo 4032 payload) } } n fun b => { b with toHost := (b.toHost + 1) % 16384 }) id fun p =>
      { p with slots := p.slots + 1, handed := p.handed + payload.length, waitFrom := s.now })) := by
  intro units
  have whole_ : payload.take 4032 = payload := List.take_of_length_le fits
  have units_ne : (payload.length + 63) / 64 ≠ 0 := by omega
  simp only [exec, execInkwellSlotToHost, here, Option.bind_some, State.boxOf_of_mailbox origin box, Option.map_some, whole_,
    if_neg units_ne]
  rw [if_pos ⟨firmware, by rw [noBulk]; exact Bool.false_ne_true, whole, slots, free⟩]
  simp only [slotAddr]
  rfl

/-- R99: a transfer that has waited 10 ms for a slot ends the command. -/
theorem inkTimeout_of_due (bulk : takesBulk p.command = true) (more : p.full = false)
    (waits : wordOwner (s.slotWord (p.slot b)) ≠ 2) (due : p.waitFrom + 10000000 ≤ s.now) :
    exec (.inkTimeout id) s = .next (State.close s (s.answer p Code.inkTimeout 0 [])) := by
  have waiting : (if takesBulk p.command then !p.full && wordOwner (s.slotWord (p.slot b)) != 2 else
      p.handed % 4032 == 0 && decide (0 < b.inkCount) && wordOwner (s.slotWord (p.slot b)) != 0) = true := by
    rw [if_pos bulk, more, bne_iff_ne.mpr waits]
    rfl
  simp only [exec, execInkTimeout, here, Option.bind_some, State.boxOf_of_mailbox origin box, Option.map_some]
  rw [if_pos ⟨firmware, waiting, due⟩]
  rfl

end Bulk

/-- Settles O42: the take of a mailbox's request, and each transfer of a slot. -/
theorem takingRequestsAndBulk : Obligations.TakingRequestsAndBulk := by
  refine fun s id n ecc payload req bulk p b firmware => ⟨fun idle room next noAdmin here => ?_, fun here origin box => ?_⟩
  · have take := managementCoreTake_of_box req bulk firmware idle room next noAdmin
    refine ⟨State.nextBox_posted next, fun passes => ?_, fun st detail refused => ?_⟩
    · rw [take, passes]
      rfl
    · rw [take, refused]
      rfl
  · refine ⟨fun bulk more owned => ⟨fun code fails => ?_, fun sound => ?_⟩,
      fun noBulk whole slots free some_ fits => ⟨_, inkwellSlotToHost_of_free here origin box firmware noBulk whole slots free
        some_ fits, ?_⟩,
      fun bulk more => inkTimeout_of_due here origin box firmware bulk more⟩
    · exact inkwellSlotConsume_of_failure here origin box firmware bulk more owned fails
    · exact inkwellSlotConsume_of_sound here origin box firmware bulk more owned sound
    · exact State.close_toHost here _ payload.length

end Sys2Proof.Machine
end

section
/-! Doorbells, tail words, and the paging of queue records (R166 to R168, R174, R175). -/

namespace Sys2Proof.Machine

open Sys2Proof

variable {s : State}

/-! ## Taking a doorbell (R78) -/

/-- The Queue Engine may take the oldest catcher entry, and no doorbell is held on the channel (R78, R80, R168). -/
structure State.MayTake (s : State) (e : Doorbell) (rest : List Doorbell) : Prop where
  oldest : s.bells.catcher = e :: rest
  held : s.bells.held = []
  enabled : s.awake = true ∧ s.primary = true ∧ ¬s.feed.halt = true ∧ ¬s.mgmt.warmReset = true ∧ s.qe.paging.length < 256

/-- The queue that a catcher entry rings. -/
def State.rung (s : State) (e : Doorbell) : Option (Nat × Queue) :=
  s.queues.find? fun x => x.2.dbPage == e.page && x.2.dbIndex == e.index && x.2.handle == e.handle

section Taking
variable {e : Doorbell} {rest : List Doorbell} (may : s.MayTake e rest)
include may

/-- With nothing held on the channel, the taken entry makes room for no other. -/
theorem State.MayTake.catchHeld : State.catchHeld s.bells.held.length { s with bells := { s.bells with catcher := rest } } =
    { s with bells := { s.bells with catcher := rest } } := by
  rw [may.held]
  rfl

/-- R78: an entry whose page is bound anew is STALE. -/
theorem doorbellTake_of_stale (anew : tget s.bells.binds e.page ≠ some e.handle) :
    exec .doorbellTake s = .next (State.close s
      (State.dropDoorbell { s with bells := { s.bells with catcher := rest } } e.page e.index 3)) := by
  simp only [exec, execDoorbellTake, may.oldest]
  rw [if_pos may.enabled, if_pos anew, may.catchHeld]
  rfl

variable (bound : tget s.bells.binds e.page = some e.handle)
include bound

/-- R78: an entry that rings no queue. -/
theorem doorbellTake_of_noQueue (none_ : s.rung e = none) :
    exec .doorbellTake s = .next (State.close s
      (State.dropDoorbell { s with bells := { s.bells with catcher := rest } } e.page e.index 2)) := by
  rw [State.rung] at none_
  simp only [exec, execDoorbellTake, may.oldest]
  rw [if_pos may.enabled, if_neg (not_not_intro bound), none_, may.catchHeld]
  rfl

variable {q : Nat} {x : Queue} (rings : s.rung e = some (q, x))
include rings

/-- R78: an entry that rings a disabled queue. -/
theorem doorbellTake_of_disabled (off : x.enabled = false) :
    exec .doorbellTake s = .next (State.close s
      (State.dropDoorbell { s with bells := { s.bells with catcher := rest } } e.page e.index 4)) := by
  rw [State.rung] at rings
  simp only [exec, execDoorbellTake, may.oldest]
  rw [if_pos may.enabled, if_neg (not_not_intro bound), rings, may.catchHeld]
  simp only [off, Bool.false_eq_true, not_false_eq_true, if_true]
  rfl

/-- R168, R175: an entry that rings an enabled queue of the host's asks for its record. -/
theorem doorbellTake_of_enabled (on : x.enabled = true) (host : x.device = false) :
    let t : State := { s with bells := { s.bells with catcher := rest } }
    exec .doorbellTake s = .next (s.ends
      (((t.recordWhen (s.trace.en && e.traced) unitQe 0x01 e.stamp (q + 2 ^ 20 * (e.tail.toNat % 2 ^ 28)) false
        e.ao).modQueue q fun x => { x with lastBell := e.stamp }).needRecord q e.tail)) := by
  rw [State.rung] at rings
  simp only [exec, execDoorbellTake, may.oldest]
  rw [if_pos may.enabled, if_neg (not_not_intro bound), rings, may.catchHeld]
  simp only [on, host, not_true_eq_false, if_false, Bool.false_eq_true]
  rfl

end Taking

/-! ## The tail word (R174, R175) -/

/-- R174: a tail word is accepted where its high half is zero and it lies between FETCH and a ring's length beyond HEAD. -/
theorem Queue.tailOk_iff (x : Queue) (w : W64) : x.tailOk w = true ↔ w.toNat < 2 ^ 32 ∧
    (x.fetch - x.head).toNat ≤ (w.setWidth 32 - x.head).toNat ∧ (w.setWidth 32 - x.head).toNat ≤ 2 ^ x.ringLog2 := by
  have high : (w.toNat / 2 ^ 32 == 0) = true ↔ w.toNat < 2 ^ 32 := by
    rw [beq_iff_eq, Nat.div_eq_zero_iff]
    omega
  simp only [Queue.tailOk, Bool.and_eq_true, high, decide_eq_true_eq, and_assoc]

section TailWord
variable {q : Nat} {r : MemReq} {u : State} {x : Queue} {p : TailProc} {w : W64}
  (answered : s.answered (.tailWord q) = some (r, u)) (here : tget u.queues q = some x) (runs : x.tailProc = some p)
  (fresh : x.tailDrop = 0)
include answered here runs fresh

/-- R175: a tail word that no discard has overtaken returns to the tail procedure. -/
theorem tailWordReturn_of_procedure :
    exec (.tailWordReturn q (some w)) s = .next (s.ends (u.tailReturned q x p w)) := by
  simp only [exec, execTailWordReturn, answered, here, runs, fresh, Nat.lt_irrefl, if_false]
  rfl

/-- R174: a tail word that fails the check. -/
theorem tailWordReturn_of_invalid (bad : x.tailOk w = false) :
    exec (.tailWordReturn q (some w)) s = .next (s.ends (u.tailInvalid q)) := by
  rw [tailWordReturn_of_procedure answered here runs fresh, State.tailReturned, if_pos (by rw [bad]; exact Bool.false_ne_true)]

/-- R175: an accepted tail word that covers D ends the procedure. -/
theorem tailWordReturn_of_covering (good : x.tailOk w = true)
    (covers : (p.d - x.fetch).toNat ≤ (w.setWidth 32 - x.fetch).toNat) :
    exec (.tailWordReturn q (some w)) s = .next (s.ends
      ((u.modQueue q fun x => { x with tail := w.setWidth 32, tailProc := none }).readAhead q)) := by
  have ends_ : (decide (2 ^ x.ringLog2 < (p.d - x.fetch).toNat) ||
      decide ((p.d - x.fetch).toNat ≤ (w.setWidth 32 - x.fetch).toNat)) = true := by
    rw [decide_eq_true covers, Bool.or_true]
  rw [tailWordReturn_of_procedure answered here runs fresh, State.tailReturned, if_neg (not_not_intro good)]
  simp only [ends_, Bool.not_true, Bool.false_and, Bool.true_or, if_true, Bool.false_eq_true, if_false]

end TailWord

/-- R175: 1 µs after the last return the tail word is read again. -/
theorem tailReread_of_due {q : Nat} {x : Queue} {p : TailProc} (here : tget s.queues q = some x) (runs : x.tailProc = some p)
    (idle : p.reading = false) (due : p.returned + 1000 ≤ s.now) :
    exec (.tailReread q) s = .next (State.close s (s.readTail q)) := by
  simp only [exec, execTailReread, here, Option.bind_some, runs, idle, Bool.not_false, Bool.true_and, decide_eq_true due,
    if_true]
  rfl

/-! ## Resident records (R166 to R168) -/

/-- R168, R179: a record that was read for a doorbell is resident, and the doorbell goes on. -/
theorem queueRecordLoaded_of_doorbell {q : Nat} {r : MemReq} {u : State} {d : W32}
    (answered : s.answered (.queueRecord q) = some (r, u)) (asked : tget s.qe.loads q = some (some d)) :
    exec (.queueRecordLoaded q) s = .next (State.close s (((u.makeResident q).bell q d).readAhead q)) := by
  simp only [exec, execQueueRecordLoaded, answered, asked]
  rfl

/-- The parts of the block that no paging of queue records touches. -/
def State.besideQueues (s : State) : Tbl Ctx × Tbl Task × Mbx := (s.ctxs, s.tasks, s.mbx)

theorem State.besideQueues_readMem (s : State) (w : MemWait) (pasid : Nat) (part : Option Nat) (addr : W64) (len : Nat)
    (phys : Bool) : (s.readMem w pasid part addr len phys).besideQueues = s.besideQueues := by
  obtain ⟨_, _, put⟩ := s.putMem_eq { wait := some w, op := .read, pasid := pasid, part := part, addr := addr, len := len
                                      data := [], atomic := false, phys := phys, since := s.now, dead := false, pages := [] }
  rw [State.readMem, put]
  rfl

theorem State.besideQueues_modQueue (s : State) (q : Nat) (f : Queue → Queue) :
    (s.modQueue q f).besideQueues = s.besideQueues := rfl

theorem State.besideQueues_readTail (s : State) (q : Nat) : (s.readTail q).besideQueues = s.besideQueues := by
  unfold State.readTail
  split
  · exact ite_keeps _ ((State.besideQueues_modQueue ..).trans (State.besideQueues_readMem ..)) rfl
  · rfl

theorem State.besideQueues_bell (s : State) (q : Nat) (d : W32) : (s.bell q d).besideQueues = s.besideQueues := by
  unfold State.bell
  split
  · rfl
  · refine ite_keeps _ rfl ?_
    split
    · rfl
    · exact State.besideQueues_readTail _ q

theorem State.besideQueues_pageInN (fuel : Nat) (s : State) : (State.pageInN fuel s).besideQueues = s.besideQueues := by
  induction fuel generalizing s with
  | zero => rfl
  | succ fuel ih =>
    unfold State.pageInN
    split
    · refine ite_keeps _ ((ih _).trans ?_) rfl
      split
      · exact ite_keeps _ (State.besideQueues_bell _ _ _) (ite_keeps _ rfl (State.besideQueues_readMem ..))
      · rfl
    · rfl

theorem State.pageIn_of_noPaging (none_ : s.qe.paging = []) : s.pageIn = s := by
  rw [State.pageIn, none_]
  rfl

/-- R478: a write of a record changes memory requests, translations and held effects alone. -/
theorem State.writePrivate_frame (s : State) (addr : W64) (data : List Byte) : ∃ mip xlat held,
    s.writePrivate addr data = { s with mip := mip, xlat := xlat, mir := { s.mir with held := held } } := by
  unfold State.writePrivate State.emit
  split
  · exact ⟨s.mip, s.xlat, _, rfl⟩
  · exact ⟨_, _, s.mir.held, rfl⟩

/-- R167: the choice of the record to be evicted, among those seen so far. -/
def State.evictableOf (s : State) (best : Option (Nat × Nat)) (e : Nat × Queue) : Option (Nat × Nat) :=
  if e.2.resident && !s.pinned e.1 then
    match best with
    | some (_, t) => if e.2.lastBell < t then some (e.1, e.2.lastBell) else best
    | none => some (e.1, e.2.lastBell)
  else best

theorem State.evictable_eq (s : State) : s.evictable = (s.queues.foldl s.evictableOf none).map Prod.fst := rfl

theorem State.evictableOf_unpinned {best : Option (Nat × Nat)} {e : Nat × Queue}
    (before : ∀ c ∈ best, s.pinned c.1 = false) : ∀ c ∈ s.evictableOf best e, s.pinned c.1 = false := by
  unfold State.evictableOf
  split
  · next free =>
    have unpinned : s.pinned e.1 = false := by simpa using (Bool.and_eq_true_iff.mp free).2
    split
    · split
      · rintro _ ⟨⟩
        exact unpinned
      · exact before
    · rintro _ ⟨⟩
      exact unpinned
  · exact before

/-- R166: no pinned record is evicted. -/
theorem State.pinned_of_evictable {q : Nat} (chosen : s.evictable = some q) : s.pinned q = false := by
  obtain ⟨c, best, rfl⟩ := Option.map_eq_some_iff.mp chosen
  exact List.foldlRecOn (motive := fun best => ∀ c ∈ best, s.pinned c.1 = false) s.queues s.evictableOf
    (fun c none_ => absurd none_ (Option.not_mem_none c)) (fun _ before _ _ => State.evictableOf_unpinned before) c best

/-- A record made not resident, without what was read ahead (R167). -/
def State.evicted (s : State) (q : Nat) : State :=
  let t := s.modQueue q fun x => { x.discardRa with resident := false }
  { t with qe := { t.qe with resident := t.qe.resident.filter (· != q) } }

/-- R167: above 8176 states in use a record is evicted and written back, and the paging list is served. -/
theorem queueEviction_of_full {q : Nat} (full : 8176 < s.residentUsed) (chosen : s.evictable = some q) : ∃ record,
    exec .queueEviction s =
      .next (State.close s (((s.evicted q).writePrivate ((s.evicted q).recordAddr q) record).pageIn)) := by
  simp only [exec, execQueueEviction, chosen, if_pos full]
  exact ⟨_, rfl⟩

/-- Settles O43: each fate of a doorbell, a tail word and a record by its lemma. -/
theorem doorbellsTailsAndRecords : Obligations.DoorbellsTailsAndRecords := by
  refine fun s q e rest x p w r u => ⟨fun oldest held awake primary running stays room => ?_,
    fun answered here runs fresh => ⟨x.tailOk_iff w, tailWordReturn_of_invalid answered here runs fresh,
      tailWordReturn_of_covering answered here runs fresh⟩,
    tailReread_of_due, fun d => queueRecordLoaded_of_doorbell,
    fun full chosen => ⟨State.pinned_of_evictable chosen, ?_⟩⟩
  · have may : s.MayTake e rest := ⟨oldest, held, awake, primary, Bool.eq_false_iff.mp running, Bool.eq_false_iff.mp stays, room⟩
    exact ⟨doorbellTake_of_stale may, fun bound => ⟨doorbellTake_of_noQueue may bound, doorbellTake_of_disabled may bound,
      doorbellTake_of_enabled may bound⟩⟩
  · obtain ⟨record, evicts⟩ := queueEviction_of_full full chosen
    obtain ⟨_, _, _, written⟩ := (s.evicted q).writePrivate_frame ((s.evicted q).recordAddr q) record
    refine ⟨_, evicts, ?_⟩
    generalize (s.evicted q).writePrivate ((s.evicted q).recordAddr q) record = v at written ⊢
    have kept : v.pageIn.besideQueues = s.besideQueues :=
      (State.besideQueues_pageInN _ v).trans (by rw [written]; rfl)
    have alone (none_ : s.qe.paging = []) : v.pageIn = v := State.pageIn_of_noPaging (by rw [written]; exact none_)
    obtain ⟨_, _, _, _, _, _, _, _, _, closed⟩ := State.close_frame (s := v.pageIn) s
    rw [closed]
    refine ⟨fun y here none_ => ?_, fun none_ => ?_, congrArg Prod.fst kept, congrArg (fun k => k.2.1) kept,
      congrArg (fun k => k.2.2) kept⟩
    · show tget v.pageIn.queues q = _
      rw [alone none_, written]
      exact (tget_tmod_self s.queues q _).trans (congrArg _ here)
    · show q ∉ v.pageIn.qe.resident
      rw [alone none_, written]
      exact fun member => by simpa using (List.mem_filter.mp member).2

end Sys2Proof.Machine
end

section
/-! Ring entries, arbitration, command bytes and buffer headers (R172, R176 to R178, R194, R225). -/

namespace Sys2Proof.Machine

open Sys2Proof

variable {s : State} {q : Nat}

/-! ## Ring entries and command bytes -/

/-- R172: the entries of the burst that has come. -/
theorem ringEntryReturn_of_answered {r : MemReq} {u : State} (entries : List (Option (List Byte)))
    (answered : s.answered (.ringEntry q) = some (r, u)) :
    exec (.ringEntryReturn q entries) s = .next (State.close s
      (u.entriesReturned q ((List.range (r.len / 64)).map fun i => match entries.getD i none with
        | some b => RaEntry.got (padTo 64 b) u.now | none => RaEntry.error u.now))) := by
  simp only [exec, execRingEntryReturn, answered]
  rfl

/-- R172: entries read before a discard are discarded. -/
theorem State.entriesReturned_of_discarded {y : Queue} {got : List RaEntry} (here : tget s.queues q = some y)
    (discards : 0 < y.raDrop) :
    s.entriesReturned q got = s.modQueue q fun x => { x with raDrop := x.raDrop - got.length } := by
  simp only [State.entriesReturned, here, if_pos discards]

/-- R225: the bytes of a read, or the error in their place, reach the stream that asked. -/
theorem cbReadReturn_of_answered {r : MemReq} {u : State} (answered : s.answered (.commandBytes q) = some (r, u)) :
    (∀ bytes, exec (.cbReadReturn q (some bytes)) s =
      .next (s.ends ((u.bytesReturned q ((padTo r.len bytes).map some)).cbFetch q))) ∧
    exec (.cbReadReturn q none) s = .next (s.ends ((u.bytesReturned q (List.replicate r.len none)).cbFetch q)) := by
  refine ⟨fun bytes => ?_, ?_⟩
  · simp only [exec, execCbReadReturn, answered]
    rfl
  · simp only [exec, execCbReadReturn, answered]
    rfl

/-! ## Arbitration -/

/-- R177: the class visited is the lowest-numbered one with a ready queue. -/
theorem State.readyClass_lowest {k : Nat} (chosen : s.readyClass = some k) :
    k < 8 ∧ ∀ j < k, ∀ e ∈ s.queues, e.2.cls = j → s.ready e.1 = false := by
  obtain ⟨bound, -, before⟩ := lowest_some chosen
  refine ⟨bound, fun j below e member cls => ?_⟩
  have idle := List.any_eq_false.mp (before j below) e member
  rw [cls, beq_self_eq_true, Bool.true_and] at idle
  exact Bool.eq_false_iff.mpr idle

section FirstVisit
variable {k : Nat} {x : Queue} {c : Chain}

/-- A queue visited for the first time in its class, its DEFICIT, not positive before, topped up by its weight (R178). -/
def State.firstVisit (s : State) (k q : Nat) : State :=
  (s.setVisit k q true).modQueue q fun x => { x with deficit := clampDeficit (x.deficit + x.weight) }

theorem State.tget_firstVisit (here : tget s.queues q = some x) :
    tget (s.firstVisit k q).queues q = some { x with deficit := clampDeficit (x.deficit + x.weight) } :=
  (tget_tmod_self s.queues q _).trans (by rw [here, Option.map_some])

variable (awake : s.awake = true) (primary : s.primary = true) (running : s.feed.halt = false)
  (stays : s.mgmt.warmReset = false) (chosen : s.readyClass = some k) (fresh : tget s.qe.visits k = none)
  (first : (s.queues.find? fun e => e.2.cls == k && s.ready e.1) = some (q, x)) (here : tget s.queues q = some x)
  (spent : x.deficit ≤ 0) (complete : chainAt (q == 0) x.ra = some c)
include awake primary running stays chosen fresh first here spent complete

/-- R178: the first visit of a class goes to its first ready queue, and grants a chain if its DEFICIT is positive now. -/
theorem arbiterGrant_of_firstVisit :
    exec .arbiterGrant s = if 0 < clampDeficit (x.deficit + x.weight) then .next (s.ends ((s.firstVisit k q).grant q c))
      else .next (State.close s (s.firstVisit k q)) := by
  have toppedUp : ((s.setVisit k q true).modQueue q fun x =>
      if x.deficit ≤ 0 then { x with deficit := clampDeficit (x.deficit + x.weight) } else x) = s.firstVisit k q := by
    have same : tmod s.queues q (fun x =>
          if x.deficit ≤ 0 then { x with deficit := clampDeficit (x.deficit + x.weight) } else x) =
        tmod s.queues q fun x => { x with deficit := clampDeficit (x.deficit + x.weight) } :=
      tmod_congr fun a found => by
        obtain rfl := Option.some.inj (here.symm.trans found)
        exact if_pos spent
    exact congrArg (fun queues => { s.setVisit k q true with queues := queues }) same
  simp only [exec, execArbiterGrant]
  rw [if_pos ⟨awake, primary, Bool.eq_false_iff.mp running, Bool.eq_false_iff.mp stays⟩]
  simp only [chosen, fresh, first, Option.map_some, Option.isSome_none, Bool.false_eq_true, if_false, toppedUp,
    State.tget_firstVisit here, complete]
  rfl

end FirstVisit

/-! ## The buffer header -/

/-- R11: reserved bytes that are all 0 pass their checks. -/
theorem firstFail_reservedAt {b : List Byte} {off n : Nat} (clear : zeros (slice b off n) = true) :
    firstFail (reservedAt b off n) = none := by
  rw [firstFail, Option.map_eq_none_iff, List.find?_eq_none]
  intro c member
  obtain ⟨i, inside, rfl⟩ := List.mem_map.mp member
  have zero : b.getD (off + i) 0 = 0 := by
    rw [List.getD_eq_getElem?_getD]
    cases at_ : b[off + i]? with
    | none => rfl
    | some v =>
      have part : (slice b off n)[i]? = some v := by
        rw [slice, List.getElem?_take_of_lt (List.mem_range.mp inside), List.getElem?_drop, at_]
      exact eq_of_beq (List.all_eq_true.mp clear v (List.mem_of_getElem? part))
  show ¬(!(b.getD (off + i) 0 == 0)) = true
  rw [zero]
  exact Bool.false_ne_true

section Header
variable {x : Queue} {u : Sub} {slot : Nat} {c : Ctx} (front : s.front q = some (x, u, slot, c)) (start : u.header = false)
  (read : 16 ≤ u.held.length) (whole : firstBad (u.held.take 16) = none)
include front start read whole

/-- R194: a header of version 1 without reserved bits takes the ordering flag, and leaves the stream. -/
theorem bufferHeader_of_good (version : le (plain (u.held.take 16)) 0 2 = 1) (flags : le (plain (u.held.take 16)) 2 2 < 2)
    (clear : zeros (slice (plain (u.held.take 16)) 4 12) = true) :
    exec (.bufferHeader q) s = .next (s.ends
      ((((s.consume q u.seq 16).modSub q u.seq fun v =>
        { v with header := true, explicit := bit (le (plain (u.held.take 16)) 2 2) 0 }).maybeRetire q u.seq).cbFetch q)) := by
  have passes : firstFail ([(0, le (plain (u.held.take 16)) 0 2 == 1, Code.cbHeaderBad),
      (if le (plain (u.held.take 16)) 2 1 < 2 then 3 else 2, decide (le (plain (u.held.take 16)) 2 2 < 2), Code.reservedSet)]
      ++ reservedAt (plain (u.held.take 16)) 4 12) = none := by
    rw [firstFail, Option.map_eq_none_iff]
    simp only [List.cons_append, List.nil_append, version, beq_self_eq_true, decide_eq_true flags, Bool.not_true,
      List.find?_cons]
    exact Option.map_eq_none_iff.mp (firstFail_reservedAt clear)
  simp only [exec, execBufferHeader, front, start, Bool.false_eq_true, Nat.not_lt.mpr read, or_self, if_false, passes, whole]
  rfl

/-- R194: a header of another version fails the submission. -/
theorem bufferHeader_of_version (version : le (plain (u.held.take 16)) 0 2 ≠ 1) :
    exec (.bufferHeader q) s = .next (s.ends (s.parseFail q u.seq Code.cbHeaderBad)) := by
  simp only [exec, execBufferHeader, front, start, Bool.false_eq_true, Nat.not_lt.mpr read, or_self, if_false, whole,
    firstFail, List.cons_append, List.find?_cons, beq_eq_false_iff_ne.mpr version, Bool.not_false, Option.map_some]
  rfl

end Header

/-- Settles O44: the ends of each kind of read, the first visit of a class, and the header's checks. -/
theorem ringEntriesAndArbitration : Obligations.RingEntriesAndArbitration := by
  refine fun s q k entries bytes x c r u sub slot ctx => ⟨fun answered => ⟨ringEntryReturn_of_answered entries answered,
      fun y got => State.entriesReturned_of_discarded⟩,
    fun awake primary running stays chosen => ?_, fun answered => ?_, fun front start read whole => ?_⟩
  · obtain ⟨bound, before⟩ := State.readyClass_lowest chosen
    refine ⟨bound, before, fun fresh first here spent complete => ?_⟩
    have visit := arbiterGrant_of_firstVisit awake primary running stays chosen fresh first here spent complete
    exact ⟨fun positive => visit.trans (if_pos positive), fun none_ => visit.trans (if_neg (Int.not_lt.mpr none_))⟩
  · obtain ⟨given, failed⟩ := cbReadReturn_of_answered answered
    exact ⟨given bytes, failed⟩
  · exact ⟨bufferHeader_of_good front start read whole, bufferHeader_of_version front start read whole⟩

end Sys2Proof.Machine
end

section
/-! Commands that parsing completes or lets into the window (R197, R203, R206 to R229). -/

namespace Sys2Proof.Machine

open Sys2Proof

variable {s : State} {q slot opcode : Nat} {x : Queue} {u : Sub} {c : Ctx} {b : List Byte}
  {c5 : List Byte → List Check} {c6 : Sub → Nat → Ctx → List Byte → List Check}

/-! ## The three ends of a parse row -/

section
variable (effect : Queue → Sub → Nat → Ctx → List Byte → State → State)

/-- R197: a command that passes every check of its parse leaves the stream and takes the effect of its parse. -/
theorem parsed_of_parses (h : s.parses q opcode c5 c6 x u slot c b) :
    parsed s (s.parseRow q opcode c5 c6 effect) =
      .next (s.parsedTo q u (effect x u slot c b (s.consume q u.seq b.length))) := by
  rw [State.parseRow_of_parses effect h]
  rfl

/-- R197: a header that fails checks 1 to 4 fails the submission, whichever row meets it. -/
theorem parsed_of_badHeader {row : Option Nat} {code : W16} (front : s.front q = some (x, u, slot, c))
    (next : u.next (!x.kernel) = some (row, .error code)) (mine : row = none ∨ row = some opcode) :
    parsed s (s.parseRow q opcode c5 c6 effect) = .next (s.ends (s.parseFail q u.seq code)) := by
  have notOther : ¬(row ≠ none ∧ row ≠ some opcode) := fun ⟨known, other⟩ => mine.elim known other
  simp only [State.parseRow, front, next, if_neg notOther]
  rfl

/-- R197: a command that fails check 5 fails the submission. -/
theorem parsed_of_badField {code : W16} (front : s.front q = some (x, u, slot, c))
    (next : u.next (!x.kernel) = some (some opcode, .ok (b.map some)))
    (fails : (firstFail (c5 b)).map Prod.snd = some code) :
    parsed s (s.parseRow q opcode c5 c6 effect) = .next (s.ends (s.parseFail q u.seq code)) := by
  obtain ⟨⟨o, _⟩, found, rfl⟩ := Option.map_eq_some_iff.mp fails
  simp only [State.parseRow, front, next, plain_map_some, verdict, firstBad_map_some, found, ne_eq, not_true_eq_false,
    and_false, if_false]
  rfl

end

/-! ## CHAIN and HINT_PHASE -/

/-- R228: the stream of a submission goes on at the target of its CHAIN. -/
def State.chainTo (s : State) (q : Nat) (u : Sub) (b : List Byte) : State := s.modSub q u.seq fun v =>
  { v with segs := [(le64 b 8, le b 0x10 4)], held := [], asked := 0, chains := v.chains + 1, parsed := false }

/-- R228: a CHAIN drops the read under way, if there is one. -/
theorem chain_of_parses {v : Sub}
    (h : s.parses q 0x01 chainChecks (fun u _ _ _ => [(0, decide (u.chains < 255), Code.chainLimit)]) x u slot c b)
    (stream : (s.consume q u.seq b.length).subOf q u.seq = some v) :
    exec (.chain q) s = .next (s.parsedTo q u
      (if v.asked != 0 then ((s.consume q u.seq b.length).chainTo q u b).modQueue q fun x => { x with cbDrop := x.cbDrop + 1 }
      else (s.consume q u.seq b.length).chainTo q u b)) := by
  rw [exec, execChain, parsed_of_parses _ h]
  simp only [stream]
  rfl

/-- R224: a hint goes to the context's partition, and is lost without one. -/
theorem hintPhase_of_parses (h : s.parses q 0x40 hintPhaseChecks noChecks x u slot c b) :
    (c.partition = none → exec (.hintPhase q) s = .next (s.parsedTo q u (s.consume q u.seq b.length))) ∧
    (∀ p, c.partition = some p → exec (.hintPhase q) s = .next (s.parsedTo q u
      ((s.consume q u.seq b.length).takeHint p (le b 4 2) (le b 6 2) (le b 8 4) (le b 0xC 1)))) := by
  rw [exec, execHintPhase, parsed_of_parses _ h]
  refine ⟨fun none_ => ?_, fun p some_ => ?_⟩
  · simp only [none_]
  · simp only [some_]

/-! ## The fence -/

/-- Of submissions that hold one command together, the one that holds it is the first in which a test finds it. -/
theorem findSome?_of_only {subs : List Sub} {d : Cmd} (ok : Cmd → Bool) (only : subs.flatMap Sub.cmds = [d]) (member : u ∈ subs)
    (mine : u.cmds = [d]) (accepts : ok d = true) :
    (subs.findSome? fun u => (u.cmds.find? ok).map fun c => (u, c)) = some (u, d) := by
  induction subs with
  | nil => cases member
  | cons v vs ih =>
    rw [List.findSome?_cons]
    rcases List.mem_cons.mp member with rfl | later
    · rw [mine, List.find?_cons_of_pos accepts]
      rfl
    · have held : d ∈ vs.flatMap Sub.cmds := List.mem_flatMap.mpr ⟨u, later, by rw [mine]; exact List.mem_singleton_self d⟩
      have none_ : v.cmds = [] := by
        have count := congrArg List.length only
        rw [List.flatMap_cons, List.length_append, List.length_singleton] at count
        have some_ := List.length_pos_of_mem held
        exact List.eq_nil_of_length_eq_zero (by omega)
      rw [List.flatMap_cons, none_, List.nil_append] at only
      rw [none_]
      exact ih only later

/-- The count of a queue's commands is the length of their list. -/
theorem foldl_cmds_length (subs : List Sub) (n : Nat) :
    subs.foldl (fun n u => n + u.cmds.length) n = n + (subs.flatMap Sub.cmds).length := by
  induction subs generalizing n with
  | nil => rfl
  | cons v vs ih => rw [List.foldl_cons, ih, List.flatMap_cons, List.length_append, Nat.add_assoc]

/-- R226: with the fence the only command left, what was read beyond it is dropped, and it completes. -/
theorem fenceFetchComplete_of_only {d : Cmd} (here : tget s.queues q = some x) (only : x.subs.flatMap Sub.cmds = [d])
    (member : u ∈ x.subs) (mine : u.cmds = [d]) (fence : d.op = .fenceFetch) (runs : s.dmeRuns x.dme = true) :
    exec (.fenceFetchComplete q) s = .next (s.begunTo q ((s.modQueue q Queue.refetch).completeCmd q u.seq d.off)) := by
  have found := findSome?_of_only (fun c => c.op == .fenceFetch) only member mine (beq_iff_eq.mpr fence)
  have count : x.subs.foldl (fun n u => n + u.cmds.length) 0 = 1 := by rw [foldl_cmds_length, only]; rfl
  simp only [exec, execFenceFetchComplete, here, found]
  rw [if_pos ⟨count, runs⟩]
  rfl

/-- Settles O45: each row by the end of its parse; the fence by its completion. -/
theorem streamCommands : Obligations.StreamCommands := by
  intro s q slot x u v c b row code d t
  refine ⟨fun h => parsed_of_parses _ h, fun h stream => ⟨fun idle => ?_, fun reading => ?_⟩, fun h => parsed_of_parses _ h,
    fun h => parsed_of_parses _ h, hintPhase_of_parses, fun h => parsed_of_parses _ h, fun h => parsed_of_parses _ h,
    fun h => parsed_of_parses _ h, fun h => parsed_of_parses _ h,
    fun front next => ⟨parsed_of_badHeader _ front next, parsed_of_badHeader _ front next⟩,
    fun front next fails => parsed_of_badField _ front next fails, fenceFetchComplete_of_only⟩
  · exact (chain_of_parses h stream).trans (by rw [idle]; rfl)
  · exact (chain_of_parses h stream).trans (by rw [if_pos (bne_iff_ne.mpr reading)]; rfl)

end Sys2Proof.Machine
end
